-- ==== Sys2Proof/Word.lean ====
section
/-!
DEFINITION. Word types of the block and the units of its time.

Registers, mailbox structures and frames are bit vectors where the spec numbers their bits.
Counts, table indices and addresses of sparse memories are natural numbers; signed quantities of a
configuration field are integers.
-/
namespace Sys2Proof

/-- One byte (R4). -/
abbrev Byte := BitVec 8
/-- A 16-bit field. -/
abbrev W16 := BitVec 16
/-- A 32-bit register. -/
abbrev W32 := BitVec 32
/-- A 64-bit field or counter. -/
abbrev W64 := BitVec 64

/-- CLK_TIME ticks in one microsecond: 800 MHz (R356, Table 20.9). -/
abbrev usTicks : Nat := 800
/-- CLK_TIME ticks in one millisecond. -/
abbrev msTicks : Nat := 800000
/-- CLK_TIME ticks in one second. -/
abbrev secTicks : Nat := 800000000

end Sys2Proof
end

