-- ==== Sys2Proof/Syntax.lean ====
section
/-!
DEFINITION. The commands of the block: one constructor of `Instr` per row of the table of operations
and events. A mailbox command carries its command entry (Table 3.6) and what the bus did with its
transfers; a UR-340 command its UR entry (Table 19.3); a register access its port and value; an
event the values that the outside world or the measurement supplies. An event whose rule speaks of
time carries `dt`, the CLK_TIME ticks that pass before it since the step before it.
-/
namespace Sys2Proof

/-- The two PCIe host ports (R51). -/
inductive HostPort where
  | h0
  | h1
  deriving DecidableEq, Repr

/-- The register windows of a host port (Table 3.2): BAR0 and the direct window BAR2. -/
inductive Bar where
  | bar0
  | bar2
  deriving DecidableEq, Repr

/-- A mailbox command entry (Table 3.6) as the chip fetched it, less its OPCODE, which the
constructor names, with the request bytes and the outcome of the two transfers (R63). -/
structure Entry where
  /-- The queue that held the entry, 0 to 15. -/
  queue : Nat
  seq : W16
  flags : W16
  tag : W32
  reqLen : W16
  replyMax : W16
  reqAddr : W64
  replyAddr : W64
  /-- The request payload, REQ_LEN bytes, from INLINE or from REQ_ADDR. -/
  req : List Byte
  /-- The read of the payload at REQ_ADDR succeeds. -/
  readOk : Bool
  /-- The write of a reply body at REPLY_ADDR succeeds. -/
  writeOk : Bool
  deriving DecidableEq, Repr

/-- A UR-340 command entry (Table 19.3), less its OPCODE, with its PARAM_LEN parameter bytes. -/
structure UrEntry where
  tag : Byte
  paramLen : W16
  param : List Byte
  deriving DecidableEq, Repr

/-- The label of a member drive (Table 9.1), less its CRC. -/
structure DriveLabel where
  arrayId : Nat
  position : Nat
  generation : Nat
  chunks : Nat
  /-- PRESENT, a map of positions. -/
  present : Nat
  /-- REBUILDING, a map of positions. -/
  rebuilding : Nat
  rebuildPoint : Nat
  highWater : Nat
  histOrigin : Nat
  deriving DecidableEq, Repr

/-- What the identification of a drive finds (R227). -/
structure DriveInfo where
  /-- The controller reports NVMe 2.0. -/
  nvme2 : Bool
  /-- Namespace 1 is active. -/
  ns1 : Bool
  /-- Namespace 1 uses 4,096 data bytes and no metadata. -/
  lba4096 : Bool
  /-- Capacity in bytes. -/
  capacity : Nat
  /-- The label with the highest GENERATION whose CRC verifies. -/
  label : Option DriveLabel
  deriving DecidableEq, Repr

/-- An item on a crossing of the Lattice (Table 1.4), at the read side. -/
inductive CrossItem where
  /-- X04: the next descriptor of a Facet. -/
  | descriptor (facet : Nat)
  /-- X06, X12, X13, X14 towards the switch: the next packet of a source. -/
  | ingress (port : Nat)
  /-- X07, X09, X13, X14 from the switch: the next replica of an egress. -/
  | egress (port : Nat)
  /-- X08: the next journal record. -/
  | journal
  /-- X05 (acknowledgements) or X11: the next PPDU request of a sector. -/
  | request (sector : Nat) (ack : Bool)
  deriving DecidableEq, Repr

/-- What a word of a memory of Table 17.2 holds. -/
inductive MemWord where
  /-- Shared packet buffer: a cell of the replica that an egress reads next. -/
  | buffer (port : Nat)
  | nodeRecord (node : Nat)
  /-- Forwarding entries by table place: L2, IPv6 and IPv4. -/
  | l2 (place : Nat)
  | v6 (place : Nat)
  | v4 (place : Nat)
  /-- A classification entry. -/
  | stage (n place : Nat)
  /-- A counter held in table memory, by its key. -/
  | counter (key : Nat)
  | facet (f : Nat)
  | apex
  | staging (item : CrossItem)
  | samples
  | keySlot (n : Nat)
  | lattice (item : CrossItem)
  | otp
  deriving DecidableEq, Repr

/-- What the power-up test finds (Table 17.3). -/
structure BistResult where
  /-- Failing memory rows, by locus. -/
  rows : List Nat
  /-- Failing Facets, by logical position 0 to 255. -/
  facets : List Nat
  /-- Prisms whose spare Facet fails. -/
  spares : List Nat
  /-- Failing blocks that nothing covers, by locus. -/
  logic : List Nat
  lanes : List Nat
  decoders : List Nat
  sectors : List Nat
  /-- Failing ports: E0 to E63, MG0 and MG1 by number, C0 to C11 from 0x60, H0, H1, D0 to D3 from 0x80. -/
  ports : List Nat
  /-- The known-answer tests pass. -/
  katOk : Bool
  /-- The restored Apex image has its digest (R449). -/
  digestOk : Bool
  deriving DecidableEq, Repr

/-- The rails that the power controller supervises (Table 20.1, R515). -/
inductive Rail where
  | core
  | sram
  | serdes0v9
  | serdes1v2
  | rfA
  | rfB
  | io
  deriving DecidableEq, Repr

/-- What a read of a regulator over PMBus finds (R512, R515). -/
inductive RegulatorRead where
  /-- In tolerance, with warning bits or without. -/
  | good
  /-- An output fault in STATUS_WORD, or the regulator rejects a command. -/
  | fault
  /-- The transaction is not answered. -/
  | silent
  deriving DecidableEq, Repr

/-- How a bring-up of the rails ends (Table 20.2). -/
inductive BringUp where
  /-- Every rail is in tolerance and the synthesizer locks. -/
  | good
  /-- The rails are good and REF_CLK is absent at step 7. -/
  | noRef
  /-- VDD_IO is not the level that VIO_SEL selects (R530). -/
  | wrongIo
  /-- The step of a rail misses its limit. -/
  | railFault (r : Rail)
  deriving DecidableEq, Repr

/-- Instructions of the TAP (R410). -/
inductive TapInstr where
  | idcode
  | bypass
  | extest
  | intest
  /-- An AC instruction of IEEE 1149.6. -/
  | ac
  /-- Access to the Apex debug port. -/
  | debug
  /-- Any other code. -/
  | other
  deriving DecidableEq, Repr

/-- What happens at the TAP (R410). -/
inductive TapOp where
  /-- TRST_N is asserted. -/
  | reset
  /-- An instruction is shifted in and takes effect. -/
  | shiftInstr (i : TapInstr)
  /-- Data are shifted through the register of the instruction. -/
  | shiftData
  /-- The debug port makes an access at a Lattice address (class 0x9). -/
  | access (write : Bool) (addr : Nat)
  deriving DecidableEq, Repr

/-- One command of the block: one constructor per row of the table of operations and events. -/
inductive Instr where
  -- System and modes (Table 18.6)
  /-- SYS_IDENTIFY: Returns the family, stepping, variant, firmware version, compatibility level, life-cycle state and mode (R2) -/
  | sysIdentify (e : Entry)
  /-- SYS_STATUS: Returns the mode status word, epoch, Meridian time, array state, twin role and summary flags (R475) -/
  | sysStatus (e : Entry)
  /-- SYS_MODE_SET: Requests a listed mode transition, checks its preconditions and completes when the transition does (R33) -/
  | sysModeSet (e : Entry)
  /-- SYS_LIFECYCLE_SET: Moves the life-cycle state forward under a signed token, destroys keys as required and resets (R31) -/
  | sysLifecycleSet (e : Entry)
  /-- SYS_MODE_PARAM_SET: Stages fields of the BACKHAUL or QUIESCENT commit group (R40) -/
  | sysModeParamSet (e : Entry)
  /-- SYS_MODE_PARAM_GET: Reads back the live or staged BACKHAUL or QUIESCENT group (R40) -/
  | sysModeParamGet (e : Entry)
  /-- SYS_BACKHAUL_REPORT: Host software reports which backhaul ports it finds reachable, for PROBE_REQUIRED (R41) -/
  | sysBackhaulReport (e : Entry)
  /-- SYS_CONFIG_COMMIT: Checks the named staged groups and makes them live together as one commit, updating the epoch (R472) -/
  | sysConfigCommit (e : Entry)
  /-- SYS_CONFIG_DISCARD: Discards the staged copies of the named groups owned by this queue (R472) -/
  | sysConfigDiscard (e : Entry)
  /-- SYS_EVENT_ROUTE: Routes an event code, or every code, to one of the event rings (R70) -/
  | sysEventRoute (e : Entry)
  /-- SYS_JOB_STATUS: Returns the job record of a running or recently completed class D job (R474) -/
  | sysJobStatus (e : Entry)
  /-- SYS_FW_STAGE: Writes a piece of a firmware image set into the staged set in the BOOT region (R476) -/
  | sysFwStage (e : Entry)
  /-- SYS_FW_VERIFY: Starts a job that verifies the signature of the staged firmware set (R476) -/
  | sysFwVerify (e : Entry)
  /-- SYS_FW_ACTIVATE: Starts a job that makes the staged or previous set the in-force firmware set (R476) -/
  | sysFwActivate (e : Entry)
  /-- SYS_FW_STATUS: Returns the version, compatibility level and state of the three firmware sets (R475) -/
  | sysFwStatus (e : Entry)
  /-- SYS_COMPAT_PROFILE_LOAD: Loads or removes the UR-340 compatibility profile for the next BOOT (R489) -/
  | sysCompatProfileLoad (e : Entry)
  /-- SYS_COMPAT_MIGRATE: Requests migration from ACTIVE_C to ACTIVE_N at the next handover boundary (R508) -/
  | sysCompatMigrate (e : Entry)
  /-- UNLISTED_OPCODE: A command whose opcode no table lists completes with BAD_OPCODE (R467) -/
  | unlistedOpcode (opcode : W16) (e : Entry)
  -- Ports and switch (Table 18.7)
  /-- PORT_CFG_SET: Stages fields of a PORT_p commit group (R262) -/
  | portCfgSet (e : Entry)
  /-- PORT_CFG_GET: Reads back a live or staged PORT_p group (R262) -/
  | portCfgGet (e : Entry)
  /-- PORT_STATUS: Returns link state, speed, transmit start threshold, pause state and equalizer settings of a port (R477) -/
  | portStatus (e : Entry)
  /-- PORT_COUNTERS_GET: Returns, and optionally clears, the 64-bit counters of one port (R280) -/
  | portCountersGet (e : Entry)
  /-- PORT_SERDES_SET: Stages lane settings of a SERDES group (R267) -/
  | portSerdesSet (e : Entry)
  /-- PORT_SERDES_GET: Reads back a SERDES group (R267) -/
  | portSerdesGet (e : Entry)
  /-- SW_BUFFER_SET: Stages fields of the SW_BUFFER group (R336) -/
  | swBufferSet (e : Entry)
  /-- SW_BUFFER_GET: Reads back the SW_BUFFER group (R336) -/
  | swBufferGet (e : Entry)
  /-- SW_QOS_SET: Stages the queue and shaper fields of a QOS_p group (R336) -/
  | swQosSet (e : Entry)
  /-- SW_QOS_GET: Reads back a QOS_p group (R336) -/
  | swQosGet (e : Entry)
  /-- SW_MIRROR_SET: Stages the mirror sessions of SW_MIRROR (R346) -/
  | swMirrorSet (e : Entry)
  /-- SW_MIRROR_GET: Reads back SW_MIRROR (R346) -/
  | swMirrorGet (e : Entry)
  /-- SW_QUEUE_FLUSH: Flushes the masked queues of one port, and optionally its egress crossing (R349) -/
  | swQueueFlush (e : Entry)
  /-- SW_PRP_SET: Stages the PRP pairs and PRP_FORGET (R350) -/
  | swPrpSet (e : Entry)
  /-- SW_PRP_GET: Reads back SW_PRP and the per-pair PRP counters (R350) -/
  | swPrpGet (e : Entry)
  /-- SW_QUEUE_STATUS: Returns occupancy, deficits, tokens and pause state of a port's queues and chip-wide buffer figures (R355) -/
  | swQueueStatus (e : Entry)
  /-- SW_COUNTERS_GET: Returns, and optionally clears, the queue and mirror counters of one port (R355) -/
  | swCountersGet (e : Entry)
  /-- PORT_HOST_TX: Sends host frames into the switch through the host port, classified or direct to an egress queue (R478) -/
  | portHostTx (e : Entry)
  /-- PORT_HOST_RX_SET: Binds, configures, enables or disables the host receive ring (R479) -/
  | portHostRxSet (e : Entry)
  /-- PORT_HOST_RX_RELEASE: Reports host receive entries consumed so the ring can take more replicas (R479) -/
  | portHostRxRelease (e : Entry)
  -- Classification and forwarding (Table 18.10)
  /-- CLS_STAGE_SET: Stages the kind, key fields, size and default action of a classification stage (R293) -/
  | clsStageSet (e : Entry)
  /-- CLS_STAGE_GET: Reads back a CLS_Sn group (R293) -/
  | clsStageGet (e : Entry)
  /-- CLS_ENTRY_WRITE: Writes one classification entry into the staged copy of its stage (R300) -/
  | clsEntryWrite (e : Entry)
  /-- CLS_ENTRY_READ: Reads one classification entry from the live or staged copy (R300) -/
  | clsEntryRead (e : Entry)
  /-- CLS_ENTRY_DELETE: Deletes one staged classification entry (R300) -/
  | clsEntryDelete (e : Entry)
  /-- CLS_ENTRY_BULK: Writes a block of classification entries, stopping at the first that fails (R301) -/
  | clsEntryBulk (e : Entry)
  /-- CLS_METER_SET: Stages the fields of a range of meters (R299) -/
  | clsMeterSet (e : Entry)
  /-- CLS_METER_GET: Reads meter fields and current bucket levels (R299) -/
  | clsMeterGet (e : Entry)
  /-- CLS_PARSER_SET: Stages the parser exception actions and trap codes (R289) -/
  | clsParserSet (e : Entry)
  /-- CLS_PARSER_GET: Reads back the PARSER group (R289) -/
  | clsParserGet (e : Entry)
  /-- CLS_COUNTER_GET: Returns, and optionally clears, a range of classification counters at one instant (R302) -/
  | clsCounterGet (e : Entry)
  /-- CLS_STATS_GET: Returns, and optionally clears, the counters of one pipeline (R302) -/
  | clsStatsGet (e : Entry)
  /-- CLS_POLICER_SET: Stages the rate and burst of a range of policers (R344) -/
  | clsPolicerSet (e : Entry)
  /-- CLS_POLICER_GET: Reads policer fields, bucket levels and pass and drop counts (R344) -/
  | clsPolicerGet (e : Entry)
  /-- FWD_PARAM_SET: Stages router MACs, anchors, ageing, learning and slow-path parameters (R326) -/
  | fwdParamSet (e : Entry)
  /-- FWD_PARAM_GET: Reads back FWD_PARAM and the slow-path Facet numbers (R326) -/
  | fwdParamGet (e : Entry)
  /-- FWD_ENTRY_WRITE: Stages an insert or replace of a STATIC L2 or an L3 entry (R327) -/
  | fwdEntryWrite (e : Entry)
  /-- FWD_ENTRY_READ: Reads one forwarding entry from the live or staged view (R326) -/
  | fwdEntryRead (e : Entry)
  /-- FWD_ENTRY_DELETE: Stages the deletion of a forwarding entry (R327) -/
  | fwdEntryDelete (e : Entry)
  /-- FWD_ENTRY_BULK: Stages a block of forwarding entry writes (R327) -/
  | fwdEntryBulk (e : Entry)
  /-- FWD_NEXTHOP_SET: Stages a range of next-hop entries (R326) -/
  | fwdNexthopSet (e : Entry)
  /-- FWD_NEXTHOP_GET: Reads a range of next-hop entries (R326) -/
  | fwdNexthopGet (e : Entry)
  /-- FWD_VLAN_SET: Stages the member set, LEARN and ROUTE of one VLAN (R326) -/
  | fwdVlanSet (e : Entry)
  /-- FWD_VLAN_GET: Reads one VLAN entry (R326) -/
  | fwdVlanGet (e : Entry)
  /-- FWD_L2_FLUSH: Removes learned L2 entries, local or REMOTE, matching a port, a VID or both (R317) -/
  | fwdL2Flush (e : Entry)
  /-- FWD_COUNTERS_GET: Returns, and optionally clears, the forwarding counters (R332) -/
  | fwdCountersGet (e : Entry)
  -- Mesh and nodes (Table 18.11)
  /-- MESH_TIMING_SET: Stages TS_LEN, ASN_ORIGIN and MESH_SLEW (R173) -/
  | meshTimingSet (e : Entry)
  /-- MESH_TIMING_GET: Reads MESH_TIMING with the current ASN and MESH_SHIFT (R173) -/
  | meshTimingGet (e : Entry)
  /-- MESH_TEMPLATE_SET: Stages the fields of a timeslot template (R174) -/
  | meshTemplateSet (e : Entry)
  /-- MESH_TEMPLATE_GET: Reads back a timeslot template (R174) -/
  | meshTemplateGet (e : Entry)
  /-- MESH_SCHEDULE_SET: Stages hopping sequences, slotframes or links of MESH_SCHEDULE (R175) -/
  | meshScheduleSet (e : Entry)
  /-- MESH_SCHEDULE_GET: Reads hopping sequences, slotframes or links (R175) -/
  | meshScheduleGet (e : Entry)
  /-- MESH_DRIFT_PARAM_SET: Stages the drift model parameters (R191) -/
  | meshDriftParamSet (e : Entry)
  /-- MESH_DRIFT_PARAM_GET: Reads back MESH_DRIFT (R191) -/
  | meshDriftParamGet (e : Entry)
  /-- MESH_NODE_DRIFT_GET: Returns the drift state of a node (R190) -/
  | meshNodeDriftGet (e : Entry)
  /-- MESH_NODE_DRIFT_RESET: Resets a node's drift model to unlearned (R195) -/
  | meshNodeDriftReset (e : Entry)
  /-- MESH_NODE_SYNC_SET: Writes a node's SYNC_MODE (R190) -/
  | meshNodeSyncSet (e : Entry)
  /-- MESH_MAC_COUNTERS_GET: Returns, and optionally clears, the mesh MAC counters (R200) -/
  | meshMacCountersGet (e : Entry)
  /-- MESH_NODE_ADD: Admits a node, or re-joins it, writing its record and address entries (R204) -/
  | meshNodeAdd (e : Entry)
  /-- MESH_NODE_GET: Returns a node record (R201) -/
  | meshNodeGet (e : Entry)
  /-- MESH_PARTITION_GET: Returns the committed, staged or in-use partition map (R12) -/
  | meshPartitionGet (e : Entry)
  /-- MESH_NODE_STATE_SET: Sets a node ACTIVE or BLOCKED and clears SEC_FAILS (R202) -/
  | meshNodeStateSet (e : Entry)
  /-- MESH_NODE_REKEY: Sets or cancels a pending re-key of a node (R222) -/
  | meshNodeRekey (e : Entry)
  /-- MESH_NODE_KEY_EXPORT: Returns a node key wrapped under a named slot (R210) -/
  | meshNodeKeyExport (e : Entry)
  /-- MESH_SECURITY_SET: Stages master slots, HEAD_EUI64 and security timing fields (R206) -/
  | meshSecuritySet (e : Entry)
  /-- MESH_SECURITY_GET: Reads MESH_SECURITY and the time of the last complete checkpoint (R206) -/
  | meshSecurityGet (e : Entry)
  /-- MESH_SEC_COUNTERS_GET: Returns, and optionally clears, the mesh security counters (R224) -/
  | meshSecCountersGet (e : Entry)
  /-- MESH_NODE_REMOVE: Returns a node index to FREE and discards its queue and address entries (R204) -/
  | meshNodeRemove (e : Entry)
  /-- MESH_NODE_RESTORE: Forces restoration of a node record from the twin or the last checkpoint (R203) -/
  | meshNodeRestore (e : Entry)
  /-- MESH_PARTITION_SET: Stages the Facet of a range of partitions (R482) -/
  | meshPartitionSet (e : Entry)
  /-- MESH_ADDR_BULK: Writes short addresses of a run of nodes, stopping at the first failure (R482) -/
  | meshAddrBulk (e : Entry)
  /-- MESH_GX_LQ_SET: Stages the GX-OFDM link-quality feedback parameters (R167) -/
  | meshGxLqSet (e : Entry)
  /-- MESH_GX_LQ_GET: Reads back GX_LQ (R167) -/
  | meshGxLqGet (e : Entry)
  -- Radio (Table 18.12)
  /-- RADIO_SECTOR_SET: Stages the fields of a SECTOR_s group (R87) -/
  | radioSectorSet (e : Entry)
  /-- RADIO_SECTOR_GET: Reads back a SECTOR_s group (R87) -/
  | radioSectorGet (e : Entry)
  /-- RADIO_FRONTEND_SET: Stages the front-end timing and coexistence fields of a sector (R88) -/
  | radioFrontendSet (e : Entry)
  /-- RADIO_FRONTEND_GET: Reads back a FRONT_END_s group (R88) -/
  | radioFrontendGet (e : Entry)
  /-- RADIO_CAL_WRITE: Stages calibration entries of a sector, optionally marked persistent (R86) -/
  | radioCalWrite (e : Entry)
  /-- RADIO_CAL_READ: Reads calibration entries from the live or staged table (R86) -/
  | radioCalRead (e : Entry)
  /-- RADIO_REG_READ: Returns the regulatory record in force, its slot, unused slots and state (R100) -/
  | radioRegRead (e : Entry)
  /-- RADIO_REG_WRITE: Burns a regulatory record into the next unused slot in PROVISIONED (R101) -/
  | radioRegWrite (e : Entry)
  /-- RADIO_REG_UPDATE: Starts a job that checks and burns a signed regulatory update (R102) -/
  | radioRegUpdate (e : Entry)
  /-- RADIO_TX_COUNTERS_GET: Returns, and optionally clears, a sector's transmit counters (R108) -/
  | radioTxCountersGet (e : Entry)
  /-- RADIO_DUTY_STATUS: Returns the reserved Arc channels and the USED and limit of every duty-cycle account (R106) -/
  | radioDutyStatus (e : Entry)
  /-- RADIO_RX_SET: Stages the window, layers and receiver fields of RX_s (R109) -/
  | radioRxSet (e : Entry)
  /-- RADIO_RX_GET: Reads back an RX_s group (R109) -/
  | radioRxGet (e : Entry)
  /-- RADIO_DETECTOR_SET: Stages a range of detector entries of a sector (R114) -/
  | radioDetectorSet (e : Entry)
  /-- RADIO_DETECTOR_GET: Reads a range of detector entries (R114) -/
  | radioDetectorGet (e : Entry)
  /-- RADIO_RX_COUNTERS_GET: Returns lanes held and, optionally clearing, a sector's receive counters (R138) -/
  | radioRxCountersGet (e : Entry)
  /-- RADIO_IQ_CAPTURE: Arms an IQ capture job, taking the capture area from the packet buffer (R141) -/
  | radioIqCapture (e : Entry)
  /-- RADIO_IQ_READ: Reads captured IQ blocks from a block offset (R141) -/
  | radioIqRead (e : Entry)
  -- Keys (Table 15.10)
  /-- KEY_SLOT_INFO: Returns the state, owner and attribute word of a key slot (R381) -/
  | keySlotInfo (e : Entry)
  /-- KEY_GENERATE: Fills an EMPTY slot with DRBG output and given attributes (R403) -/
  | keyGenerate (e : Entry)
  /-- KEY_IMPORT_PLAIN: Writes a plain key into an EMPTY slot, with a token in DEPLOYED (R403) -/
  | keyImportPlain (e : Entry)
  /-- KEY_IMPORT_WRAPPED: Unwraps a key blob into an EMPTY slot with an optional narrowing mask (R404) -/
  | keyImportWrapped (e : Entry)
  /-- KEY_EXPORT_WRAPPED: Returns a slot's key wrapped under a permitted wrapping slot (R404) -/
  | keyExportWrapped (e : Entry)
  /-- KEY_DERIVE: Derives a key by HKDF from a DERIVE slot into an EMPTY slot (R403) -/
  | keyDerive (e : Entry)
  /-- KEY_ERASE: Sets a slot EMPTY and closes contexts that use it (R401) -/
  | keyErase (e : Entry)
  /-- KEY_CTX_OPEN: Opens a host crypto context on a slot at a priority (R399) -/
  | keyCtxOpen (e : Entry)
  /-- KEY_CTX_UPDATE: Feeds one segment of message to an open context (R400) -/
  | keyCtxUpdate (e : Entry)
  /-- KEY_CTX_FINAL: Finishes a context's message, returns its result and closes it (R399) -/
  | keyCtxFinal (e : Entry)
  /-- KEY_CTX_CLOSE: Closes an open context (R399) -/
  | keyCtxClose (e : Entry)
  /-- KEY_AUTH_NONCE: Returns DEVICE_UID and a fresh authorization nonce (R389) -/
  | keyAuthNonce (e : Entry)
  /-- KEY_AUTHORITY_SET: Burns the OWNER or REG authority or revokes an IMG entry (R387) -/
  | keyAuthoritySet (e : Entry)
  /-- KEY_TAMPER_CFG_SET: Sets LID_ACTION and LID_FILTER, with a token where it weakens them (R394) -/
  | keyTamperCfgSet (e : Entry)
  /-- KEY_TAMPER_STATUS: Returns the tamper latch and live sensor states, optionally clearing the latch (R396) -/
  | keyTamperStatus (e : Entry)
  /-- KEY_PERIMETER_GET: Returns the Perimeter descriptors, lock, counters and violation log (R406) -/
  | keyPerimeterGet (e : Entry)
  /-- KEY_DEBUG_UNLOCK: Opens boundary scan or Apex debug until reset, under a token (R409) -/
  | keyDebugUnlock (e : Entry)
  -- Time (Table 18.14)
  /-- TIME_GET: Returns T, C, MER_STATUS and SLOW_RATIO read at one tick (R380) -/
  | timeGet (e : Entry)
  /-- TIME_SERVO_SET: Sets the servo owner and HOLD_TIMEOUT (R359) -/
  | timeServoSet (e : Entry)
  /-- TIME_SERVO_GET: Reads back the servo owner and HOLD_TIMEOUT (R359) -/
  | timeServoGet (e : Entry)
  /-- TIME_PTP_PORT_SET: Sets a port's PTP mode and domain (R367) -/
  | timePtpPortSet (e : Entry)
  /-- TIME_PTP_PORT_GET: Reads a port's PTP mode, domain and PEER_DELAY (R367) -/
  | timePtpPortGet (e : Entry)
  /-- TIME_COUNTERS_GET: Returns, and optionally clears, the time counters, OVERFLOW and SKIPPED fields (R380) -/
  | timeCountersGet (e : Entry)
  -- Clusters and twins (Table 16.9)
  /-- CLUSTER_SET: Stages the CLUSTER group (R411) -/
  | clusterSet (e : Entry)
  /-- CLUSTER_GET: Reads back the CLUSTER group (R411) -/
  | clusterGet (e : Entry)
  /-- TWIN_STATUS: Returns role, lease, SYNCED, eligibility, offset and backfill position (R439) -/
  | twinStatus (e : Entry)
  /-- CLUSTER_STATUS: Returns presence, mode, epoch, compatibility, offset and links of each member (R439) -/
  | clusterStatus (e : Entry)
  /-- TWIN_RESYNC: Starts a bulk resynchronization job of the standby (R427) -/
  | twinResync (e : Entry)
  /-- CHORD_COUNTERS_GET: Returns, and optionally clears, the Chord link and chip counters (R440) -/
  | chordCountersGet (e : Entry)
  /-- TWIN_HEALTH_GET: Returns the twin's last health report (R436) -/
  | twinHealthGet (e : Entry)
  -- Storage (Table 18.14)
  /-- STORE_STATUS: Returns the array state, labels, positions, rebuild point and journal positions (R229) -/
  | storeStatus (e : Entry)
  /-- STORE_FORMAT: Starts a job that creates an array on three or four drives (R232) -/
  | storeFormat (e : Entry)
  /-- STORE_DRIVE_ADD: Places a drive into the absent position of a DEGRADED array and starts a rebuild (R235) -/
  | storeDriveAdd (e : Entry)
  /-- STORE_DRIVE_RETIRE: Takes a current member out of a NORMAL array and idles its port (R237) -/
  | storeDriveRetire (e : Entry)
  /-- STORE_PARAM_SET: Stages the STORE group (R260) -/
  | storeParamSet (e : Entry)
  /-- STORE_PARAM_GET: Reads back the STORE group (R260) -/
  | storeParamGet (e : Entry)
  /-- STORE_DDQ_GET: Returns a node's deferred frames and bytes on chip and spilled, and head age (R242) -/
  | storeDdqGet (e : Entry)
  /-- STORE_DDQ_FLUSH: Discards a node's deferred-delivery queue (R242) -/
  | storeDdqFlush (e : Entry)
  /-- STORE_IMAGE_PUT: Writes a piece of a node-firmware image into a slot, checking its digest on the last piece (R256) -/
  | storeImagePut (e : Entry)
  /-- STORE_IMAGE_LIST: Returns the image slots (R256) -/
  | storeImageList (e : Entry)
  /-- STORE_IMAGE_DELETE: Frees an image slot not used by a campaign (R256) -/
  | storeImageDelete (e : Entry)
  /-- STORE_CAMPAIGN_START: Starts distribution of a READY image to member nodes over broadcast cells (R257) -/
  | storeCampaignStart (e : Entry)
  /-- STORE_CAMPAIGN_STATUS: Returns a campaign's pass and member progress (R257) -/
  | storeCampaignStatus (e : Entry)
  /-- STORE_CAMPAIGN_STOP: Ends a running campaign (R257) -/
  | storeCampaignStop (e : Entry)
  /-- STORE_JOURNAL_READ: Reads journal blocks or decoded records from a position or time (R252) -/
  | storeJournalRead (e : Entry)
  /-- STORE_HISTORY_READ: Returns a node's link-history ring (R255) -/
  | storeHistoryRead (e : Entry)
  /-- STORE_COUNTERS_GET: Returns, and optionally clears, the storage counters (R261) -/
  | storeCountersGet (e : Entry)
  -- Diagnostics (Table 18.14)
  /-- DIAG_HEALTH_GET: Returns the chip's health report (R454) -/
  | diagHealthGet (e : Entry)
  /-- DIAG_HEALTH_RESOLVE: Marks a health entry resolved (R457) -/
  | diagHealthResolve (e : Entry)
  /-- DIAG_BIST_RUN: Starts a job running named tests under save and restore (R451) -/
  | diagBistRun (e : Entry) (inUse : Bool)
  /-- DIAG_LATTICE_STATUS: Returns a crossing's status word and counters, clearing NOCREDIT_SEEN (R21) -/
  | diagLatticeStatus (e : Entry)
  /-- DIAG_PARAM_SET: Stages the dump scope and host dump fields (R463) -/
  | diagParamSet (e : Entry)
  /-- DIAG_PARAM_GET: Reads back the DIAG group (R463) -/
  | diagParamGet (e : Entry)
  /-- DIAG_DUMP_LIST: Returns both dump slot headers and the last-fatal record (R464) -/
  | diagDumpList (e : Entry)
  /-- DIAG_DUMP_READ: Starts a job copying a dump slot to a host buffer (R464) -/
  | diagDumpRead (e : Entry)
  /-- DIAG_DUMP_ERASE: Sets a dump slot EMPTY (R464) -/
  | diagDumpErase (e : Entry)
  /-- DIAG_REPAIR_GET: Returns spare rows in use, Facet positions served by spares and the repair-candidate list (R466) -/
  | diagRepairGet (e : Entry)
  /-- DIAG_ECC_COUNTERS_GET: Returns, and optionally clears, the memory and integrity counters (R466) -/
  | diagEccCountersGet (e : Entry)
  /-- DIAG_DUMP_FORCE: Raises a fatal error with cause HOST_FORCED (R458) -/
  | diagDumpForce (e : Entry)
  /-- DIAG_FRAME_CAPTURE: Arms a job capturing a sector's descriptors and PSDUs into the capture area (R486) -/
  | diagFrameCapture (e : Entry)
  /-- DIAG_FRAME_READ: Reads captured descriptors and PSDUs (R486) -/
  | diagFrameRead (e : Entry)
  -- UR-340 commands (Table 19.6)
  /-- UR_GET_VERSION: UR command returning UR_ID, UR_VERSION and FW_VERSION (R495) -/
  | urGetVersion (u : UrEntry)
  /-- UR_GET_STATUS: UR command returning UR_STATUS, node count, UR time and link map (R495) -/
  | urGetStatus (u : UrEntry)
  /-- UR_SET_STATE: UR command moving to CONFIG, ACTIVE_C or STANDBY_C (R495) -/
  | urSetState (u : UrEntry)
  /-- UR_CLEAR_STATS: UR command clearing port, mesh and radio counters (R495) -/
  | urClearStats (u : UrEntry)
  /-- UR_PORT_SET: UR command configuring one of E0 to E7 (R495) -/
  | urPortSet (u : UrEntry)
  /-- UR_PORT_GET: UR command returning a port's settings and link state (R495) -/
  | urPortGet (u : UrEntry)
  /-- UR_PORT_STATS: UR command reading and clearing a port's counters at 32 bits (R495) -/
  | urPortStats (u : UrEntry)
  /-- UR_L2_ADD: UR command inserting a STATIC L2 entry (R495) -/
  | urL2Add (u : UrEntry)
  /-- UR_L2_DEL: UR command deleting an L2 entry (R495) -/
  | urL2Del (u : UrEntry)
  /-- UR_L2_FLUSH: UR command flushing learned L2 entries (R497) -/
  | urL2Flush (u : UrEntry)
  /-- UR_L2_AGE: UR command setting or turning off L2 ageing (R495) -/
  | urL2Age (u : UrEntry)
  /-- UR_MESH_CFG: UR command setting slot length, channel plan, receivers and detectors (R499) -/
  | urMeshCfg (u : UrEntry)
  /-- UR_LINK_ADD: UR command adding a link in the lowest free entry (R495) -/
  | urLinkAdd (u : UrEntry)
  /-- UR_LINK_DEL: UR command invalidating a link (R495) -/
  | urLinkDel (u : UrEntry)
  /-- UR_SLOTFRAME_SET: UR command setting a slotframe (R495) -/
  | urSlotframeSet (u : UrEntry)
  /-- UR_NODE_ADD: UR command adding or replacing a node (R495) -/
  | urNodeAdd (u : UrEntry)
  /-- UR_NODE_DEL: UR command removing a node (R495) -/
  | urNodeDel (u : UrEntry)
  /-- UR_NODE_GET: UR command returning a node's identity, counters and RSSI (R495) -/
  | urNodeGet (u : UrEntry)
  /-- UR_NODE_REKEY: UR command setting a pending re-key (R495) -/
  | urNodeRekey (u : UrEntry)
  /-- UR_NODE_BLOCK: UR command blocking or unblocking a node (R495) -/
  | urNodeBlock (u : UrEntry)
  /-- UR_KEY_SET: UR command installing a master key for a parity in its reserved slot pair (R495) -/
  | urKeySet (u : UrEntry)
  /-- UR_TIME_GET: UR command returning UR time and Meridian time (R495) -/
  | urTimeGet (u : UrEntry)
  /-- UR_TIME_SET: UR command setting Meridian time with ADJ_MODE SET (R495) -/
  | urTimeSet (u : UrEntry)
  /-- UR_TWIN_CFG: UR command setting twin membership fields of CLUSTER (R507) -/
  | urTwinCfg (u : UrEntry)
  /-- UR_TWIN_SWITCH: UR command requesting a planned handover (R507) -/
  | urTwinSwitch (u : UrEntry)
  /-- UR_UNLISTED_OPCODE: A UR command with an unlisted opcode completes with BAD_CMD (R494) -/
  | urUnlistedOpcode (opcode : Byte) (u : UrEntry)
  -- Register accesses
  /-- BOOT_DOORBELL: Signals a host-supplied boot image complete, served at once or held while drives are read (R74) -/
  | bootDoorbell (port : HostPort) (v : W32)
  /-- MQ_SQ_TAIL_WRITE: Command doorbell: takes the new tail or sets DB_ERR (R61) -/
  | mqSqTailWrite (port : HostPort) (q : Nat) (v : W32)
  /-- MQ_CQ_HEAD_WRITE: Completion doorbell: takes the consumed count or sets DB_ERR (R62) -/
  | mqCqHeadWrite (port : HostPort) (q : Nat) (v : W32)
  /-- MQ_CTRL_ENABLE: ENABLE = 1 starts a DISABLED queue with its rings restarted from the current indices (R72) -/
  | mqCtrlEnable (port : HostPort) (q : Nat) (v : W32)
  /-- MQ_CTRL_DISABLE: ENABLE = 0 moves a RUNNING queue to DRAINING or a HALTED one to DISABLED (R72) -/
  | mqCtrlDisable (port : HostPort) (q : Nat) (v : W32)
  /-- MQ_SEQ_NEXT_WRITE: Sets the expected sequence number of a DISABLED queue and empties its reply cache (R72) -/
  | mqSeqNextWrite (port : HostPort) (q : Nat) (v : W32)
  /-- MQ_CLAIM: Writing 1 claims an unowned queue for the writing port (R55) -/
  | mqClaim (port : HostPort) (q : Nat) (v : W32)
  /-- MQ_RELEASE: Writing 0 releases a DISABLED queue owned by the writing port (R55) -/
  | mqRelease (port : HostPort) (q : Nat) (v : W32)
  /-- EV_CONS_WRITE: Takes the count of events consumed, freeing ring space for held events (R71) -/
  | evConsWrite (port : HostPort) (n : Nat) (v : W32)
  /-- EV_CTRL_CLAIM: Takes ownership of an unowned event ring with its other fields (R55) -/
  | evCtrlClaim (port : HostPort) (n : Nat) (v : W32)
  /-- EV_CTRL_RELEASE: The owner releases a ring, disabling it first when the same write clears ENABLE (R55) -/
  | evCtrlRelease (port : HostPort) (n : Nat) (v : W32)
  /-- EV_CTRL_ENABLE: The owner enables a ring, which then receives its held events (R70) -/
  | evCtrlEnable (port : HostPort) (n : Nat) (v : W32)
  /-- W1C_CLEAR: A write of 1 clears a W1C status bit unless hardware sets it in the same cycle (R5) -/
  | w1cClear (port : HostPort) (bar : Bar) (off : Nat) (v hwSet : W32)
  /-- REGISTER_WRITE: A write to a register without behaviour of its own sets its value, subject to its acceptance rules (R7) -/
  | registerWrite (port : HostPort) (bar : Bar) (off : Nat) (v : W32)
  /-- RL_LOW_READ: Reading the low half of an RL pair latches its high half (R6) -/
  | rlLowRead (port : HostPort) (bar : Bar) (off : Nat)
  /-- GATED_TIME_READ: A BAR2 read of Meridian or Arc while CLK_TIME is gated ungates it and is served after make-up (R364) -/
  | gatedTimeRead (port : HostPort) (off : Nat) (periods : Nat)
  /-- MER_COMMIT_GO: Commits the staged Meridian set at one tick, applying rate, hold and any step or set (R358) -/
  | merCommitGo (port : HostPort) (v : W32)
  /-- MER_COMMIT_DISCARD: Reloads staged RATE and HOLD from live and clears the staged adjustment (R358) -/
  | merCommitDiscard (port : HostPort) (v : W32)
  /-- TOUT_COMMIT_GO: Commits a pulse-output block, scheduling its edges or taking it low (R370) -/
  | toutCommitGo (port : HostPort) (n : Nat) (v : W32)
  /-- TIN_COMMIT_GO: Commits a TIN capture configuration (R26) -/
  | tinCommitGo (port : HostPort) (n : Nat) (v : W32)
  /-- ARC_COMMIT_GO: Commits an Arc channel's TOP, PHASE, configuration and capture setup at one tick (R374) -/
  | arcCommitGo (port : HostPort) (n : Nat) (v : W32)
  /-- BLOCK_COMMIT_DISCARD: Reloads a TOUT, TIN or Arc block's staged set from its live set (R26) -/
  | blockCommitDiscard (port : HostPort) (off : Nat) (v : W32)
  /-- TIN_CAP_POP: Reading TINn_CAP_NS pops the oldest capture (R372) -/
  | tinCapPop (port : HostPort) (n : Nat)
  /-- TSQ_POP: Reading TSQp_NS pops the oldest transmit timestamp of a port (R369) -/
  | tsqPop (port : HostPort) (p : Nat)
  /-- ARC_CAP_READ: Reading ARCn_CAP_LO returns the capture, clears CAP_VALID and latches the high half (R377) -/
  | arcCapRead (port : HostPort) (n : Nat)
  /-- ARC_START: Starts the named channels at one tick from PHASE and arms them (R373) -/
  | arcStart (port : HostPort) (v : W32)
  /-- ARC_STOP: Stops the named channels, holding COUNT and ARMED (R373) -/
  | arcStop (port : HostPort) (v : W32)
  /-- ARC_CMP_HI_WRITE: Applies both halves of a channel's compare at one tick (R375) -/
  | arcCmpHiWrite (port : HostPort) (n : Nat) (v : W32)
  /-- ARC_ARM: Arms a channel for its next match (R375) -/
  | arcArm (port : HostPort) (n : Nat) (v : W32)
  /-- UR_CTRL_RUN: Sets or clears RUN, starting or stopping service of the UR rings (R492) -/
  | urCtrlRun (v : W32)
  /-- UR_RING_RESET: Resets every UR head and tail to 0 while RUN = 0 (R491) -/
  | urRingReset (v : W32)
  /-- UR_CMD_TAIL_WRITE: UR command doorbell (R492) -/
  | urCmdTailWrite (v : W32)
  /-- UR_RSP_HEAD_WRITE: UR response consumption, freeing response ring space (R492) -/
  | urRspHeadWrite (v : W32)
  /-- UR_EVT_HEAD_WRITE: UR event consumption, freeing event ring space (R492) -/
  | urEvtHeadWrite (v : W32)
  /-- EXT_UNLOCK: The magic value opens the extension window until reset (R505) -/
  | extUnlock (v : W32)
  /-- EXT_FEATURES_WRITE: Sets extension feature bits while the window is open (R491) -/
  | extFeaturesWrite (v : W32)
  -- Events on pins, links, the air, the drives and inside the chip
  /-- POWER_UP: VDD_IO rises above 90 % and the power controller sequences the rails (R514) -/
  | powerUp (dt : Nat) (vbat : Bool) (r : BringUp)
  /-- REF_CLK_ARRIVAL: REF_CLK appears while reset is held at step 7 and the synthesizer locks (R514) -/
  | refClkArrival (dt : Nat)
  /-- MAIN_POWER_LOST: VDD_IO falls below 85 % and the power-down runs as far as supply allows (R517) -/
  | mainPowerLost (dt : Nat) (vbat : Bool)
  /-- PWR_REQ_FALL: PWR_REQ falls and the orderly power-down sequence runs (R517) -/
  | pwrReqFall (dt : Nat)
  /-- RAIL_FAULT: A main rail leaves tolerance or its regulator reports a fault, starting power-down (R515) -/
  | railFault (dt : Nat) (rail : Rail)
  /-- CONVERTER_RAIL_FAULT: A converter rail faults and its four sectors are gated and marked failed (R515) -/
  | converterRailFault (dt : Nat) (b : Bool)
  /-- PMB_ALERT: PMB_ALERT_N prompts an immediate read of every regulator (R515) -/
  | pmbAlert (dt : Nat) (reads : List (Rail × RegulatorRead))
  /-- RAIL_POLL: Every 10 ms the controller reads each regulator's output, current and status (R515) -/
  | railPoll (dt : Nat) (reads : List (Rail × RegulatorRead))
  /-- RAIL_FAULT_RESTART: 1 s after a main-rail fault the sequence restarts, or stays down after three faults (R515) -/
  | railFaultRestart (dt : Nat) (r : BringUp)
  /-- PWRON_RST: PWRON_RST_N resets everything but the battery domain and clears the boot failure count (R525) -/
  | pwronRst (dt ns : Nat) (acts : Bool)
  /-- SYS_RST: SYS_RST_N resets the logic and converter dies, keeping PCIe configuration and the failure count (R525) -/
  | sysRst (dt ns : Nat) (acts : Bool)
  /-- PERST: H0_PERST_N or H1_PERST_N resets that port's PCIe core, counting its link as down (R525) -/
  | perst (dt : Nat) (port : HostPort)
  /-- FUNCTION_LEVEL_RESET: A PCIe function-level reset of a host port acts as loss of that port (R56) -/
  | functionLevelReset (dt : Nat) (port : HostPort)
  /-- RESET_RELEASE: The release delay of a reset ends and the chip enters BOOT (R525) -/
  | resetRelease (dt : Nat)
  /-- AVS_MONITOR_TICK: Each millisecond the delay monitors adjust the VDD_CORE setpoint by a step (R519) -/
  | avsMonitorTick (dt : Nat) (short : Option Nat) (spare : Bool)
  /-- THERMAL_ALERT: The hottest sensor crosses the variant limit or 5 °C below it, moving THERM_ALERT_N (R536) -/
  | thermalAlert (dt : Nat) (hot : Bool)
  /-- THERMAL_SHUTDOWN: The limit plus 10 °C held for 1 ms powers the chip down as for a rail fault (R536) -/
  | thermalShutdown (dt : Nat)
  /-- REF_CLK_LOST: The synthesizer declares its reference lost, holds and Meridian enters holdover (R524) -/
  | refClkLost (dt : Nat)
  /-- REF_CLK_RELOCK: REF_CLK within 50 ppm for 100 ms starts a slewed relock (R524) -/
  | refClkRelock (dt : Nat)
  /-- RELOCK_SLEW_COMPLETE: The relock slew completes and holdover for this cause ends (R524) -/
  | relockSlewComplete (dt : Nat)
  /-- DRIVE_IMAGE_VERIFIED: A drive Apex image verifies, the Perimeter locks and SELFTEST begins (R36) -/
  | driveImageVerified (dt : Nat) (table : List Nat)
  /-- DRIVE_IMAGE_TIMEOUT: 200 ms after reset release the boot ROM turns to host-supplied images (R36) -/
  | driveImageTimeout (dt : Nat)
  /-- HOST_IMAGE_VERIFIED: A host-supplied image verifies and transition 4 follows (R74) -/
  | hostImageVerified (dt version compat : Nat) (table : List Nat)
  /-- HOST_IMAGE_TIMEOUT: A host image not verified 200 ms after its doorbell is abandoned (R36) -/
  | hostImageTimeout (dt : Nat)
  /-- BOOT_IMAGE_DEADLINE: No image verified 60 s after reset release: the boot ROM halts (R36) -/
  | bootImageDeadline (dt : Nat)
  /-- SELFTEST_COMPLETE: BIST completes, repair is applied, the health report is built and CONFIG is entered (R450) -/
  | selftestComplete (dt : Nat) (r : BistResult)
  /-- SELFTEST_TIMEOUT: SELFTEST misses 2.5 s: one failed reset is counted and the chip resets (R36) -/
  | selftestTimeout (dt : Nat)
  /-- MODE_TIMEOUT: A transition that misses its limit raises a fatal error (R34) -/
  | modeTimeout (dt : Nat)
  /-- BACKHAUL_LOST: Every backhaul port down for ISLAND_HOLD declares loss, entering ISLAND when enabled (R41) -/
  | backhaulLost (dt : Nat)
  /-- BACKHAUL_RESTORED: A backhaul port up for ISLAND_RESTORE declares restoration, leaving ISLAND and starting the drain (R41) -/
  | backhaulRestored (dt : Nat)
  /-- PROBE_LAPSE: With PROBE_REQUIRED, a port without a report in the last second counts as down (R41) -/
  | probeLapse (dt port : Nat)
  /-- QUIESCENT_WAKE: An enabled wake source returns the chip to its origin mode within 4 ms (R47) -/
  | quiescentWake (dt source : Nat)
  /-- FATAL_ERROR: A fatal error enters DUMP, halting the datapath and stopping lease renewal (R458) -/
  | fatalError (dt cause locus : Nat)
  /-- DUMP_COMPLETE: The dump and any host copy are complete and the chip resets (R459) -/
  | dumpComplete (dt length : Nat)
  /-- DUMP_TIMEOUT: 20 s after DUMP entry the chip resets with the dump incomplete (R50) -/
  | dumpTimeout (dt : Nat)
  /-- APEX_RESTART_COMPLETE: The Apex restart after activation ends and latched doorbells are served (R49) -/
  | apexRestartComplete (dt : Nat)
  /-- FW_VERIFY_DONE: Signature verification of the staged firmware set completes (R476) -/
  | fwVerifyDone (dt : Nat) (img : Option Nat) (version : W32) (compat : W16) (apex facet : Bool)
  /-- COMMAND_FETCH_FAILED: A failed read of a command entry sets FETCH_ERR and halts the queue (R63) -/
  | commandFetchFailed (dt q : Nat) (perim : Option Nat)
  /-- COMPLETION_WRITE_FAILED: A failed completion write sets CQ_WRITE_ERR and halts the queue (R63) -/
  | completionWriteFailed (dt q : Nat)
  /-- HOST_LINK_DOWN: The owning port's link goes down and its queues' writes are held (R56) -/
  | hostLinkDown (dt : Nat) (port : HostPort)
  /-- HOST_LINK_RETURN: The link returns within 100 ms and held writes and messages are sent (R56) -/
  | hostLinkReturn (dt : Nat) (port : HostPort)
  /-- HOST_PORT_LOSS_TIMEOUT: After 100 ms down, the port's queues drain and lose their owner and its rings are released (R56) -/
  | hostPortLossTimeout (dt : Nat) (port : HostPort)
  /-- QUEUE_DRAIN_DONE: IN_FLIGHT reaches zero and a DRAINING queue becomes DISABLED (R72) -/
  | queueDrainDone (dt q : Nat)
  /-- TOUT_EDGE: Meridian time reaches a pulse edge, which fires or is skipped after a step (R371) -/
  | toutEdge (dt : Nat) (n : Nat)
  /-- TIN_EDGE_CAPTURE: A filtered TIN edge is captured into the pin's FIFO (R372) -/
  | tinEdgeCapture (dt : Nat) (n : Nat) (rising : Bool)
  /-- ARC_MATCH: An armed channel's COUNT equals its compare: MATCH, interrupt, event and disarm (R376) -/
  | arcMatch (dt : Nat)
  /-- ARC_CAPTURE: A prescaled source edge captures COUNT (R377) -/
  | arcCapture (dt : Nat) (n : Nat) (rising : Bool)
  /-- SLOW_CLOCK_CALIBRATED: 32,768 slow-clock periods accumulate and SLOW_RATIO is set (R363) -/
  | slowClockCalibrated (dt : Nat) (ticks : Nat)
  /-- BATTERY_CLOCK_WRITE: Every 64 s Meridian writes its time into the battery-domain clock (R361) -/
  | batteryClockWrite (dt : Nat)
  /-- CLK_TIME_GATE: The power controller gates CLK_TIME at a slow-clock edge when permitted (R364) -/
  | clkTimeGate (dt : Nat)
  /-- CLK_TIME_UNGATE: CLK_TIME ungates and C and Arc channels make up the gated time (R364) -/
  | clkTimeUngate (dt : Nat) (periods : Nat)
  /-- SERVO_SYNC_TIMEOUT: No usable sync for HOLD_TIMEOUT puts Meridian in holdover (R362) -/
  | servoSyncTimeout (dt : Nat)
  /-- INGRESS_FRAME: A frame received whole at a MAC is checked, tagged, filtered and committed over X12 (R268) -/
  | ingressFrame (dt port : Nat) (frame : List Byte) (fcsOk codeErr : Bool) (ago fecFixed fecBad : Nat)
  /-- PRP_FORGET_EXPIRY: A duplicate-discard entry not removed within PRP_FORGET is removed (R352) -/
  | prpForgetExpiry (dt pair sa seq : Nat)
  /-- LINK_UP: Link conditions hold for LINK_DEBOUNCE and the port's link is up (R265) -/
  | linkUp (dt port : Nat)
  /-- LINK_DOWN: A link condition fails: frames in progress are lost and queues flushed or held (R266) -/
  | linkDown (dt port : Nat) (sending : Bool)
  /-- SGMII_SPEED_CHANGE: A PHY-signalled speed change takes the link down and up with a flush (R264) -/
  | sgmiiSpeedChange (dt port rate : Nat) (sending : Bool)
  /-- PAUSE_FRAME_RECEIVED: A PAUSE frame sets or ends the port's pause timer (R274) -/
  | pauseFrameReceived (dt port da quanta : Nat)
  /-- PFC_FRAME_RECEIVED: A PFC frame sets or ends the timers of enabled priorities (R274) -/
  | pfcFrameReceived (dt port da vector : Nat) (times : List Nat)
  /-- PAUSE_TIMER_EXPIRY: A pause or PFC timer runs out and the held queues become eligible (R274) -/
  | pauseTimerExpiry (dt port : Nat)
  /-- XOFF_THRESHOLD: An ingress count reaches XOFF_CELLS and a PAUSE or PFC frame is sent (R276) -/
  | xoffThreshold (dt port : Nat)
  /-- XON_THRESHOLD: An ingress count falls to XON_CELLS and a zero-quanta frame is sent (R276) -/
  | xonThreshold (dt port : Nat)
  /-- PAUSE_REFRESH: Half of TX_QUANTA passes with the count still high and the frame is sent again (R276) -/
  | pauseRefresh (dt port : Nat)
  /-- EGRESS_FRAME_SEND: The egress MAC starts a frame once its threshold is in the FIFO, applying tag rules and new FCS (R269) -/
  | egressFrameSend (dt port : Nat)
  /-- TX_UNDERRUN: The transmit FIFO empties mid-frame: the frame is ended with inverted FCS and the threshold raised (R272) -/
  | txUnderrun (dt port sent : Nat)
  /-- UNDERRUN_DECAY: UNDERRUN_DECAY frames without underrun lower the start threshold one step (R273) -/
  | underrunDecay (dt port : Nat)
  /-- PIPELINE_PACKET: A pipeline takes a committed packet and parses, classifies, looks it up and resolves it to replicas (R281) -/
  | pipelinePacket (dt pipe : Nat)
  /-- SLOW_PATH_RETURN: A slow-path Facet returns a packet with SLOW = 1, resuming at stage S3 or dropped if late (R312) -/
  | slowPathReturn (dt pipe : Nat)
  /-- SCHEDULER_DECISION: With a credit, a port picks a queue by strict priority then deficit and commits its head (R341) -/
  | schedulerDecision (dt port : Nat)
  /-- LEARN_REQUEST: The learning engine takes a queued SA learn: insert, refresh or move (R314) -/
  | learnRequest (dt : Nat)
  /-- MOVE_HOLD_EXPIRY: MOVE_HOLD ends and DAMPED clears (R316) -/
  | moveHoldExpiry (dt vid mac : Nat)
  /-- AGEING_SWEEP: The sweeper visits entries and removes those aged out (R319) -/
  | ageingSweep (dt t : Nat)
  /-- SHADOW_MERGE: Once no older-epoch packet remains, shadow buckets merge into the base bank (R330) -/
  | shadowMerge (dt : Nat)
  /-- LEARN_MESSAGE_RECEIVED: A LEARN, REFRESH or WITHDRAW is imported if newer under the import rules (R325) -/
  | learnMessageReceived (dt src compat epoch type vid seq mac port timeUs : Nat)
  /-- RESYNC_REQ_RECEIVED: An origin answers a RESYNC_REQ with REFRESH of every local learned entry (R323) -/
  | resyncReqReceived (dt src compat epoch seq : Nat)
  /-- FLUSH_FORCED_REWIND: 128 µs after a flush request a partial item is rewound (R19) -/
  | flushForcedRewind (dt port : Nat)
  /-- QUEUE_FLUSH_COMPLETE: Every discarded item's credits and cells have returned and the flush completes (R20) -/
  | queueFlushComplete (dt port : Nat)
  /-- GAIN_INDEX_RAISE: An ADC peak reaches −3 dBFS and AUTO raises g by 3 (R79) -/
  | gainIndexRaise (dt sector : Nat) (adcB : Bool)
  /-- GAIN_INDEX_LOWER: The peak stays low for AGC_HOLD and AUTO lowers g by 1, deferred while a lane holds a frame (R79) -/
  | gainIndexLower (dt sector : Nat) (adcB : Bool)
  /-- PREAMBLE_DETECTION: A detector fires and the detection record claims or pre-empts a lane or is dropped (R115) -/
  | preambleDetection (dt sector det : Nat) (metricA metricB preA preB : Int)
  /-- AERIAL_SELECTION: At the end of the comparison window the lane keeps the better aerial (R121) -/
  | aerialSelection (dt lane : Nat) (snrA snrB : Int) (sfdBegun : Bool)
  /-- SFD_TIMEOUT: No SFD within 1,000 preamble octets releases the lane (R118) -/
  | sfdTimeout (dt lane : Nat)
  /-- HEADER_POINT: The PHY header is complete and its checks keep or release the lane (R118) -/
  | headerPoint (dt lane word length mcs : Nat) (ms reserved fcs32 dw hcsOk : Bool)
  /-- LDPC_CODEWORD_DECODED: A decoder finishes a codeword, passing it back or failing the frame (R125) -/
  | ldpcCodewordDecoded (dt lane : Nat) (ok credit : Bool)
  /-- PPDU_END: A frame ends: FCS checked and the descriptor committed to the owner or join queue, or rewound (R126) -/
  | ppduEnd (dt lane : Nat) (psdu : List Byte) (rssi : Int) (alt : Option Int) (noise : Int) (evm ago : Nat)
  /-- RX_CFG_APPLICATION: A pending window or layer change is applied when no lane holds a frame or APPLY_MAX passes (R112) -/
  | rxCfgApplication (dt sector : Nat)
  /-- PPDU_REQUEST: A PPDU request reaches the assembler over X05 or X11 and is refused if late or muted (R91) -/
  | ppduRequest (dt sector : Nat)
  /-- TX_START_SEQUENCE: At TX_START − L_EFF the assembler checks the request and drives the start sequence (R104) -/
  | txStartSequence (dt sector id : Nat)
  /-- COEX_GRANT_SAMPLE: COEX_GRANT_g is sampled at TX_START − COEX_DECIDE and a denial stops the PPDU (R93) -/
  | coexGrantSample (dt sector id : Nat) (grant : Bool)
  /-- COEX_GRANT_FALL: The grant falls while a PPDU is on air and COEX_ABORT decides whether it is cut (R94) -/
  | coexGrantFall (dt group : Nat)
  /-- TX_END: The last active channel ends and the end sequence runs unless the next PPDU is near (R90) -/
  | txEnd (dt sector id : Nat)
  /-- DAC_RANGE_APPLY: A committed DAC_RANGE change takes effect at an idle instant with 2 µs of mute (R97) -/
  | dacRangeApply (dt sector : Nat)
  /-- DAC_RANGE_HOLD: 1 s after the first change the assembler holds new PPDUs until it applies (R97) -/
  | dacRangeHold (dt sector : Nat)
  /-- SECTOR_CFG_APPLY: A committed sector change applies when the sector has no PPDU in progress (R87) -/
  | sectorCfgApply (dt sector : Nat)
  /-- FRONT_END_CFG_APPLY: A committed front-end change applies when no PPDU is in progress or starting (R88) -/
  | frontEndCfgApply (dt sector : Nat)
  /-- DUTY_BUCKET_BOUNDARY: An Arc-driven bucket boundary ages the duty-cycle accounts and saves them (R106) -/
  | dutyBucketBoundary (dt channel : Nat)
  /-- IQ_CAPTURE_TRIGGER: An armed capture's trigger occurs: immediate, detection or Meridian time (R141) -/
  | iqCaptureTrigger (dt : Nat)
  /-- IQ_CAPTURE_COMPLETE: The capture holds its blocks and the job completes (R141) -/
  | iqCaptureComplete (dt : Nat) (blocks : List (Bool × List (Int × Int)))
  /-- FRAME_CAPTURE_COMPLETE: A frame capture holds its frames and the job completes (R486) -/
  | frameCaptureComplete (dt : Nat)
  /-- CAPTURE_AREA_RETURN: 60 s after the last read, the capture cells return to the packet buffer (R484) -/
  | captureAreaReturn (dt : Nat)
  /-- UPLINK_FRAME: The owning Facet takes a descriptor from X04 and applies the security, counter and effect steps (R214) -/
  | uplinkFrame (dt facet : Nat) (upset : Bool)
  /-- JOIN_QUEUE_FRAME: A frame whose source does not resolve reaches a join queue (R137) -/
  | joinQueueFrame (dt : Nat)
  /-- ACK_TURNAROUND_EXPIRY: The turnaround limit passes before commit and the acknowledgement is not sent (R189) -/
  | ackTurnaroundExpiry (dt id : Nat)
  /-- ACK_WINDOW_EXPIRY: No acknowledgement within a downlink's window raises MISSES and may reset the model (R195) -/
  | ackWindowExpiry (dt node : Nat)
  /-- COPY_HOLD_EXPIRY: A copy-table entry ages out after COPY_HOLD (R215) -/
  | copyHoldExpiry (dt facet : Nat)
  /-- DOWNLINK_PLAN: For a slot the Facet plans broadcast and unicast PPDUs, checks they fit and commits them over X11 (R183) -/
  | downlinkPlan (dt slot : Nat)
  /-- KEY_DERIVATION_DONE: A node-key derivation on context 0 completes and fills the cache (R209) -/
  | keyDerivationDone (dt engine : Nat)
  /-- KEY_WAIT_EXPIRY: The key is not cached KEY_WAIT after the frame began and the frame is dropped (R209) -/
  | keyWaitExpiry (dt facet : Nat)
  /-- TX_LEASE_EXTENSION_RECORDED: A TX_LEASE extension is recorded on the twin and drives and may be used (R218) -/
  | txLeaseExtensionRecorded (dt node : Nat)
  /-- CHECKPOINT: Every CKPT_PERIOD the changed node records are written to the counter region (R219) -/
  | checkpoint (dt : Nat)
  /-- CHECKPOINT_WRITTEN: The storage manager reports a checkpoint complete (R219) -/
  | checkpointWritten (dt : Nat)
  /-- NODE_RECORD_RESTORE_DONE: Restoration of a node record from twin or checkpoint completes or fails (R203) -/
  | nodeRecordRestoreDone (dt node : Nat) (twin : List Byte)
  /-- DRIFT_AGE_SWEEP: Once per mesh-time day each Facet resets models older than MODEL_MAX_AGE (R195) -/
  | driftAgeSweep (dt facet : Nat)
  /-- NVME_COMMAND_COMPLETE: An NVMe command completes, with read repair, member failure or durability following (R233) -/
  | nvmeCommandComplete (dt : Nat) (port id status : Nat)
  /-- NVME_IO_TIMEOUT: An I/O command not complete in 2 s is aborted (R233) -/
  | nvmeIoTimeout (dt : Nat) (port id : Nat)
  /-- NVME_ABORT_TIMEOUT: An abort not done in 1 s more resets the controller (R233) -/
  | nvmeAbortTimeout (dt : Nat) (port id : Nat)
  /-- DRIVE_LINK_TIMEOUT: A drive link down for more than 1 s fails the member (R233) -/
  | driveLinkTimeout (dt : Nat) (port : Nat)
  /-- DRIVE_INSERTED: A drive appears on a port, and AUTO_REPLACE may start a rebuild (R235) -/
  | driveInserted (dt : Nat) (port : Nat) (info : DriveInfo)
  /-- SMART_POLL: Every 60 s the error log and SMART health are read (R238) -/
  | smartPoll (dt : Nat) (port : Nat) (readOnly worn : Bool)
  /-- NVME_ASYNC_EVENT: An asynchronous event request completes with a health or temperature event (R238) -/
  | nvmeAsyncEvent (dt : Nat) (port : Nat) (readOnly worn : Bool)
  /-- REBUILD_STRIPE: The next stripe's chunk is rebuilt at REBUILD_RATE, or zeroed above HIGH_WATER (R236) -/
  | rebuildStripe (dt : Nat)
  /-- REBUILD_COMPLETE: Rebuild and zeroing are done and the array becomes NORMAL (R236) -/
  | rebuildComplete (dt : Nat)
  /-- STORE_FORMAT_DONE: Formatting completes and the array is mounted (R232) -/
  | storeFormatDone (dt : Nat)
  /-- REG_UPDATE_DONE: The burn of a regulatory update completes or fails its read-back (R102) -/
  | regUpdateDone (dt : Nat) (readBack : Bool)
  /-- DUMP_READ_DONE: A dump slot copy completes and the slot becomes READ (R464) -/
  | dumpReadDone (dt : Nat) (ok : Bool)
  /-- BIST_RUN_DONE: A command-started BIST completes, or a restore mismatch raises a fatal error (R451) -/
  | bistRunDone (dt : Nat) (failed : List Nat) (restored : Bool)
  /-- JOURNAL_RECORD: A record arrives over X08 and is added to the open block (R243) -/
  | journalRecord (dt : Nat)
  /-- JOURNAL_BLOCK_CLOSE: A block closes on size or JRNL_FLUSH and is written with FUA (R248) -/
  | journalBlockClose (dt : Nat)
  /-- DEFERRED_FRAME_ARRIVAL: A downlink frame reaches the owning Facet and joins the on-chip head or the spill slot (R240) -/
  | deferredFrameArrival (dt port : Nat)
  /-- PREFETCH_START: At W − PREFETCH_LEAD the node's spill slot is read into the pool (R241) -/
  | prefetchStart (dt node : Nat)
  /-- PREFETCH_COMPLETE: A prefetch read completes (R241) -/
  | prefetchComplete (dt node : Nat)
  /-- PREFETCH_DEADLINE: A prefetch not complete by W − 50 ms is counted late (R241) -/
  | prefetchDeadline (dt node : Nat)
  /-- HELD_DRAIN_RELEASE: A held record is released at ISLAND_DRAIN_RATE when admission allows (R254) -/
  | heldDrainRelease (dt : Nat)
  /-- LINK_FRAME_RECEIVED: A Chord link frame is checked, acknowledged and reassembled into messages (R413) -/
  | linkFrameReceived (dt link : Nat) (frame : List Byte)
  /-- LINK_FRAME_RESEND: 8 µs without acknowledgement resends from the first unacknowledged frame (R413) -/
  | linkFrameResend (dt link : Nat)
  /-- CHORD_LOCK_LOSS: 10 µs without block lock, or 16 resends, takes a Chord link down (R413) -/
  | chordLockLoss (dt link : Nat)
  /-- HELLO_SEND: Every 1 ms a HELLO is sent on each link (R416) -/
  | helloSend (dt : Nat)
  /-- HELLO_RECEIVED: A HELLO brings a link up, updates peer state and measures time offset (R416) -/
  | helloReceived (dt link hops src compat epoch : Nat) (body : List Byte)
  /-- LEASE_SEND: Every 250 µs the lease engine sends LEASE on each twin link (R422) -/
  | leaseSend (dt : Nat)
  /-- LEASE_RECEIVED: The standby extends the lease and answers LEASE_ACK, or a split is resolved (R422) -/
  | leaseReceived (dt link src compat epoch : Nat) (body : List Byte)
  /-- LEASE_ACK_RECEIVED: The active twin notes the standby alive (R423) -/
  | leaseAckReceived (dt src compat epoch : Nat) (body : List Byte)
  /-- LEASE_ACK_TIMEOUT: 500 µs without LEASE_ACK, or no twin link, declares the standby lost (R423) -/
  | leaseAckTimeout (dt : Nat)
  /-- LEASE_EXPIRY: The lease expires at the standby and it takes over if eligible (R422) -/
  | leaseExpiry (dt : Nat)
  /-- TWIN_STARTUP_WAIT: After a HELLO or 10 ms with no link, a twin entering active claims the lease or becomes standby (R424) -/
  | twinStartupWait (dt : Nat)
  /-- ISOLATION_HOLD_EXPIRY: ISOLATION_HOLD ends without evidence and TX_LEASE extensions resume (R426) -/
  | isolationHoldExpiry (dt : Nat)
  /-- HANDOVER_INSTANT: At H the old active twin stops, sends HANDOFF and stops renewing (R435) -/
  | handoverInstant (dt : Nat)
  /-- HANDOFF_RECEIVED: The standby takes the new lease once every stream is applied (R435) -/
  | handoffReceived (dt src compat epoch : Nat) (body : List Byte)
  /-- HANDOFF_TIMEOUT: No HANDOFF 1 ms after H: the standby waits for lease expiry (R435) -/
  | handoffTimeout (dt : Nat)
  /-- REPL_NODE_RECEIVED: The standby writes a replicated record and journal record and confirms (R429) -/
  | replNodeReceived (dt src compat epoch seq : Nat) (body : List Byte)
  /-- REPL_CONFIRM_RECEIVED: The confirmation releases the withheld acknowledgement (R429) -/
  | replConfirmReceived (dt src compat epoch : Nat) (body : List Byte)
  /-- REPL_CONFIRM_TIMEOUT: No confirmation within 30 µs withholds the acknowledgement (R429) -/
  | replConfirmTimeout (dt : Nat)
  /-- REPL_DDQ_RECEIVED: The standby applies a deferred-delivery queue change (R428) -/
  | replDdqReceived (dt src compat epoch seq : Nat) (body : List Byte)
  /-- JRNL_MIRROR_RECEIVED: The standby appends mirrored held, release and mark records (R428) -/
  | jrnlMirrorReceived (dt src compat epoch seq : Nat) (body : List Byte)
  /-- REPL_KEY_RECEIVED: The standby unwraps a replicated HOST slot into the same slot number (R430) -/
  | replKeyReceived (dt src compat epoch seq : Nat) (body : List Byte)
  /-- RESYNC_MESSAGE_RECEIVED: The standby applies bulk resynchronization state (R427) -/
  | resyncMessageReceived (dt src compat epoch : Nat) (body : List Byte)
  /-- BULK_RESYNC_COMPLETE: All state is held and live streams applied: the standby becomes SYNCED (R427) -/
  | bulkResyncComplete (dt : Nat)
  /-- HEALTH_SEND: Every 100 ms the standby sends its health report (R436) -/
  | healthSend (dt : Nat)
  /-- HEALTH_RECEIVED: The peer's health report is stored for eligibility and revertive return (R436) -/
  | healthReceived (dt src compat epoch : Nat) (body : List Byte)
  /-- HEALTH_GAP: More than 300 ms between reports counts as unhealthy (R436) -/
  | healthGap (dt : Nat)
  /-- REVERT_HOLD_EXPIRY: After REVERT_HOLD of healthy reports the odd active member starts a handover (R436) -/
  | revertHoldExpiry (dt : Nat)
  /-- FRAME_MESSAGE_RECEIVED: A FRAME message's body enters the switch from the Chord port (R419) -/
  | frameMessageReceived (dt src compat : Nat) (body : List Byte)
  /-- MEMBER_UNREACHABLE: A member unreachable for 10 ms leaves and its REMOTE entries are removed (R438) -/
  | memberUnreachable (dt member : Nat)
  /-- SELFTEST_STEP: The standby tests one unit under save and restore (R452) -/
  | selftestStep (dt locus pct : Nat) (passed : Option Bool)
  /-- SCRUB_PASS: The scrubber reads and corrects a memory word once per scrub period (R443) -/
  | scrubPass (dt : Nat) (word : MemWord) (uncorrectable : Bool) (locus addr : Nat)
  /-- KEY_SLOT_SWEEP: Every 24 h each VALID slot's tag is checked (R383) -/
  | keySlotSweep (dt : Nat) (faulty : List Nat)
  /-- TAMPER_DECLARATION: A sensor declares tamper and the chip reports or zeroizes by state and LID_ACTION (R394) -/
  | tamperDeclaration (dt sensor live : Nat)
  /-- KEY_CTX_TIMEOUT: A context idle for 10 s is closed (R399) -/
  | keyCtxTimeout (dt ctx : Nat)
  /-- AUTH_NONCE_EXPIRY: The outstanding nonce lapses after 600 s (R389) -/
  | authNonceExpiry (dt : Nat)
  /-- ENGINE_SEGMENT_END: A crypto engine ends a segment and takes the highest-priority ready segment (R400) -/
  | engineSegmentEnd (dt engine : Nat)
  /-- UR_H0_LINK_TIMEOUT: H0 down for more than 100 ms clears UR RUN (R492) -/
  | urH0LinkTimeout (dt : Nat)
  /-- MIGRATION_BOUNDARY: At boundary B the chip enters ACTIVE_N and lifts the fixed compatibility values (R509) -/
  | migrationBoundary (dt : Nat)
  /-- MODE_TRANSITION_COMPLETE: A mode transition in progress completes: IN_TRANSITION clears, MODE changes, MODE_CHANGED is raised, the SYS_M (R33) -/
  | modeTransitionComplete (dt : Nat)
  /-- BLOCK_COMMIT_COMPLETE: A BAR2 block commit finishes within 2 µs: BUSY clears, COMMIT_COUNT or REFUSED and CHECK are set (R26) -/
  | blockCommitComplete (dt : Nat) (off : Nat)
  /-- SECTOR_UNGATE: In QUIESCENT the power controller ungates a sector 200 µs before a receive window of R198 opens, restoring the (R521) -/
  | sectorUngate (dt sector : Nat)
  /-- RX_WINDOW_CLOSE: In QUIESCENT a receive window ends at E(a) + guard unless a detection is held, and the sector is gated again (R198) -/
  | rxWindowClose (dt sector : Nat)
  /-- JOURNAL_BACKFILL: After SYNCED, the active twin copies journal blocks older than the resynchronization start to the standby at J (R427) -/
  | journalBackfill (dt : Nat)
  /-- TAP_OPERATION: TCK-clocked TAP activity on TMS and TDI, or a TRST_N assertion, shifts instructions and data: IDCODE, BYPASS,  (R410) -/
  | tapOperation (dt : Nat) (op : TapOp)
  /-- CONTROLLER_READY_TIMEOUT: A drive controller reset by the manager is not ready within its CAP.TO, and the member fails (R233) -/
  | controllerReadyTimeout (dt : Nat) (port : Nat)
  /-- CONTROLLER_FATAL_STATUS: A drive controller sets CSTS.CFS, and the member fails (R233) -/
  | controllerFatalStatus (dt : Nat) (port : Nat)
  deriving DecidableEq, Repr

end Sys2Proof
end

