-- ==== Sys2Proof/Decode.lean ====
section
/-!
DEFINITION. Words of the table of operations and events. No row of that table gives its command bits:
commands reach the block as command entries, register accesses and events, never as words. No word
spells a command.
-/
namespace Sys2Proof

/-- The command that a word of `nbits` bits spells: none, for no row gives bits. -/
def decodeTableWord (_nbits _w : Nat) : Option Instr := none

end Sys2Proof
end

