-- ==== Sys2Proof/Machine/Bytes.lean ====
section
/-!
DEFINITION. Byte strings: the little-endian fields of R4, the network-order fields of frames, and
two's complement. Every payload and register structure of the model is cut with these.
-/
namespace Sys2Proof.Machine

/-- `n` bytes of `v`, byte 0 first (R4: byte 0 of a multi-byte field holds bits [7:0]). -/
def leBytes : Nat → Nat → List Byte
  | 0, _ => []
  | n + 1, v => BitVec.ofNat 8 v :: leBytes n (v / 256)

/-- The number that a little-endian byte string spells (R4). -/
def leNat : List Byte → Nat
  | [] => 0
  | b :: r => b.toNat + 256 * leNat r

/-- The number that a byte string in network order spells (R4). -/
def beNat (l : List Byte) : Nat := l.foldl (fun a b => a * 256 + b.toNat) 0

/-- `n` bytes of `v` in network order (R4). -/
def beBytes (n v : Nat) : List Byte := (leBytes n v).reverse

/-- `n` zero bytes. -/
def zeros (n : Nat) : List Byte := List.replicate n 0

/-- The `len` bytes of `l` from offset `off`. -/
def slice (l : List Byte) (off len : Nat) : List Byte := (l.drop off).take len

/-- The little-endian number in the `len` bytes at offset `off`; bytes beyond the end count as zero. -/
def fld (l : List Byte) (off len : Nat) : Nat := leNat (slice l off len)

/-- The network-order number in the `len` bytes at offset `off`. -/
def fldBE (l : List Byte) (off len : Nat) : Nat := beNat (slice l off len)

/-- The byte at offset `off`, zero beyond the end. -/
def byteAt (l : List Byte) (off : Nat) : Nat := fld l off 1

/-- `l` cut or zero-padded to exactly `n` bytes. -/
def padTo (n : Nat) (l : List Byte) : List Byte := l.take n ++ zeros (n - l.length)

/-- `l` zero-padded to a multiple of `m` bytes. -/
def padMul (m : Nat) (l : List Byte) : List Byte := l ++ zeros ((m - l.length % m) % m)

/-- Bits [lo + len - 1 : lo] of `v`. -/
def bits (v lo len : Nat) : Nat := v / 2 ^ lo % 2 ^ len

/-- Bit `i` of `v`. -/
def bit (v i : Nat) : Bool := bits v i 1 == 1

/-- A Boolean as a bit. -/
def b2n (b : Bool) : Nat := if b then 1 else 0

/-- The two's complement number that the low `w` bits of `v` spell. -/
def toSigned (w v : Nat) : Int :=
  let u := v % 2 ^ w
  if u < 2 ^ (w - 1) then (u : Int) else (u : Int) - (2 ^ w : Nat)

/-- The low `w` bits of the integer `v` in two's complement. -/
def ofSigned (w : Nat) (v : Int) : Nat := (v % ((2 ^ w : Nat) : Int)).toNat

/-- The bits of a map in rising order: item k is present when bit k is 1 (R469). -/
def bitList (w v : Nat) : List Nat := (List.range w).filter (fun i => bit v i)

/-- The map with the bits of a list set. -/
def bitMap (l : List Nat) : Nat := l.foldl (fun a i => if bit a i then a else a + 2 ^ i) 0

/-- Every byte of a list is zero (a reserved span, R7). -/
def allZero (l : List Byte) : Bool := l.all (· == 0)

/-- Integer division rounded to nearest, halves away from zero. -/
def divRound (a b : Int) : Int :=
  if a < 0 then -((2 * (-a) + b) / (2 * b)) else (2 * a + b) / (2 * b)

/-- One bit of the reflected CRC of a polynomial. -/
def crcBit (poly : BitVec 32) (c : BitVec 32) : BitVec 32 := if c.getLsbD 0 then (c >>> 1) ^^^ poly else c >>> 1

/-- One byte of a reflected CRC. -/
def crcByte (poly : BitVec 32) (c : BitVec 32) (b : Byte) : BitVec 32 :=
  (List.range 8).foldl (fun c _ => crcBit poly c) (c ^^^ b.setWidth 32)

/-- CRC-32C of a byte string from a preset (R542): polynomial 0x1EDC6F41 reflected, the final value complemented. -/
def crc32cFrom (preset : BitVec 32) (l : List Byte) : Nat := (l.foldl (crcByte 0x82F63B78) preset ^^^ 0xFFFFFFFF).toNat

/-- CRC-32C of a byte string with the standard preset (R542). -/
def crc32c (l : List Byte) : Nat := crc32cFrom 0xFFFFFFFF l

end Sys2Proof.Machine
end

