-- ==== Sys2Proof/Machine/Sparse.lean ====
section
/-!
DEFINITION. Sparse tables: every indexed memory of the block (table entries, node records, staged
fields, counters, the event ring memory) is a list of (key, value) pairs in ONE canonical form: keys
strictly rising, and no entry equal to what an unlisted key reads as. The value of an unlisted key
is a definition of its table (`d`), so equal tables are equal data.
-/
namespace Sys2Proof.Machine

/-- A sparse table: pairs of key and value. -/
abbrev Sparse (α : Type) := List (Nat × α)

/-- The value at key `k`; `d k` where no pair is listed. -/
def Sparse.get {α : Type} (d : Nat → α) : Sparse α → Nat → α
  | [], k => d k
  | (k', v) :: r, k => if k = k' then v else Sparse.get d r k

/-- Put a pair before the first larger key. -/
def Sparse.insert {α : Type} : Sparse α → Nat → α → Sparse α
  | [], k, v => [(k, v)]
  | (k', v') :: r, k, v => if k < k' then (k, v) :: (k', v') :: r else (k', v') :: Sparse.insert r k v

/-- The pair list with value `v` at key `k`: the key is unlisted, and listed again in its place where `v` differs from
what an unlisted key reads as. A table in canonical form keeps it. -/
def Sparse.set {α : Type} [DecidableEq α] (d : Nat → α) (m : Sparse α) (k : Nat) (v : α) : Sparse α :=
  let r := m.filter (fun e => e.1 != k)
  if v = d k then r else Sparse.insert r k v

/-- Every key is above `n`. -/
def Sparse.above {α : Type} (n : Nat) : Sparse α → Bool
  | [] => true
  | (k, _) :: r => decide (n < k) && Sparse.above n r

/-- The canonical form: keys strictly rise and no listed value equals the unlisted one. -/
def Sparse.wf {α : Type} [DecidableEq α] (d : Nat → α) : Sparse α → Bool
  | [] => true
  | (k, v) :: r => decide (v ≠ d k) && Sparse.above k r && Sparse.wf d r

/-- Write the values `vs` at keys `k`, `k + 1`, and on. -/
def Sparse.setRun {α : Type} [DecidableEq α] (d : Nat → α) : Sparse α → Nat → List α → Sparse α
  | m, _, [] => m
  | m, k, v :: vs => Sparse.setRun d (Sparse.set d m k v) (k + 1) vs

/-- Write every (key, value) pair of a list, in order. -/
def Sparse.setAll {α : Type} [DecidableEq α] (d : Nat → α) (m : Sparse α) (l : List (Nat × α)) : Sparse α :=
  l.foldl (fun a p => Sparse.set d a p.1 p.2) m

/-- The pairs whose key satisfies `p`, unlisted again. -/
def Sparse.drop {α : Type} (p : Nat → Bool) (m : Sparse α) : Sparse α := m.filter (fun e => !p e.1)

/-- The listed keys. -/
def Sparse.keys {α : Type} (m : Sparse α) : List Nat := m.map (·.1)

/-- Update the value at one key. -/
def Sparse.update {α : Type} [DecidableEq α] (d : Nat → α) (m : Sparse α) (k : Nat) (f : α → α) : Sparse α :=
  Sparse.set d m k (f (Sparse.get d m k))

end Sys2Proof.Machine
end

