-- ==== Sys2Proof/Machine/StateHost.lean ====
section
/-!
DEFINITION. State of the host interface (chapter "Host interface and mailbox protocol"): the two
ports, the sixteen mailbox queues, the event rings and their memory, and the boot image registers.
Of the arrays, an index that is not listed is in its reset state.
-/
namespace Sys2Proof.Machine

/-- Status codes of a completion (Table 3.9). -/
inductive Status where
  | ok
  | accepted
  | badOpcode
  | badParam
  | lenError
  | seqError
  | dmaError
  | notFound
  | modeRefused
  | modePreempted
  | busy
  | cfgLocked
  | cfgRefused
  | authFail
  | noResource
  | internal
  deriving DecidableEq, Repr

/-- MQq_STATUS.STATE (Table 3.5). -/
inductive QState where
  | disabled
  | running
  | draining
  | halted
  deriving DecidableEq, Repr

/-- A command as the Apex holds it from fetch to completion: the fields of its entry (Table 3.6) that
the completion needs. -/
structure Cmd where
  /-- Queue number; 0x10 is the UR command ring (R492). -/
  queue : Nat
  opcode : Nat
  seq : W16
  flags : W16
  tag : W32
  replyMax : Nat
  replyAddr : Nat
  /-- The request payload. -/
  req : List Byte
  /-- The write of a reply body succeeds (R63). -/
  writeOk : Bool
  deriving DecidableEq, Repr

/-- One reply of a queue's reply cache (R66, R67). -/
structure CachedReply where
  seq : W16
  status : Status
  detail : Nat
  replyLen : Nat
  epoch : W32
  /-- The bytes kept: the first 512, or the whole reply of a recent KEY_CTX_UPDATE. -/
  body : List Byte
  /-- The whole reply of one of the four most recent KEY_CTX_UPDATE commands is kept. -/
  whole : Bool
  deriving DecidableEq, Repr

/-- A completion that is due (Table 3.7), before the fields taken at the time of writing. -/
structure Completion where
  opcode : Nat
  seq : W16
  status : Status
  detail : Nat
  replayed : Bool
  replayCut : Bool
  tag : W32
  /-- Full reply length. -/
  replyLen : Nat
  epoch : W32
  /-- The reply bytes at hand. -/
  body : List Byte
  replyMax : Nat
  replyAddr : Nat
  /-- The command set FLAGS.IRQ. -/
  irq : Bool
  /-- The write of the reply body succeeds. -/
  writeOk : Bool
  /-- The command was new, so that its cached reply follows the outcome of the reply write (R63). -/
  isNew : Bool
  deriving DecidableEq, Repr

/-- One mailbox queue MQq (Tables 3.3 to 3.5, R66). -/
structure Queue where
  /-- MQq_SQ_BASE, reset 0. -/
  sqBase : W64
  /-- MQq_CQ_BASE, reset 0. -/
  cqBase : W64
  /-- MQq_CTRL.ENABLE, reset 0. -/
  enable : Bool
  /-- MQq_CTRL.PRIO, reset 0b00. -/
  prio : BitVec 2
  /-- MQq_CTRL.VECTOR, reset 0. -/
  vector : BitVec 5
  /-- MQq_CTRL.IRQ_EN, reset 0. -/
  irqEn : Bool
  /-- MQq_STATUS.STATE, reset DISABLED. -/
  qstate : QState
  /-- MQq_STATUS.OWNER, reset none. -/
  owner : Option HostPort
  /-- MQq_STATUS.DB_ERR, reset 0. -/
  dbErr : Bool
  /-- MQq_STATUS.FETCH_ERR, reset 0. -/
  fetchErr : Bool
  /-- MQq_STATUS.CQ_WRITE_ERR, reset 0. -/
  cqWriteErr : Bool
  /-- MQq_STATUS.FOREIGN_WRITE, reset 0. -/
  foreignWrite : Bool
  /-- MQq_STATUS.IN_FLIGHT, 0 to 256, reset 0. -/
  inFlight : Nat
  /-- MQq_SQ_TAIL, reset 0. -/
  sqTail : W16
  /-- MQq_CQ_HEAD, reset 0. -/
  cqHead : W16
  /-- MQq_SQ_HEAD, reset 0. -/
  sqHead : W16
  /-- MQq_CQ_TAIL, reset 0. -/
  cqTail : W16
  /-- MQq_SEQ_NEXT, reset 0. -/
  seqNext : W16
  /-- Reply cache of the last 64 new commands, most recent first (R67), reset empty. -/
  cache : List CachedReply
  /-- The drain after the loss of the owning port: completions are discarded and OWNER clears at its end (R56). -/
  losing : Bool
  deriving DecidableEq, Repr

/-- A queue after reset (Tables 3.3 to 3.5). -/
def Queue.reset : Queue :=
  { sqBase := 0, cqBase := 0, enable := false, prio := 0, vector := 0, irqEn := false, qstate := .disabled,
    owner := none, dbErr := false, fetchErr := false, cqWriteErr := false, foreignWrite := false, inFlight := 0,
    sqTail := 0, cqHead := 0, sqHead := 0, cqTail := 0, seqNext := 0, cache := [], losing := false }

/-- One event before it is written to its ring (Table 3.10). -/
structure EventRec where
  code : Nat
  severity : Nat
  seconds : Nat
  nanoseconds : Nat
  locus : W32
  body : List Byte
  deriving DecidableEq, Repr

/-- One event ring EVn (Table 3.3, R70, R71). -/
structure EventRing where
  /-- EVn_PROD, reset 0. -/
  prod : W32
  /-- EVn_CONS, reset 0. -/
  cons : W32
  /-- EVn_DROP, saturating, reset 0. -/
  drop : W32
  /-- EVn_CTRL.ENABLE, reset 0. -/
  enable : Bool
  /-- EVn_CTRL.VECTOR, reset 0. -/
  vector : BitVec 5
  /-- EVn_CTRL.OWNER, reset none. -/
  owner : Option HostPort
  /-- EVn_CTRL.IRQ_EN, reset 0. -/
  irqEn : Bool
  /-- Events held while the ring is full or disabled, oldest first, at most 256 (R71), reset empty. -/
  hold : List EventRec
  /-- An event was dropped since the previous entry: the next entry carries LOST (R71), reset 0. -/
  lost : Bool
  deriving DecidableEq, Repr

/-- An event ring after reset (Table 3.3). -/
def EventRing.reset : EventRing :=
  { prod := 0, cons := 0, drop := 0, enable := false, vector := 0, owner := none, irqEn := false, hold := [], lost := false }

/-- One host port (R51, R53, R56). -/
structure PortState where
  /-- The PCIe link is up (HOST_PORT_STATUS [8], [9]); reset 0. -/
  linkUp : Bool
  /-- The instant at which the link last went down, while it is down and the port not lost. -/
  downAt : Option Nat
  /-- Completion and reply writes held while the link is down, in order (R56). -/
  held : List (Nat × Completion)
  /-- MSIX_TABLE, 512 bytes. -/
  msixTable : Sparse Byte
  /-- MSIX_PBA, reset 0. -/
  pba : W32
  deriving DecidableEq, Repr

/-- A host port after reset (Table 3.3). -/
def PortState.reset : PortState :=
  { linkUp := false, downAt := none, held := [], msixTable := [], pba := 0 }

/-- A host-supplied boot image under verification, with the instant of its doorbell (R36, R74). -/
structure HostImage where
  since : Nat
  addr : W64
  len : W32
  deriving DecidableEq, Repr

/-- The boot image registers and the boot ROM's handling of a host image (R53, R74). -/
structure BootRegs where
  /-- BOOT_IMG_ADDR_HI, BOOT_IMG_ADDR_LO, reset 0. -/
  addr : W64
  /-- BOOT_IMG_LEN, reset 0. -/
  len : W32
  /-- A BOOT_DOORBELL is held while the drives are read (R74), reset 0. -/
  doorbellHeld : Bool
  /-- The ROM has turned to host images (R36), reset 0. -/
  hostPhase : Bool
  /-- The host image being verified (R74). -/
  verifying : Option HostImage
  deriving DecidableEq, Repr

/-- The boot image registers after reset (Table 3.3). -/
def BootRegs.reset : BootRegs := { addr := 0, len := 0, doorbellHeld := false, hostPhase := false, verifying := none }

/-- The host interface. -/
structure HostState where
  h0 : PortState
  h1 : PortState
  queues : Sparse Queue
  rings : Sparse EventRing
  /-- BAR4: the memory of the four event rings (R52, R70); a byte that nothing has written reads 0 (DESIGN CHOICE, log 2). -/
  eventMem : Sparse Byte
  /-- The ring of each event code; EV0 where not listed (R70). -/
  routes : Sparse Nat
  /-- Per PRIO, the queue served last, for the round-robin (R64, R73); 16 where none was. -/
  lastServed : Sparse Nat
  /-- The Apex serves the mailboxes; false during an Apex restart and a wake (R73). -/
  serving : Bool
  /-- MODE_CHANGED events that completed while the rings did not run, oldest first, at most 16 (R30). -/
  modeEvents : List EventRec
  /-- More than 16 of them were queued: the first delivered carries LOST (R30). -/
  modeLost : Bool
  boot : BootRegs
  deriving DecidableEq, Repr

/-- The host interface after reset. -/
def HostState.reset : HostState :=
  { h0 := PortState.reset, h1 := PortState.reset, queues := [], rings := [], eventMem := [], routes := [],
    lastServed := [], serving := true, modeEvents := [], modeLost := false, boot := BootRegs.reset }

end Sys2Proof.Machine
end

