-- ==== Sys2Proof/Machine/StateChord.lean ====
section
/-!
DEFINITION. State of the Chord links and of the twin pair and cluster (chapter "Twins and clusters"):
the link layer, the members as their HELLOs describe them, the lease, replication and handover.
-/
namespace Sys2Proof.Machine

/-- A Chord message (Table 16.3) before it is cut into link frames. -/
structure ChordMsg where
  cls : Nat
  src : Nat
  dst : Nat
  bcast : Bool
  hops : Nat
  compat : Nat
  epoch : Nat
  seq : Nat
  /-- The stream of the message (R417): class, destination and partition. -/
  stream : Nat
  body : List Byte
  deriving DecidableEq, Repr

/-- A message on a lane of a link, with the bytes of it already sent in link frames (R414). -/
structure LaneMsg where
  msg : ChordMsg
  sent : Nat
  deriving DecidableEq, Repr

/-- A link frame sent and not acknowledged (R413). -/
structure SentFrame where
  seq : Nat
  lane : Nat
  last : Bool
  payload : List Byte
  /-- The message that the frame carries a part of. -/
  msg : ChordMsg
  deriving DecidableEq, Repr

/-- One Chord link (R413 to R416). -/
structure ChordLink where
  /-- The PCS holds block lock; reset 0. -/
  lock : Bool
  /-- The link is up (R416); reset 0. -/
  up : Bool
  /-- The link is held down: a HELLO of another member, or of this chip's own number (R416); reset 0. -/
  mismatch : Bool
  conflict : Bool
  /-- SEQ of the next frame sent, 12 bits; reset 0. -/
  nextSeq : Nat
  /-- SEQ expected of the next frame received, 12 bits; reset 0. -/
  expectSeq : Nat
  /-- Frames sent and not acknowledged, oldest first. -/
  unacked : List SentFrame
  /-- Resends of the oldest of them. -/
  resends : Nat
  /-- Instant of the last sending of the oldest of them, or of the last acknowledgement. -/
  sentAt : Nat
  /-- Messages waiting or partly sent, by lane. -/
  waiting : Sparse (List LaneMsg)
  /-- Credits spent, by lane: 64 less the credits held (R415); reset 0. -/
  spent : Sparse Nat
  /-- Bytes served of lanes 2 to 6 in twelfths per unit of weight (R415); reset 0. -/
  served : Sparse Nat
  /-- Credits to be returned, by lane; reset 0. -/
  owed : Sparse Nat
  /-- An acknowledgement is owed; reset 0. -/
  ackOwed : Bool
  /-- The part received of each lane's message (R414). -/
  partial_ : Sparse (List Byte)
  /-- The last HELLO received: member, its send time and its receive time (R421); none after reset. -/
  hello : Option (Nat × Int × Int)
  deriving DecidableEq, Repr

/-- A Chord link after reset. -/
def ChordLink.reset : ChordLink :=
  { lock := false, up := false, mismatch := false, conflict := false, nextSeq := 0, expectSeq := 0, unacked := [],
    resends := 0, sentAt := 0, waiting := [], spent := [], served := [], owed := [], ackOwed := false, partial_ := [],
    hello := none }

/-- A member of the cluster as its HELLOs describe it (R416, R420, R438). -/
structure Member where
  /-- A HELLO of the member has been received; reset 0. -/
  known : Bool
  /-- The member counts as present (R438); reset 0. -/
  present : Bool
  /-- Mode code announced. -/
  mode : Nat
  epoch : Nat
  compat : Nat
  leaseGen : Nat
  /-- MESH_SHIFT announced, in 2^-16 ns. -/
  meshShift : Int
  asn : Nat
  /-- Members directly linked to it, a map. -/
  links : W16
  healthy : Bool
  /-- The check values of R430, EVEN then ODD. -/
  checks : List Nat
  /-- The last 16 offsets θ in 2^-16 ns, most recent first (R421). -/
  offsets : List Int
  /-- Consecutive exchanges with |θ| within half of TIME_TOL (R421). -/
  calm : Nat
  /-- Instant since which the member has been unreachable. -/
  lostAt : Option Nat
  /-- The epoch for which EPOCH_BEHIND was raised, plus one (R420). -/
  behind : Nat
  /-- CHORD_COMPAT_MISMATCH has been raised and the mismatch lasts (R420). -/
  compatBad : Bool
  /-- Instant at which its last message arrived (R433). -/
  heardAt : Nat
  deriving DecidableEq, Repr

/-- A member of which nothing has been heard. -/
def Member.reset : Member :=
  { known := false, present := false, mode := 0, epoch := 0, compat := 0, leaseGen := 0, meshShift := 0, asn := 0, links := 0,
    healthy := false, checks := [], offsets := [], calm := 0, lostAt := none, behind := 0, compatBad := false, heardAt := 0 }

/-- The state of a bulk resynchronization (R427). -/
structure Resync where
  /-- Instant of its start. -/
  since : Nat
  /-- The replication classes all of whose state has been sent: node records, slots, queues and the journal. -/
  ended : List Nat
  /-- The streams of those classes, each with the number that its next message has. -/
  marks : List (Nat × Nat)
  /-- Nodes whose record, and nodes whose queue, arrived since the start. -/
  nodes : List Nat
  queues : List Nat
  /-- A REPL_KEY failed or met another key, or a stream had a gap: SYNCED waits for a new start (R427, R430). -/
  failed : Bool
  deriving DecidableEq, Repr

/-- A planned handover (R435). -/
structure Handover where
  /-- The slot that begins at the instant H. -/
  slot : Nat
  /-- This chip is the old active twin. -/
  outgoing : Bool
  /-- Trigger code of the transition: 0x01 for a command, 0x08 for the revertive return. -/
  trigger : Nat
  /-- The generation that HANDOFF offers and the sum of the streams that precede it, until they are applied. -/
  offer : Option (Nat × Nat)
  /-- HANDOFF was sent, or its lease taken. -/
  done : Bool
  deriving DecidableEq, Repr

/-- An acknowledgement withheld until the standby confirms its frame (R429). -/
structure ConfirmWait where
  node : Nat
  /-- SRC_SEQ of the REPL_NODE. -/
  seq : Nat
  sentAt : Nat
  /-- PPDU request of the acknowledgement, by its identity in the transmit state. -/
  ack : Nat
  deriving DecidableEq, Repr

/-- A twin's role in its pair (R422, R424). -/
structure TwinState where
  /-- Highest LEASE_GEN held or seen, in the battery domain; reset 0. -/
  genHigh : W32
  /-- This chip holds the lease; reset 0. -/
  held : Bool
  /-- LEASE_GEN of the lease held, or of the active twin's last LEASE; reset 0. -/
  gen : W32
  /-- Renewal number of the last LEASE sent; reset 0. -/
  renewal : W32
  /-- Instant of the last LEASE sent. -/
  leaseSentAt : Nat
  /-- Instant of the last LEASE received of the current generation (standby). -/
  leaseAt : Option Nat
  /-- Instant of the last LEASE_ACK received (active). -/
  ackAt : Option Nat
  /-- The standby is declared lost (R423); reset 0. -/
  peerLost : Bool
  /-- End of ISOLATION_HOLD (R426). -/
  isolatedUntil : Option Nat
  /-- TWIN_TAKEOVER_BLOCKED was raised for the expiry in force, with this precondition. -/
  blocked : Option Nat
  /-- Instant from which an entry to an active mode waits for a HELLO (R424). -/
  startupAt : Option Nat
  /-- The standby is SYNCED: its own state in a standby, the peer's in an active twin; reset 0. -/
  synced : Bool
  resync : Option Resync
  /-- Running job of TWIN_RESYNC. -/
  job : Option Nat
  /-- Position of the journal backfill, BLOCK_SEQ, with its end and the instant of its last block (R427). -/
  backfill : Nat
  backfillTo : Option Nat
  backfillAt : Nat
  /-- Next SRC_SEQ of every stream sent, and expected of every replication stream received (R418, R427). -/
  txSeq : Sparse Nat
  rxSeq : Sparse Nat
  /-- The link that each stream uses, plus one (R417). -/
  streamLink : Sparse Nat
  /-- Acknowledgements withheld (R429). -/
  waits : List ConfirmWait
  handover : Option Handover
  /-- The peer's last health report and the instant of its arrival (R436). -/
  health : List Byte
  healthAt : Option Nat
  healthOk : Bool
  /-- Instant of the last HEALTH sent (R436). -/
  healthSentAt : Nat
  /-- A split is reported and lasts (R425). -/
  split : Bool
  /-- Instant since which the even member has sent healthy reports only (R436). -/
  healthySince : Option Nat
  /-- Own last health report was healthy (R432). -/
  ownHealthy : Bool
  /-- FRAME records confirmed, most recent first: instant and the record (R433). -/
  confirmed : List (Nat × List Byte)
  deriving DecidableEq, Repr

/-- The twin state after reset. -/
def TwinState.reset : TwinState :=
  { genHigh := 0, held := false, gen := 0, renewal := 0, leaseSentAt := 0, leaseAt := none, ackAt := none, peerLost := false,
    isolatedUntil := none, blocked := none, startupAt := none, synced := false, resync := none, job := none, backfill := 0, backfillTo := none, backfillAt := 0,
    txSeq := [], rxSeq := [], streamLink := [], waits := [], handover := none, health := [], healthAt := none,
    healthOk := false, healthSentAt := 0, split := false, healthySince := none, ownHealthy := true, confirmed := [] }

/-- The Chord links, the members and the twin. -/
structure ChordState where
  links : Sparse ChordLink
  members : Sparse Member
  /-- Instant of the last HELLO sent (R416). -/
  helloAt : Nat
  /-- The last median θ that agreed, by member (R421, R433). -/
  keptTheta : Sparse Int
  twin : TwinState
  deriving DecidableEq, Repr

/-- Chord after reset. -/
def ChordState.reset : ChordState :=
  { links := [], members := [], helloAt := 0, keptTheta := [], twin := TwinState.reset }

end Sys2Proof.Machine
end

