-- ==== Sys2Proof/Machine/StateMode.lean ====
section
/-!
DEFINITION. State of the operating modes, the life cycle, the commit groups, the jobs, the firmware
sets, the power controller and the compatibility interface.
-/
namespace Sys2Proof.Machine

/-- Operating modes (Table 2.1). -/
inductive Mode where
  | off
  | boot
  | selftest
  | config
  | activeN
  | standbyN
  | activeC
  | standbyC
  | island
  | quiescent
  | service
  | dump
  deriving DecidableEq, Repr

/-- Life-cycle states (Table 2.1). -/
inductive LifeCycle where
  | manufacture
  | provisioned
  | deployed
  | returned
  | decommissioned
  deriving DecidableEq, Repr

/-- A transition that has started and is not complete (R33, R35). -/
structure Transition where
  /-- Row of Table 2.5. -/
  row : Nat
  fromMode : Mode
  toMode : Mode
  /-- Trigger code of Table 2.3. -/
  trigger : Nat
  /-- Wake source of Table 2.9, for row 15. -/
  wake : Option Nat
  /-- The SYS_MODE_SET that waits for the transition, or the UR_SET_STATE. -/
  cmd : Option Cmd
  /-- Instant at which the transition started. -/
  since : Nat
  /-- Limit of Table 2.5, in ticks; none where the row gives none. -/
  limit : Option Nat
  deriving DecidableEq, Repr

/-- A trigger of lower rank held during a transition (R35). -/
inductive HeldTrigger where
  /-- Wake source of Table 2.9. -/
  | wake (source : Nat)
  | backhaulLost
  | backhaulRestored
  deriving DecidableEq, Repr

/-- Modes and life cycle (R28 to R50). -/
structure ModeState where
  /-- SYS_MODE_STATUS.MODE, reset BOOT. -/
  mode : Mode
  /-- Life-cycle state in one-time-programmable storage, as fused. -/
  lifecycle : LifeCycle
  /-- The origin mode while ORIGIN_VALID = 1, reset none. -/
  origin : Option Mode
  /-- The transition in progress: IN_TRANSITION and TARGET show it; reset none. -/
  trans : Option Transition
  /-- Triggers of lower rank that a transition holds (R35), reset none. -/
  held : List HeldTrigger
  /-- SELFTEST_FAIL, reset 0. -/
  selftestFail : Bool
  /-- DUMP_INCOMPLETE, reset 0. -/
  dumpIncomplete : Bool
  /-- BOOT_HALT, reset 0. -/
  bootHalt : Bool
  /-- Consecutive failed resets, held in the power controller (R36, R525), reset 0. -/
  failedResets : Nat
  /-- Instant of the last reset release (R36). -/
  releasedAt : Nat
  /-- Instant of entry to the current mode. -/
  enteredAt : Nat
  /-- Backhaul was declared lost and not yet restored (R41, R44). -/
  backhaulLost : Bool
  /-- Per port, the instant of its last SYS_BACKHAUL_REPORT plus one; 0 for never (R41). -/
  reportAt : Sparse Nat
  /-- Per port of Table 11.4, whether it counts as up for R41, and since when: twice the instant plus one for up, twice the instant for down. -/
  backhaulSince : Sparse Nat
  deriving DecidableEq, Repr

/-- Modes after reset; the life cycle is a DESIGN CHOICE (log 3). -/
def ModeState.reset : ModeState :=
  { mode := .boot, lifecycle := .deployed, origin := none, trans := none, held := [], selftestFail := false,
    dumpIncomplete := false, bootHalt := false, failedResets := 0, releasedAt := 0, enteredAt := 0,
    backhaulLost := false, reportAt := [], backhaulSince := [] }

/-- The commit groups reached through mailboxes (R22 to R25, R543). A field is keyed by group, row and
index together. A staged copy holds the fields written since it was last live. -/
structure CfgState where
  /-- Live values; a field that is not listed has its default. -/
  live : Sparse Int
  /-- Staged values; none where the staged copy equals the live one. -/
  staged : Sparse (Option Int)
  /-- The queue that owns the staged copy of a group, plus one; 0 where nothing is staged (R24). -/
  owner : Sparse Nat
  /-- Configuration epoch, reset 0 (R25). -/
  epoch : W32
  /-- A partition map has been committed since reset (R482). -/
  partitionLive : Bool
  /-- The QUIESCENT overlay is in use (R45). -/
  overlay : Bool
  deriving DecidableEq, Repr

/-- The commit groups after reset (R25). -/
def CfgState.reset : CfgState :=
  { live := [], staged := [], owner := [], epoch := 0, partitionLive := false, overlay := false }

/-- A class D job (R474, Table 18.5). -/
structure Job where
  handle : Nat
  /-- The queue of its command. -/
  queue : Nat
  opcode : Nat
  status : Status
  detail : Nat
  done : Bool
  progress : Nat
  result : List Byte
  /-- The request of the command that started the job. -/
  req : List Byte
  deriving DecidableEq, Repr

/-- Jobs (R474). -/
structure JobState where
  running : List Job
  /-- The last 64 completed jobs, most recent first. -/
  completed : List Job
  /-- The next handle, rising from 1. -/
  next : Nat
  deriving DecidableEq, Repr

/-- No job after reset; handles rise from 1 (R474). -/
def JobState.reset : JobState := { running := [], completed := [], next := 1 }

/-- State of a firmware set (Table 18.6, SYS_FW_STATUS). -/
inductive FwSetState where
  | empty
  | loading
  | loaded
  | verified
  deriving DecidableEq, Repr

/-- A firmware image set (R476). -/
structure FwSet where
  version : W32
  compat : W16
  state : FwSetState
  bytes : List Byte
  /-- The set holds an Apex image and a Facet set (SYS_FW_VERIFY RESULT). -/
  apex : Bool
  facet : Bool
  deriving DecidableEq, Repr

/-- The three sets of the BOOT region (R476). -/
structure FwState where
  inForce : FwSet
  previous : FwSet
  staged : FwSet
  /-- The firmware that runs: version and compatibility level (R1, R2). -/
  runVersion : W32
  runCompat : W16
  /-- An activation restarts the Apex: the job handle and the instant of the restart (R49). -/
  restart : Option (Nat × Nat)
  deriving DecidableEq, Repr

/-- An empty firmware set. -/
def FwSet.none : FwSet := { version := 0, compat := 0, state := .empty, bytes := [], apex := false, facet := false }

/-- Firmware 3.4.0 at level 0x0004 in force (R1); the other sets empty (DESIGN CHOICE, log 4). -/
def FwState.reset : FwState :=
  { inForce := { version := 0x03040000, compat := 0x0004, state := .verified, bytes := [], apex := true, facet := true },
    previous := FwSet.none, staged := FwSet.none, runVersion := 0x03040000, runCompat := 0x0004, restart := none }

/-- Fused and strapped values (R2, R51, R526): they do not change. -/
structure Fuses where
  /-- STEPPING of the silicon that the spec covers. -/
  stepping : Byte
  /-- VARIANT: 0x01 IA, 0x02 CA. -/
  variant : Byte
  /-- DEVICE_UID. -/
  deviceUid : W64
  subsysVendor : W16
  subsysId : W16
  /-- Strap REF_SEL: 0 for 25 MHz, 1 for 10 MHz (R522). -/
  refSel : Bool
  /-- Strap VIO_SEL (R511, R530). -/
  vioSel : Bool
  deriving DecidableEq, Repr

/-- The fused values that the model takes (DESIGN CHOICE but for STEPPING, log 3). -/
def Fuses.reset : Fuses :=
  { stepping := 0x21, variant := 0x01, deviceUid := 0, subsysVendor := 0, subsysId := 0, refSel := false, vioSel := false }

/-- The UR-340 compatibility interface (R489 to R510). -/
structure CompatState where
  /-- The profile in the battery domain: loaded, SUBSYS_VENDOR, SUBSYS_ID (R489). -/
  profile : Bool
  subsysVendor : W16
  subsysId : W16
  /-- The battery-domain copy was lost with VBAT, so that the CONFIG region decides (R489). -/
  profileLost : Bool
  /-- The copy of the profile in the CONFIG region (R489). -/
  saved : Option (Bool × W16 × W16)
  /-- The profile was in force at the last BOOT (R490). -/
  inForce : Bool
  /-- UR_CTRL.RUN, reset 0. -/
  run : Bool
  /-- UR_CTRL.IRQ_EN, reset 0. -/
  irqEn : Bool
  /-- UR_IRQ_STATUS [3:0], reset 0. -/
  irqStatus : BitVec 4
  cmdBase : W64
  rspBase : W64
  evtBase : W64
  /-- UR_RING_SIZE, reset 0x0A05. -/
  ringSize : W32
  cmdTail : W16
  cmdHead : W16
  rspHead : W16
  rspTail : W16
  evtHead : W16
  evtTail : W16
  /-- A UR command is fetched and not completed (UR_SET_STATE, UR_TWIN_SWITCH). -/
  inFlight : Option Cmd
  /-- EXT_STATUS.OPEN, reset 0. -/
  extOpen : Bool
  /-- EXT_FEATURES, Table 19.11, reset 0. -/
  features : BitVec 9
  /-- UR_STATUS.MIGRATED, reset 0. -/
  migrated : Bool
  /-- UR_STATUS.BACKHAUL_DOWN, reset 0. -/
  backhaulDown : Bool
  /-- Transition 11 under way: PERSIST_NATIVE, and the slot that begins at the boundary B (R509). -/
  migrating : Option (Bool × Nat)
  /-- Ports given UPLINK = 1 by UR_PORT_SET (R498), as a map. -/
  uplink : Byte
  deriving DecidableEq, Repr

/-- The compatibility interface after reset (Table 19.2); no profile (DESIGN CHOICE, log 3). -/
def CompatState.reset : CompatState :=
  { profile := false, subsysVendor := 0, subsysId := 0, profileLost := false, saved := none, inForce := false, run := false, irqEn := false,
    irqStatus := 0, cmdBase := 0, rspBase := 0, evtBase := 0, ringSize := 0x0A05, cmdTail := 0, cmdHead := 0,
    rspHead := 0, rspTail := 0, evtHead := 0, evtTail := 0, inFlight := none, extOpen := false, features := 0,
    migrated := false, backhaulDown := false, migrating := none, uplink := 0 }

/-- What a reset reaches (Table 20.8). -/
inductive ResetKind where
  | powerOn
  | pwronRst
  | sysRst
  /-- End of DUMP, or the boot ROM's own reset (R36, R50). -/
  | internal
  /-- The reset of a life-cycle change (R31). -/
  | lifecycle
  deriving DecidableEq, Repr

/-- Phase of the supply and reset (R514 to R525). -/
inductive PowerPhase where
  /-- Main rails off (OFF). -/
  | down
  /-- Down after a rail fault, since the instant given; the sequence restarts after 1 s (R515). -/
  | faultWait (since : Nat)
  /-- Down until VDD_IO is removed: the third rail fault within 10 minutes, or a VIO_SEL mismatch. -/
  | staysDown
  /-- Rails up, reset held at step 7 until REF_CLK appears (R514). -/
  | waitRef
  /-- A reset is asserted or its release delay runs (Table 20.8). -/
  | inReset (kind : ResetKind)
  /-- Out of reset. -/
  | running
  deriving DecidableEq, Repr

/-- The reference of the root synthesizer (R524). -/
inductive RefState where
  | locked
  | lost
  /-- Relocking by a slew. -/
  | slewing
  deriving DecidableEq, Repr

/-- The power controller, clocks and reset (R511 to R526, R536). -/
structure PowerState where
  phase : PowerPhase
  /-- VDD_IO is present. -/
  vddIo : Bool
  /-- A cell feeds VBAT. -/
  vbat : Bool
  /-- VDD_CORE setpoint in mV, 650 to 850 (R519). -/
  vddCore : Nat
  /-- Instants of the main-rail faults within the last 10 minutes (R515). -/
  faults : List Nat
  /-- PWR_FAULT_N driven low. -/
  pwrFaultN : Bool
  /-- RESET_OUT_N high. -/
  resetOutN : Bool
  ref : RefState
  /-- Consecutive transactions that each regulator did not answer (R512). -/
  noAnswer : Sparse Nat
  /-- Converter rails turned off after a fault: bit 0 VDD_RF_A, bit 1 VDD_RF_B (R515). -/
  convOff : Nat
  /-- THERM_ALERT_N driven low (R536). -/
  thermAlert : Bool
  /-- Dn_PERST_N released, transmitters awake (Table 20.6). -/
  drivesReleased : Bool
  /-- The instruction register of the TAP (R410); IDCODE after TRST_N (PRESUMED, log 50). -/
  tap : TapInstr
  deriving DecidableEq, Repr

/-- Right after the release of a power-on reset (Table 20.2 step 8). -/
def PowerState.reset : PowerState :=
  { phase := .running, vddIo := true, vbat := true, vddCore := 750, faults := [], pwrFaultN := false, resetOutN := true,
    ref := .locked, noAnswer := [], convOff := 0, thermAlert := false, drivesReleased := false, tap := .idcode }

end Sys2Proof.Machine
end

