-- ==== Sys2Proof/Machine/StateInteg.lean ====
section
/-!
DEFINITION. State of integrity, self-test, the health report and the dump (chapter "Data integrity,
self-test, health report and fatal-error dump").
-/
namespace Sys2Proof.Machine

/-- A health entry (Table 17.6). -/
structure HealthEntry where
  locus : Nat
  code : Nat
  severity : Nat
  resolved : Bool
  count : Nat
  firstSec : Nat
  lastSec : Nat
  deriving DecidableEq, Repr

/-- A dump header (Table 17.10), less its CRC. -/
structure DumpHead where
  /-- 0 EMPTY, 1 WRITING, 2 COMPLETE, 3 INCOMPLETE, 4 READ. -/
  state : Nat
  cause : Nat
  locus : Nat
  seconds : Nat
  nanos : Nat
  mode : Nat
  lifecycle : Nat
  epoch : Nat
  fwVersion : Nat
  fwCompat : Nat
  nSections : Nat
  seq : Nat
  length : Nat
  scope : Nat
  deriving DecidableEq, Repr

/-- An EMPTY slot. -/
def DumpHead.reset : DumpHead :=
  { state := 0, cause := 0, locus := 0, seconds := 0, nanos := 0, mode := 0, lifecycle := 0, epoch := 0, fwVersion := 0,
    fwCompat := 0, nSections := 0, seq := 0, length := 0, scope := 0 }

/-- The last-fatal record (R460). -/
structure LastFatal where
  cause : Nat
  locus : Nat
  seconds : Nat
  nanos : Nat
  /-- The slot chosen, or 0xFF. -/
  slot : Nat
  state : Nat
  reported : Bool
  deriving DecidableEq, Repr

/-- Integrity and self-test. -/
structure IntegState where
  /-- Entries of the health report, oldest first; reset empty. -/
  health : List HealthEntry
  /-- OVERFLOW, reset 0. -/
  overflow : Bool
  /-- REPORT_SEQ, reset 0. -/
  reportSeq : W32
  /-- CYCLE_PCT of the continuous self-test, reset 0. -/
  cyclePct : Nat
  /-- Loci whose step failed in the current cycle (Table 17.5, HEALTHY). -/
  cycleFailed : List Nat
  /-- The unit under test in a continuous self-test step (R452, R453). -/
  stepUnit : Option Nat
  /-- Repair-candidate list, up to 64 loci, in the battery domain (R445); reset empty. -/
  candidates : List Nat
  /-- Corrections of each row: locus, instants within 24 h (R445). -/
  corrected : Sparse (List Nat)
  /-- Lattice parity errors of each locus: instants within 1 h (Table 17.7). -/
  parity : Sparse (List Nat)
  /-- Spare rows in use, by locus; Facet positions that a spare serves, by locus (R448). -/
  spareRows : List Nat
  spareFacets : List Nat
  /-- Demodulator lanes and LDPC decoders left out of the pool (R446). -/
  lanesOut : List Nat
  decodersOut : List Nat
  /-- Sectors and ports marked failed (R446): maps. -/
  sectorsFailed : Byte
  portsFailed : Sparse Bool
  /-- Facets halted by an uncorrectable error (Table 17.2). -/
  facetsHalted : List Nat
  /-- Facets that the power-up test left out (R448, R482). -/
  facetsOut : List Nat
  /-- Cells of the packet buffer retired until the next reset (Table 17.2). -/
  cellsRetired : Nat
  /-- The last-fatal record, in the battery domain; reset none. -/
  lastFatal : Option LastFatal
  /-- A health entry of the record is due at the next entry to CONFIG (R460), in the battery domain; reset 0. -/
  fatalDue : Bool
  /-- NOCREDIT of each crossing instance at the last read of its status word (Table 1.6), reset 0. -/
  noCreditRead : Sparse Nat
  /-- The dump slots of the DUMP region (R461). -/
  dumps : Sparse DumpHead
  /-- Entry to DUMP and the slot chosen, while in DUMP. -/
  dumping : Option (Nat × Nat)
  deriving DecidableEq, Repr

/-- Integrity after reset. -/
def IntegState.reset : IntegState :=
  { health := [], overflow := false, reportSeq := 0, cyclePct := 0, cycleFailed := [], stepUnit := none, candidates := [],
    corrected := [], parity := [], spareRows := [], spareFacets := [], lanesOut := [], decodersOut := [], sectorsFailed := 0,
    portsFailed := [], facetsHalted := [], facetsOut := [], cellsRetired := 0, lastFatal := none, fatalDue := false, noCreditRead := [], dumps := [], dumping := none }

end Sys2Proof.Machine
end

