-- ==== Sys2Proof/Machine/Crypto.lean ====
section
/-!
DEFINITION. The algorithms that the crypto engines run (R398), as their published standards give them:
SHA-256 and SHA-384 (FIPS 180-4), HMAC and HKDF (RFC 5869), AES (FIPS 197) in CTR, CMAC and CCM
(SP 800-38), the key wrap of RFC 3394, HMAC_DRBG (SP 800-90A) and ECDSA verification over P-256 and
P-384 (FIPS 186-4).
-/
namespace Sys2Proof.Machine

/-! ### SHA-2 -/

/-- A number is prime. -/
def isPrime (n : Nat) : Bool := decide (2 ≤ n) && (List.range n).all (fun d => decide (d < 2) || n % d != 0)

/-- The first primes, up to the 80th, 409. -/
def shaPrimes : List Nat := (List.range 410).filter isPrime

/-- The largest `x` with `x ^ k ≤ n`, found bit by bit from bit `b - 1` downward. -/
def rootFloor (k n : Nat) : Nat → Nat → Nat
  | 0, x => x
  | b + 1, x => rootFloor k n b (if (x + 2 ^ b) ^ k ≤ n then x + 2 ^ b else x)

/-- The first `w` bits of the fractional part of the k-th root of `p`. -/
def rootFraction (k w p : Nat) : Nat := rootFloor k (p * 2 ^ (k * w)) (w + 8) 0 % 2 ^ w

/-- The words of a SHA-2 function: its word width and its six shift amounts. -/
structure ShaWidth where
  bytes : Nat
  rounds : Nat
  /-- Rotations of Σ0, Σ1, σ0 and σ1; the third of a small sigma is a shift. -/
  s0 : List Nat
  s1 : List Nat
  g0 : List Nat
  g1 : List Nat
  k : List Nat
  init : List Nat

/-- Rotate a word of `w` bits to the right. -/
def rotr (w v n : Nat) : Nat := (v / 2 ^ n) ||| (v * 2 ^ (w - n) % 2 ^ w)

/-- Σ of a word: three rotations. -/
def shaBig (w : Nat) (r : List Nat) (v : Nat) : Nat := r.foldl (fun a n => a ^^^ rotr w v n) 0

/-- σ of a word: two rotations and a shift. -/
def shaSmall (w : Nat) (r : List Nat) (v : Nat) : Nat :=
  rotr w v (r.getD 0 0) ^^^ rotr w v (r.getD 1 0) ^^^ (v / 2 ^ r.getD 2 0)

/-- SHA-256. -/
def sha256Width : ShaWidth :=
  { bytes := 4, rounds := 64, s0 := [2, 13, 22], s1 := [6, 11, 25], g0 := [7, 18, 3], g1 := [17, 19, 10],
    k := (shaPrimes.take 64).map (rootFraction 3 32), init := (shaPrimes.take 8).map (rootFraction 2 32) }

/-- SHA-384: the words of SHA-512 with the initial values of the ninth to sixteenth primes. -/
def sha384Width : ShaWidth :=
  { bytes := 8, rounds := 80, s0 := [28, 34, 39], s1 := [14, 18, 41], g0 := [1, 8, 7], g1 := [19, 61, 6],
    k := (shaPrimes.take 80).map (rootFraction 3 64), init := ((shaPrimes.drop 8).take 8).map (rootFraction 2 64) }

/-- The message schedule, most recent word first. -/
def shaSchedule (x : ShaWidth) (block : List Byte) : List Nat :=
  let w := 8 * x.bytes
  let first := ((List.range 16).map (fun i => beNat (slice block (x.bytes * i) x.bytes))).reverse
  ((List.range (x.rounds - 16)).foldl (fun l _ =>
    (shaSmall w x.g1 (l.getD 1 0) + l.getD 6 0 + shaSmall w x.g0 (l.getD 14 0) + l.getD 15 0) % 2 ^ w :: l) first).reverse

/-- One round over the eight working variables. -/
def shaRound (x : ShaWidth) (h : List Nat) (kw : Nat) : List Nat :=
  let w := 8 * x.bytes
  let m := 2 ^ w
  match h with
  | [a, b, c, d, e, f, g, hh] =>
    let ch := (e &&& f) ^^^ ((m - 1 - e) &&& g)
    let maj := (a &&& b) ^^^ (a &&& c) ^^^ (b &&& c)
    let t1 := hh + shaBig w x.s1 e + ch + kw
    let t2 := shaBig w x.s0 a + maj
    [(t1 + t2) % m, a, b, c, (d + t1) % m, e, f, g]
  | _ => h

/-- One block. -/
def shaBlock (x : ShaWidth) (h : List Nat) (block : List Byte) : List Nat :=
  let ws := shaSchedule x block
  let r := (x.k.zip ws).foldl (fun a p => shaRound x a (p.1 + p.2)) h
  (h.zip r).map (fun p => (p.1 + p.2) % 2 ^ (8 * x.bytes))

/-- The padded message. -/
def shaPad (x : ShaWidth) (l : List Byte) : List Byte :=
  let blk := 16 * x.bytes
  let len := 2 * x.bytes
  let z := (2 * blk - 1 - len - l.length % blk) % blk
  l ++ [0x80] ++ zeros z ++ beBytes len (8 * l.length)

/-- The chaining value over every whole block of a message. -/
def shaState (x : ShaWidth) (l : List Byte) : List Nat :=
  (List.range (l.length / (16 * x.bytes))).foldl (fun h i => shaBlock x h (slice l (16 * x.bytes * i) (16 * x.bytes))) x.init

/-- The hash of a message, all eight words. -/
def shaFull (x : ShaWidth) (l : List Byte) : List Byte := ((shaState x (shaPad x l)).map (beBytes x.bytes)).flatten

/-- SHA-256. -/
def sha256 (l : List Byte) : List Byte := shaFull sha256Width l

/-- SHA-384. -/
def sha384 (l : List Byte) : List Byte := (shaFull sha384Width l).take 48

/-! ### HMAC, HKDF, HMAC_DRBG -/

/-- HMAC over a hash of `blk`-byte blocks. -/
def hmac (h : List Byte → List Byte) (blk : Nat) (key msg : List Byte) : List Byte :=
  let k := padTo blk (if blk < key.length then h key else key)
  h (k.map (· ^^^ 0x5C) ++ h (k.map (· ^^^ 0x36) ++ msg))

/-- HMAC-SHA-256. -/
def hmac256 (key msg : List Byte) : List Byte := hmac sha256 64 key msg

/-- HMAC-SHA-384. -/
def hmac384 (key msg : List Byte) : List Byte := hmac sha384 128 key msg

/-- The blocks T(1) to T(n) of HKDF-Expand, with the last one. -/
def hkdfExpand (prk info : List Byte) : Nat → List Byte × List Byte
  | 0 => ([], [])
  | n + 1 =>
    let (out, t) := hkdfExpand prk info n
    let t' := hmac256 prk (t ++ info ++ leBytes 1 (n + 1))
    (out ++ t', t')

/-- HKDF with SHA-256 (RFC 5869). -/
def hkdf (salt ikm info : List Byte) (len : Nat) : List Byte :=
  ((hkdfExpand (hmac256 salt ikm) info ((len + 31) / 32)).1).take len

/-- The state of an HMAC_DRBG: K, V, and the requests since its seeding. -/
structure Drbg where
  key : List Byte
  v : List Byte
  requests : Nat
  deriving DecidableEq, Repr

/-- HMAC_DRBG update. -/
def drbgUpdate (data : List Byte) (d : Drbg) : Drbg :=
  let k := hmac256 d.key (d.v ++ [0x00] ++ data)
  let v := hmac256 k d.v
  if data.isEmpty then { d with key := k, v }
  else
    let k := hmac256 k (v ++ [0x01] ++ data)
    { d with key := k, v := hmac256 k v }

/-- HMAC_DRBG instantiated from a seed. -/
def drbgSeed (seed : List Byte) : Drbg :=
  drbgUpdate seed { key := List.replicate 32 0x00, v := List.replicate 32 0x01, requests := 0 }

/-- `n` blocks of output with the last V. -/
def drbgBlocks (key : List Byte) : Nat → List Byte → List Byte × List Byte
  | 0, v => ([], v)
  | n + 1, v =>
    let v := hmac256 key v
    let (out, w) := drbgBlocks key n v
    (v ++ out, w)

/-- `len` bytes from an HMAC_DRBG. -/
def drbgGenerate (len : Nat) (d : Drbg) : List Byte × Drbg :=
  let (out, v) := drbgBlocks d.key ((len + 31) / 32) d.v
  (out.take len, let d' := drbgUpdate [] { d with v }; { d' with requests := d.requests + 1 })

/-! ### AES -/

/-- Multiplication by x in the field of AES. -/
def xtime (b : Byte) : Byte := if b.getLsbD 7 then (b <<< 1) ^^^ 0x1B else b <<< 1

/-- Multiplication in the field of AES. -/
def gfMul (a b : Byte) : Byte :=
  ((List.range 8).foldl (fun (p : Byte × Byte) i => (if b.getLsbD i then p.1 ^^^ p.2 else p.1, xtime p.2)) ((0 : Byte), a)).1

/-- The inverse in the field of AES, 0 for 0: the 254th power. -/
def gfInv (a : Byte) : Byte :=
  let a2 := gfMul a a
  let a4 := gfMul a2 a2
  let a8 := gfMul a4 a4
  let a16 := gfMul a8 a8
  let a32 := gfMul a16 a16
  let a64 := gfMul a32 a32
  let a128 := gfMul a64 a64
  gfMul a128 (gfMul a64 (gfMul a32 (gfMul a16 (gfMul a8 (gfMul a4 a2)))))

/-- Rotate a byte left. -/
def rotl8 (b : Byte) (n : Nat) : Byte := (b <<< n) ||| (b >>> (8 - n))

/-- The S-box. -/
def aesSub (b : Byte) : Byte :=
  let x := gfInv b
  x ^^^ rotl8 x 1 ^^^ rotl8 x 2 ^^^ rotl8 x 3 ^^^ rotl8 x 4 ^^^ 0x63

/-- The inverse S-box. -/
def aesInvSub (b : Byte) : Byte :=
  gfInv (rotl8 b 1 ^^^ rotl8 b 3 ^^^ rotl8 b 6 ^^^ 0x05)

/-- Byte-wise exclusive or. -/
def xorBytes (a b : List Byte) : List Byte := (a.zip b).map (fun p => p.1 ^^^ p.2)

/-- The next word of the key schedule. -/
def aesNextWord (nk : Nat) (ws : List (List Byte)) (rcon : Byte) : List Byte :=
  let i := ws.length
  let last := ws.getLastD []
  let back := ws.getD (i - nk) []
  let t := if i % nk = 0 then xorBytes ((last.drop 1 ++ last.take 1).map aesSub) [rcon, 0, 0, 0]
    else if 6 < nk ∧ i % nk = 4 then last.map aesSub else last
  xorBytes back t

/-- The key schedule: the words of every round key. -/
def aesSchedule (key : List Byte) : List (List Byte) :=
  let nk := key.length / 4
  let start := (List.range nk).map (fun i => slice key (4 * i) 4)
  ((List.range (4 * (nk + 7) - nk)).foldl (fun (p : List (List Byte) × Byte) _ =>
    let w := aesNextWord nk p.1 p.2
    (p.1 ++ [w], if p.1.length % nk = 0 then xtime p.2 else p.2)) (start, (1 : Byte))).1

/-- The round keys, 16 bytes each. -/
def aesRoundKeys (key : List Byte) : List (List Byte) :=
  let ws := aesSchedule key
  (List.range (ws.length / 4)).map (fun r => ((ws.drop (4 * r)).take 4).flatten)

/-- The rows shifted: byte r + 4c comes from column c + r. -/
def aesShift (st : List Byte) : List Byte :=
  (List.range 16).map (fun i => st.getD ((i + 4 * (i % 4)) % 16) 0)

/-- The rows shifted back. -/
def aesUnshift (st : List Byte) : List Byte :=
  (List.range 16).map (fun i => st.getD ((i + 16 - 4 * (i % 4)) % 16) 0)

/-- Each column multiplied by a circulant matrix with first row `m`. -/
def aesMix (m : List Byte) (st : List Byte) : List Byte :=
  (List.range 16).map (fun i =>
    (List.range 4).foldl (fun a j => a ^^^ gfMul (m.getD ((j + 4 - i % 4) % 4) 0) (st.getD (i / 4 * 4 + j) 0)) 0)

/-- AES encryption of one block. -/
def aesEncrypt (key block : List Byte) : List Byte :=
  match aesRoundKeys key with
  | [] => block
  | k0 :: ks =>
    let st := xorBytes (padTo 16 block) k0
    let mid := ks.dropLast.foldl (fun st k => xorBytes (aesMix [2, 3, 1, 1] (aesShift (st.map aesSub))) k) st
    xorBytes (aesShift (mid.map aesSub)) (ks.getLastD [])

/-- AES decryption of one block. -/
def aesDecrypt (key block : List Byte) : List Byte :=
  match (aesRoundKeys key).reverse with
  | [] => block
  | k0 :: ks =>
    let st := (aesUnshift (xorBytes (padTo 16 block) k0)).map aesInvSub
    let mid := ks.dropLast.foldl (fun st k => (aesUnshift (aesMix [14, 11, 13, 9] (xorBytes st k))).map aesInvSub) st
    xorBytes mid (ks.getLastD [])

/-- A 16-byte counter block plus `n`, in network order. -/
def ctrBlock (iv : List Byte) (n : Nat) : List Byte := beBytes 16 ((beNat iv + n) % 2 ^ 128)

/-- AES-CTR from a 16-byte counter block, with `skip` bytes of the key stream already used. -/
def aesCtr (key iv : List Byte) (skip : Nat) (data : List Byte) : List Byte :=
  let first := skip / 16
  let n := (skip % 16 + data.length + 15) / 16
  let stream := ((List.range n).map (fun i => aesEncrypt key (ctrBlock iv (first + i)))).flatten
  xorBytes data (stream.drop (skip % 16))

/-- The CBC-MAC of whole blocks, from a chaining value. -/
def cbcMac (key : List Byte) (x data : List Byte) : List Byte :=
  (List.range ((data.length + 15) / 16)).foldl (fun x i => aesEncrypt key (xorBytes x (padTo 16 (slice data (16 * i) 16)))) x

/-- A block doubled in the field of CMAC. -/
def cmacDouble (b : List Byte) : List Byte :=
  let v := beNat b
  beBytes 16 ((v * 2 % 2 ^ 128) ^^^ (if bit v 127 then 0x87 else 0))

/-- AES-CMAC. -/
def aesCmac (key msg : List Byte) : List Byte :=
  let k1 := cmacDouble (aesEncrypt key (zeros 16))
  let n := (msg.length + 15) / 16 - 1
  let last := msg.drop (16 * n)
  let m := if last.length = 16 then xorBytes last k1 else xorBytes (padTo 16 (last ++ [0x80])) (cmacDouble k1)
  aesEncrypt key (xorBytes (cbcMac key (zeros 16) (msg.take (16 * n))) m)

/-- The additional data of CCM with its length, padded to blocks. -/
def ccmAad (a : List Byte) : List Byte :=
  if a.isEmpty then []
  else if a.length < 0xFF00 then padMul 16 (beBytes 2 a.length ++ a)
  else padMul 16 ([0xFF, 0xFE] ++ beBytes 4 a.length ++ a)

/-- The flags byte of B0. -/
def ccmFlags (l m : Nat) (aad : Bool) : Nat := b2n aad * 64 + (if m = 0 then 0 else (m - 2) / 2) * 8 + (l - 1)

/-- The unencrypted MAC of CCM and CCM*: a nonce of 15 - L bytes and a MAC of `m` bytes. -/
def ccmMac (key nonce aad msg : List Byte) (m : Nat) : List Byte :=
  let l := 15 - nonce.length
  let b0 := leBytes 1 (ccmFlags l m (!aad.isEmpty)) ++ nonce ++ beBytes l msg.length
  (cbcMac key (zeros 16) (b0 ++ ccmAad aad ++ padMul 16 msg)).take m

/-- The counter block A_i of CCM. -/
def ccmCounter (nonce : List Byte) (i : Nat) : List Byte :=
  let l := 15 - nonce.length
  leBytes 1 (l - 1) ++ nonce ++ beBytes l i

/-- CCM* encryption: the ciphertext and the encrypted MAC. -/
def ccmEncrypt (key nonce aad msg : List Byte) (m : Nat) : List Byte × List Byte :=
  (aesCtr key (ccmCounter nonce 1) 0 msg, aesCtr key (ccmCounter nonce 0) 0 (ccmMac key nonce aad msg m))

/-- CCM* decryption: the plaintext, and whether the MAC verifies. -/
def ccmDecrypt (key nonce aad ct mac : List Byte) : List Byte × Bool :=
  let pt := aesCtr key (ccmCounter nonce 1) 0 ct
  (pt, aesCtr key (ccmCounter nonce 0) 0 (ccmMac key nonce aad pt mac.length) == mac)

/-! ### Key wrap (RFC 3394) -/

/-- The initial value of the key wrap. -/
def wrapIv : List Byte := List.replicate 8 0xA6

/-- One step of the wrap over A and the n registers. -/
def wrapStep (key : List Byte) (n : Nat) (st : List Byte × List (List Byte)) (t : Nat) : List Byte × List (List Byte) :=
  let i := t % n
  let b := aesEncrypt key (st.1 ++ st.2.getD i [])
  (xorBytes (b.take 8) (beBytes 8 (t + 1)), st.2.set i (b.drop 8))

/-- The key wrap of a plaintext of 8n bytes. -/
def keyWrap (key plain : List Byte) : List Byte :=
  let n := plain.length / 8
  let r := (List.range n).map (fun i => slice plain (8 * i) 8)
  let (a, r) := (List.range (6 * n)).foldl (wrapStep key n) (wrapIv, r)
  a ++ r.flatten

/-- One step of the unwrap. -/
def unwrapStep (key : List Byte) (n : Nat) (st : List Byte × List (List Byte)) (t : Nat) : List Byte × List (List Byte) :=
  let i := t % n
  let b := aesDecrypt key (xorBytes st.1 (beBytes 8 (t + 1)) ++ st.2.getD i [])
  (b.take 8, st.2.set i (b.drop 8))

/-- The key unwrap; none where the integrity check fails. -/
def keyUnwrap (key wrapped : List Byte) : Option (List Byte) :=
  let n := wrapped.length / 8 - 1
  let r := (List.range n).map (fun i => slice wrapped (8 * (i + 1)) 8)
  let (a, r) := (List.range (6 * n)).reverse.foldl (unwrapStep key n) (wrapped.take 8, r)
  if a = wrapIv then some r.flatten else none

/-! ### ECDSA -/

/-- A prime curve y² = x³ - 3x + b with a base point of order n. -/
structure Curve where
  bytes : Nat
  p : Nat
  b : Nat
  n : Nat
  gx : Nat
  gy : Nat

/-- P-256. -/
def p256 : Curve :=
  { bytes := 32, p := 2 ^ 256 - 2 ^ 224 + 2 ^ 192 + 2 ^ 96 - 1,
    b := 0x5AC635D8AA3A93E7B3EBBD55769886BC651D06B0CC53B0F63BCE3C3E27D2604B,
    n := 0xFFFFFFFF00000000FFFFFFFFFFFFFFFFBCE6FAADA7179E84F3B9CAC2FC632551,
    gx := 0x6B17D1F2E12C4247F8BCE6E563A440F277037D812DEB33A0F4A13945D898C296,
    gy := 0x4FE342E2FE1A7F9B8EE7EB4A7C0F9E162BCE33576B315ECECBB6406837BF51F5 }

/-- P-384. -/
def p384 : Curve :=
  { bytes := 48, p := 2 ^ 384 - 2 ^ 128 - 2 ^ 96 + 2 ^ 32 - 1,
    b := 0xB3312FA7E23EE7E4988E056BE3F82D19181D9C6EFE8141120314088F5013875AC656398D8A2ED19D2A85C8EDD3EC2AEF,
    n := 0xFFFFFFFFFFFFFFFFFFFFFFFFFFFFFFFFFFFFFFFFFFFFFFFFC7634D81F4372DDF581A0DB248B0A77AECEC196ACCC52973,
    gx := 0xAA87CA22BE8B05378EB1C71EF320AD746E1D3B628BA79B9859F741E082542A385502F25DBF55296C3A545E3872760AB7,
    gy := 0x3617DE4A96262C6F5D9E98BF9292DC29F8F41DBD289A147CE9DA3113B5F0B8C00A60B1CE1D7E819D7A431D7C90EA0E5F }

/-- A power modulo `m`, over the bits of the exponent. -/
def powMod (m b e bits : Nat) : Nat :=
  (List.range bits).reverse.foldl (fun a i => let q := a * a % m; if bit e i then q * b % m else q) (1 % m)

/-- The inverse modulo a prime of at most 384 bits. -/
def invMod (m a : Nat) : Nat := powMod m (a % m) (m - 2) 384

/-- The sum of two points; none is the point at infinity. -/
def ecAdd (c : Curve) (a b : Option (Nat × Nat)) : Option (Nat × Nat) :=
  match a, b with
  | none, q => q
  | p, none => p
  | some (x1, y1), some (x2, y2) =>
    if x1 = x2 ∧ (y1 + y2) % c.p = 0 then none
    else
      let l := if x1 = x2 then (3 * x1 * x1 + (c.p - 3)) * invMod c.p (2 * y1) % c.p
        else (y2 + c.p - y1) * invMod c.p (x2 + c.p - x1) % c.p
      let x3 := (l * l + 2 * c.p - x1 - x2) % c.p
      some (x3, (l * (x1 + c.p - x3) + c.p - y1) % c.p)

/-- A multiple of a point. -/
def ecMul (c : Curve) (k : Nat) (p : Option (Nat × Nat)) : Option (Nat × Nat) :=
  (List.range (8 * c.bytes)).reverse.foldl (fun a i => let d := ecAdd c a a; if bit k i then ecAdd c d p else d) none

/-- A point lies on the curve. -/
def onCurve (c : Curve) (x y : Nat) : Bool :=
  decide (x < c.p) && decide (y < c.p) && (y * y) % c.p == (x * x * x + (c.p - 3) * x + c.b) % c.p

/-- ECDSA verification of r ‖ s over a digest, under an uncompressed SEC1 public key. -/
def ecdsaVerify (c : Curve) (pub digest sig : List Byte) : Bool :=
  let x := beNat (slice pub 1 c.bytes)
  let y := beNat (slice pub (1 + c.bytes) c.bytes)
  let r := beNat (slice sig 0 c.bytes)
  let v := beNat (slice sig c.bytes c.bytes)
  if byteAt pub 0 = 4 ∧ onCurve c x y ∧ 1 ≤ r ∧ r < c.n ∧ 1 ≤ v ∧ v < c.n then
    let e := beNat (digest.take c.bytes)
    let w := invMod c.n v
    match ecAdd c (ecMul c (e * w % c.n) (some (c.gx, c.gy))) (ecMul c (r * w % c.n) (some (x, y))) with
    | some (px, _) => px % c.n == r
    | none => false
  else false

end Sys2Proof.Machine
end

