-- ==== Sys2Proof/Machine/StateKeys.lean ====
section
/-!
DEFINITION. State of the security die (chapter "Key slots, root secret, tamper response and the
Perimeter"): slots, root secret, authorities, contexts and engines, the tamper latch, the Perimeter,
and the node-key caches of the Facets (R208).
-/
namespace Sys2Proof.Machine

/-- State of a slot (R381). -/
inductive SlotState where
  | empty
  | valid
  | bad
  deriving DecidableEq, Repr

/-- A key slot (R381). -/
structure KeySlot where
  /-- The key field, 32 bytes. -/
  key : List Byte
  /-- The attribute word (Table 15.1). -/
  attr : W32
  /-- The tag, 8 bytes. -/
  tag : List Byte
  state : SlotState
  deriving DecidableEq, Repr

/-- An EMPTY slot. -/
def KeySlot.reset : KeySlot :=
  { key := List.replicate 32 0, attr := 0, tag := List.replicate 8 0, state := .empty }

/-- A host context 2 to 7 that is open (R399). -/
structure KeyCtx where
  queue : Nat
  /-- OP of KEY_CTX_OPEN. -/
  op : Nat
  /-- The slot; none for a digest or a verification. -/
  slot : Option Nat
  /-- The key that was loaded from the slot. -/
  key : List Byte
  prio : Nat
  tagLen : Nat
  /-- The nonce of CCM, or the initial counter block of CTR. -/
  nonce : List Byte
  /-- The message so far: what the running digest or counter has taken in. -/
  message : List Byte
  /-- A segment of the context is queued or in an engine. -/
  inSegment : Bool
  /-- The slot was erased: the context closes at the end of its segment (R401). -/
  closing : Bool
  /-- Instant of the last command. -/
  lastAt : Nat
  deriving DecidableEq, Repr

/-- The engines (Table 15.8). -/
inductive EngineKind where
  | aes
  | sha
  | pka
  deriving DecidableEq, Repr

/-- A segment that waits for an engine or is in one (R400). -/
structure Segment where
  kind : EngineKind
  prio : Nat
  /-- The host context, or 0 for a node-key derivation. -/
  ctx : Nat
  /-- The command that completes at the end, with its status and reply. -/
  cmd : Option (Cmd × List Byte)
  /-- The Facet, node and generation of a derivation (R209). -/
  derive : Option (Nat × Nat × Nat)
  deriving DecidableEq, Repr

/-- A node key in a Facet's cache (R208). -/
structure CachedKey where
  node : Nat
  gen : Nat
  key : List Byte
  deriving DecidableEq, Repr

/-- The tamper latch (R396). -/
structure TamperLatch where
  /-- Cause bits of Table 15.6. -/
  causes : Nat
  /-- Per cause, whether it zeroized. -/
  zeroized : Nat
  /-- Slow-clock time of the first declaration. -/
  time : Nat
  /-- Declarations, saturating at 255. -/
  count : Nat
  deriving DecidableEq, Repr

/-- A cleared latch. -/
def TamperLatch.reset : TamperLatch := { causes := 0, zeroized := 0, time := 0, count := 0 }

/-- A Perimeter violation in the log (R406). -/
structure PerimRec where
  cls : Nat
  write : Bool
  addr : Nat
  seconds : Nat
  nanos : Nat
  deriving DecidableEq, Repr

/-- The Perimeter (R405 to R407). -/
structure PerimState where
  /-- The 32 descriptors, 128 bits each, reset 0. -/
  regions : Sparse Nat
  /-- PERIM_LOCK, reset 0. -/
  lock : Bool
  /-- PERIM_LOCKED_WRITE, reset 0. -/
  lockedWrite : Nat
  /-- PERIM_VIOLATIONS, reset 0. -/
  violations : Nat
  /-- The first 16 violations since reset, in order. -/
  log : List PerimRec
  /-- Instant of the last PERIM_VIOLATION of each class plus one; 0 for none. -/
  eventAt : Sparse Nat
  deriving DecidableEq, Repr

/-- The Perimeter after reset. -/
def PerimState.reset : PerimState :=
  { regions := [], lock := false, lockedWrite := 0, violations := 0, log := [], eventAt := [] }

/-- The security die. -/
structure KeyState where
  slots : Sparse KeySlot
  /-- The root secret, 64 bytes (R385). -/
  root : List Byte
  /-- The root secret has been filled before. -/
  rootFilled : Bool
  /-- K_TAG (R385). -/
  tagKey : List Byte
  /-- The DRBG; none before it is seeded. -/
  drbg : Option Drbg
  /-- Authority entries (Table 15.2), 48 bytes: 0 MFG, 1 OWNER, 2 REG, 16 to 19 IMG0 to IMG3. An unset entry is all zero. -/
  authorities : Sparse (List Byte)
  /-- IMG_REVOKE, one bit per IMG entry. -/
  revoked : Nat
  /-- The outstanding nonce and the instant of its issue (R389). -/
  nonce : Option (List Byte × Nat)
  /-- Contexts 2 to 7; none where closed. -/
  contexts : Sparse (Option KeyCtx)
  /-- What each engine works on: 0 and 1 AES, 2 and 3 SHA, 4 PKA. -/
  engines : Sparse (Option Segment)
  /-- Segments that wait, oldest first. -/
  segments : List Segment
  /-- The key cache of each Facet, most recently used first, at most 512 (R208). -/
  caches : Sparse (List CachedKey)
  /-- KEY_DEBUG_UNLOCK since reset: bit 0 boundary scan, bit 1 Apex debug. -/
  unlocked : Nat
  /-- LID_ACTION: 0 OFF, 1 REPORT, 2 ZEROIZE; in the battery domain. -/
  lidAction : Nat
  /-- LID_FILTER in ms, in the battery domain. -/
  lidFilter : Nat
  latch : TamperLatch
  /-- Sensors whose condition held when last seen (Table 15.6). -/
  sensors : Nat
  perim : PerimState
  /-- The life-cycle state for which destruction was last completed, in the battery domain (R392). -/
  destroyedFor : LifeCycle
  /-- A known-answer test failed (R409). -/
  katFailed : Bool
  /-- KEY_ROOT_REGENERATED is due at the next entry to CONFIG (R386). -/
  regenerated : Bool
  /-- Instant of the last sweep of the slots (R383). -/
  sweptAt : Nat
  deriving DecidableEq, Repr

/-- An authority entry that is not set. -/
def unsetAuthority : List Byte := List.replicate 48 0

/-- The security die after a power-on reset without a battery history (R385, R394); no authority is set (log 3). -/
def KeyState.reset : KeyState :=
  { slots := [], root := List.replicate 64 0, rootFilled := false, tagKey := List.replicate 32 0, drbg := none, authorities := [],
    revoked := 0, nonce := none, contexts := [], engines := [], segments := [], caches := [], unlocked := 0, lidAction := 1,
    lidFilter := 20, latch := TamperLatch.reset, sensors := 0, perim := PerimState.reset, destroyedFor := .deployed,
    katFailed := false, regenerated := false, sweptAt := 0 }

end Sys2Proof.Machine
end

