-- ==== Sys2Proof/Machine/StateMesh.lean ====
section
/-!
DEFINITION. State of the mesh: the node records (R201), the working state of the Facets (copy tables,
receive queues, frames that wait, planned and sent PPDUs), and the records' persistence (R218, R219).
-/
namespace Sys2Proof.Machine

/-- The drift state of a node (Table 7.4), in the units of the table. -/
structure Drift where
  x : Int
  rate : Int
  accel : Int
  tLast : Nat
  spread : Nat
  rspread : Nat
  n : Nat
  outliers : Nat
  misses : Nat
  tcPending : Bool
  sync : Bool
  /-- PEND_TC, µs. -/
  pendTc : Int
  best : Nat
  alt : Nat
  deriving DecidableEq, Repr

/-- The drift state after reset (Table 7.4). -/
def Drift.reset : Drift :=
  { x := 0, rate := 0, accel := 0, tLast := 0, spread := 0, rspread := 0, n := 0, outliers := 0, misses := 0, tcPending := false,
    sync := false, pendTc := 0, best := 0, alt := 0 }

/-- A node record (Table 8.1). -/
structure NodeRec where
  eui : W64
  rxFc : W32
  rxBitmap : W64
  txFc : W32
  txLease : Nat
  keyGen : Byte
  rekey : Bool
  gobaix : Bool
  secMin : Nat
  /-- Table 8.2: 0 FREE, 1 ACTIVE, 2 BLOCKED, 3 TX_EXHAUSTED, 4 RECORD_BAD. -/
  state : Nat
  rssi : Int
  evm : Nat
  rxFrames : W16
  secFails : Nat
  check : W16
  drift : Drift
  deriving DecidableEq, Repr

/-- A record after reset: FREE (Table 8.1). -/
def NodeRec.reset : NodeRec :=
  { eui := 0, rxFc := 0, rxBitmap := 0, txFc := 0, txLease := 2, keyGen := 0, rekey := false, gobaix := false, secMin := 5, state := 0,
    rssi := -128, evm := 0, rxFrames := 0, secFails := 0, check := 0, drift := Drift.reset }

/-- A received frame with its descriptor (Table 5.7). Times are Meridian nanoseconds. -/
structure RxFrame where
  psdu : List Byte
  /-- 0 MR-FSK, 1 MR-OFDM, 2 GX-OFDM. -/
  phy : Nat
  option : Nat
  mcs : Nat
  fcs32 : Bool
  dw : Bool
  qsuspect : Bool
  settleBody : Bool
  /-- Aerial B. -/
  aerialB : Bool
  skipped : Bool
  holdover : Bool
  /-- NODE_INDEX where NODE_VALID = 1. -/
  node : Option Nat
  sector : Nat
  layer : Nat
  channel : Nat
  centre : Nat
  rssi : Int
  rssiAlt : Int
  noise : Int
  evm : Nat
  snr : Int
  lqi : Nat
  detector : Nat
  lane : Nat
  start : Nat
  duration : Nat
  fcs : Nat
  /-- FB_REQ of a GX-OFDM header (Table 6.3); the descriptor does not carry it. -/
  fbReq : Bool
  deriving DecidableEq, Repr

/-- An entry of a Facet's copy table (R215). -/
structure CopyEntry where
  node : Nat
  gen : Nat
  counter : Nat
  fcs : Nat
  centre : Nat
  /-- END in mesh time, 2^-16 ns. -/
  endAt : Int
  /-- Sectors seen, a map. -/
  sectors : Nat
  /-- Instant of acceptance. -/
  at_ : Nat
  deriving DecidableEq, Repr

/-- What a Facet keeps of a node beside its record: the form of its most recent accepted frame (R180, R212). -/
structure NodeWork where
  level : Nat
  phy : Nat
  option : Nat
  mcs : Nat
  fcs32 : Bool
  dw : Bool
  deriving DecidableEq, Repr

/-- Before any frame: the lowest level and MR-FSK profile 0x00 uncoded (log 26). -/
def NodeWork.reset : NodeWork := { level := 0, phy := 0, option := 0, mcs := 0, fcs32 := false, dw := false }

/-- A PPDU request as it crosses X05 or X11 (R83, R91, R104). Times are Meridian 2^-16 ns. -/
structure PpduReq where
  id : Nat
  sector : Nat
  /-- TX_START at RF_OUT_s (R88). -/
  txStart : Int
  /-- The reference event at the aerial plane. -/
  refEvent : Int
  /-- Duration in ns, start to end. -/
  duration : Nat
  centre : Nat
  spacing : Nat
  /-- Conducted power, 0.25 dBm. -/
  power : Int
  /-- 0 acknowledgement, 1 beacon, 2 scheduled unicast, 3 broadcast. -/
  cls : Nat
  phy : Nat
  option : Nat
  mcs : Nat
  fcs32 : Bool
  dw : Bool
  /-- MR-FSK preamble octets. -/
  preamble : Nat
  psdu : List Byte
  node : Option Nat
  /-- The sequence number of the deferred frame that it carries. -/
  frame : Option Nat
  ackReq : Bool
  template : Nat
  facet : Nat
  /-- The lateness at which it is sent, in 1/16 ns (R193). -/
  xUsed : Int
  deriving DecidableEq, Repr

/-- A sent downlink PPDU whose acknowledgement window is open (R186). -/
structure SentPpdu where
  node : Nat
  sector : Nat
  frame : Nat
  /-- The template of the link it was sent on. -/
  template : Nat
  /-- The window of reference events, Meridian 2^-16 ns. -/
  openAt : Int
  closeAt : Int
  xUsed : Int
  /-- E_s(a), mesh 2^-16 ns. -/
  scheduled : Int
  deriving DecidableEq, Repr

/-- A frame that waits in a Facet for its node key (R209). -/
structure KeyWaiter where
  frame : RxFrame
  facet : Nat
  since : Nat
  deriving DecidableEq, Repr

/-- An acknowledgement that is due: it waits for its reservation, and for REPL_CONFIRM (R185, R429). -/
structure DueAck where
  id : Nat
  frame : RxFrame
  facet : Nat
  node : Nat
  /-- Key Index, security level and counter of the acknowledged frame. -/
  gen : Nat
  level : Nat
  counter : Nat
  /-- Time correction in µs, and whether it is a NACK (R187). -/
  tc : Int
  nack : Bool
  template : Nat
  /-- The ASN of the slot. -/
  asn : Nat
  /-- REPL_CONFIRM is awaited since the instant given (R429). -/
  confirm : Option Nat
  /-- The copies delivered so far (R188). -/
  copies : List RxFrame
  deriving DecidableEq, Repr

/-- The mesh. -/
structure MeshState where
  nodes : Sparse NodeRec
  /-- The short address of each node, plus one; 0 where it has none (R204). -/
  shorts : Sparse Nat
  work : Sparse NodeWork
  /-- NODE_FC_HIGH was raised in this generation: bit 0 receive, bit 1 transmit (R221). -/
  fcWarned : Sparse Nat
  /-- X04 receive queue of each Facet (Table 1.4). -/
  rxQueue : Sparse (List RxFrame)
  /-- The join queue (R137). -/
  joinQueue : List RxFrame
  waiters : List KeyWaiter
  copies : Sparse (List CopyEntry)
  due : List DueAck
  sent : List SentPpdu
  /-- The last slot, plus one, in which a node had an exchange (R177). -/
  exchanged : Sparse Nat
  /-- The last slot that was planned, plus one. -/
  planned : Nat
  /-- Mesh times of the last commits of MESH_SCHEDULE and the templates, latest first, with the live values that
  each replaced: slots that begin less than 2 ms after a commit keep them (R174, R175). -/
  schedules : List (Int × Sparse Int)
  /-- Broadcast frames that wait, oldest first: mesh port and frame (R183). -/
  broadcast : List (Nat × List Byte)
  /-- MAC sequence number of broadcast frames. -/
  bcastSeq : Byte
  /-- The next PPDU request's number. -/
  nextReq : Nat
  /-- TX_LEASE extensions that are being recorded: the new value (R218). -/
  leasing : Sparse Nat
  /-- Nodes whose records changed since the last checkpoint (R219). -/
  dirty : Sparse Bool
  /-- A checkpoint in progress: its records and the time of its start. -/
  checkpoint : Option (List (Nat × NodeRec) × Nat)
  /-- Instant of the last checkpoint's start. -/
  checkpointAt : Nat
  /-- Records being restored: the command that waits, or none (R203). -/
  restoring : Sparse (Option (Option Cmd))
  /-- The mesh day of the last age sweep of each Facet, plus one (R195). -/
  ageSwept : Sparse Nat
  /-- Mesh frames received and sent, by whole second, latest first: the mesh load of Table 2.5 (the model's form, log 53). -/
  load : List (Nat × Nat)
  deriving DecidableEq, Repr

/-- The mesh after reset. -/
def MeshState.reset : MeshState :=
  { nodes := [], shorts := [], work := [], fcWarned := [], rxQueue := [], joinQueue := [], waiters := [], copies := [], due := [],
    sent := [], exchanged := [], planned := 0, schedules := [], broadcast := [], bcastSeq := 0, nextReq := 0, leasing := [], dirty := [],
    checkpoint := none, checkpointAt := 0, restoring := [],
    ageSwept := [], load := [] }

end Sys2Proof.Machine
end

