-- ==== Sys2Proof/Machine/StateRadio.lean ====
section
/-!
DEFINITION. State of the radio: the sectors (gain, transmit assembler, pending changes), the demodulator
lanes, the regulatory record, the duty-cycle accounts and the diagnostic capture.
-/
namespace Sys2Proof.Machine

/-- A PPDU in a transmit assembler. -/
structure TxJob where
  req : PpduReq
  /-- 0 waits for its checks (R104), 1 passed them, 2 in its start sequence or on air. -/
  phase : Nat
  /-- The coexistence grant was sampled high, or is not needed (R93). -/
  granted : Bool
  /-- The governing entry of the record. -/
  entry : Nat
  /-- Airtime charged so far, in 10 µs units (R106). -/
  charged : Nat
  /-- The level at RF_OUT_s, 0.01 dBm (R83). -/
  level : Int
  /-- The calibration entry as loaded (R85). -/
  cal : Nat
  deriving DecidableEq, Repr

/-- A span of samples that carry the settle flag (R127 to R130): per aerial, from an instant to an
instant of each layer. -/
structure Settle where
  /-- Bit 0 aerial A, bit 1 aerial B. -/
  aerials : Nat
  since : Nat
  /-- End on layers 0 to 3. -/
  until_ : List Nat
  deriving DecidableEq, Repr

/-- One of the two gain controls of a sector (R78, R79). -/
structure Agc where
  g : Nat
  /-- The wait of AGC_HOLD runs since this instant. -/
  lowSince : Nat
  /-- Instant of the last raise, plus one. -/
  raisedAt : Nat
  /-- A step that raises gain is deferred (R80). -/
  deferred : Bool
  deriving DecidableEq, Repr

/-- Gain control after reset: g = 17 (R79). -/
def Agc.reset : Agc := { g := 17, lowSince := 0, raisedAt := 0, deferred := false }

/-- A sector. -/
structure SectorState where
  agcA : Agc
  agcB : Agc
  /-- FRONT_END_s was committed in CONFIG since power-up (R95). -/
  frontOk : Bool
  /-- SEED of the next GX-OFDM PPDU (R156). -/
  seed : Nat
  /-- Step 1 of the start sequence under way or done (Table 4.8), Meridian 2^-16 ns. -/
  seqAt : Option Int
  /-- Step 2 of the end sequence (Table 4.9), Meridian 2^-16 ns; the last one stays, for BIAS_HOLD. -/
  endAt : Option Int
  jobs : List TxJob
  /-- TX_END of the last PPDU, Meridian 2^-16 ns (R90). -/
  lastEnd : Int
  /-- A change of SECTOR_s other than DAC_RANGE is pending (R87). -/
  pendSector : Bool
  /-- A change of FRONT_END_s is pending (R88). -/
  pendFront : Bool
  /-- A change of DAC_RANGE is pending since the instant of its first commit (R97). -/
  pendDac : Option Nat
  /-- New PPDUs are held (R97). -/
  dacHold : Bool
  /-- The DAC holds mid-scale zero until this instant (R97). -/
  dacMute : Nat
  /-- A window or layer change is pending since the instant of its first commit (R112). -/
  pendRx : Option Nat
  settles : List Settle
  /-- A receive window is open in QUIESCENT until this mesh time, 2^-16 ns (R198). -/
  window : Option Int
  /-- Copies of PPDUs sent, for the evidence of R426: centre and end in Meridian 2^-16 ns. -/
  sentLog : List (Nat × Int)
  deriving DecidableEq, Repr

/-- A sector after reset. -/
def SectorState.reset : SectorState :=
  { agcA := Agc.reset, agcB := Agc.reset, frontOk := false, seed := 0, seqAt := none, endAt := none, jobs := [], lastEnd := 0,
    pendSector := false, pendFront := false, pendDac := none, dacHold := false, dacMute := 0, pendRx := none, settles := [],
    window := none, sentLog := [] }

/-- What a PHY header told a lane (R151, Table 5.5). -/
structure LaneHeader where
  length : Nat
  mcs : Nat
  fcs32 : Bool
  dw : Bool
  seed : Nat
  fbReq : Bool
  at_ : Nat
  /-- Codewords of the frame not yet decoded (R125). -/
  words : Nat
  deriving DecidableEq, Repr

/-- A demodulator lane that holds a frame (R117). -/
structure Lane where
  sector : Nat
  detector : Nat
  layer : Nat
  channel : Nat
  /-- Detection profile (Table 5.4). -/
  profile : Nat
  /-- Detection metric, 0.25 dB. -/
  metric : Int
  metricA : Int
  metricB : Int
  /-- Instant of the detection: the comparison window follows (R121). -/
  at_ : Nat
  /-- Aerial B was chosen; none before the choice. -/
  aerialB : Option Bool
  skipped : Bool
  header : Option LaneHeader
  deriving DecidableEq, Repr

/-- A slot of the regulatory record (R98, R100). -/
structure RegSlot where
  /-- Header and entries. -/
  bytes : List Byte
  /-- The signature field, 96 bytes. -/
  sig : List Byte
  committed : Bool
  deriving DecidableEq, Repr

/-- A duty-cycle account (R106): airtime in 10 µs units of the current bucket and the 64 before it, most
recent first, and the instant at which the current bucket began. -/
structure DutyAccount where
  buckets : List Nat
  since : Nat
  deriving DecidableEq, Repr

/-- A save of the accounts (R107). -/
structure DutySave where
  accounts : Sparse DutyAccount
  /-- Slow-clock time of the save. -/
  slow : Nat
  orderly : Bool
  deriving DecidableEq, Repr

/-- A diagnostic capture (R141, R486). -/
structure Capture where
  /-- A frame capture, not an IQ capture. -/
  frames : Bool
  req : List Byte
  job : Nat
  /-- 0 armed, 1 triggered, 2 held and unread, 3 released after its last read (R484). -/
  phase : Nat
  /-- The instant of arming, then of the last read. -/
  at_ : Nat
  /-- Blocks of Table 5.11, or descriptors with their PSDUs. -/
  items : List (List Byte)
  deriving DecidableEq, Repr

/-- The radio. -/
structure RadioState where
  sectors : Sparse SectorState
  /-- The values of SECTOR_s, FRONT_END_s and RX_s last applied, keyed as the live ones. -/
  applied : Sparse Int
  lanes : Sparse (Option Lane)
  /-- PPDU requests on X05 and X11 of each sector (Table 1.4). -/
  x05 : Sparse (List PpduReq)
  x11 : Sparse (List PpduReq)
  /-- The eight slots of one-time-programmable storage; none where unused. -/
  regSlots : Sparse (Option RegSlot)
  /-- The slot in force, or the bad slot (R100). -/
  regSlot : Option Nat
  /-- 0 none committed, 1 in force, 2 bad. -/
  regState : Nat
  /-- REG_RECORD_BAD is due at the next entry to CONFIG (R100). -/
  regReport : Bool
  /-- RADIO_REG_WRITE is locked (R31, R101). -/
  regLocked : Bool
  /-- Accounts: entry times 16, plus the sector or 15 for the chip. -/
  duty : Sparse DutyAccount
  capture : Option Capture
  /-- Groups CAL_s into which a write with PERSIST = 1 was staged, a map (R86). -/
  calPersist : Nat
  /-- Persisted tables have been reloaded since reset (R86). -/
  calLoaded : Bool
  /-- COEX_GRANT of band groups L, M and H, as last sampled, a map. -/
  grants : Nat
  deriving DecidableEq, Repr

/-- The radio after reset; no slot of the record is burned (log 3). -/
def RadioState.reset : RadioState :=
  { sectors := [], applied := [], lanes := [], x05 := [], x11 := [], regSlots := [], regSlot := none, regState := 0, regReport := false,
    regLocked := false, duty := [], capture := none, calPersist := 0, calLoaded := false, grants := 0 }

end Sys2Proof.Machine
end

