-- ==== Sys2Proof/Machine/StateStore.lean ====
section
/-!
DEFINITION. State of the storage manager (chapter "Deferred delivery, journal and the storage
manager"): the drives, the array, the journal, the deferred-delivery queues, the link histories, the
image library and the campaigns. What stands on the drives outlives a reset.
-/
namespace Sys2Proof.Machine

/-- Array states (Table 9.2). -/
inductive ArrayMode where
  | absent
  | normal
  | degraded
  | rebuilding
  | failed
  deriving DecidableEq, Repr

/-- An I/O command outstanding at a drive (R233, R238). -/
structure DriveIo where
  id : Nat
  write : Bool
  stripe : Nat
  since : Nat
  /-- The command is a retry, or the rewrite of a repaired chunk (R233, R234). -/
  retried : Bool
  /-- Abort was sent at this instant. -/
  abortAt : Option Nat
  /-- The journal block that the write carries. -/
  block : Option Nat
  deriving DecidableEq, Repr

/-- A drive on one of the ports D0 to D3. -/
structure Drive where
  info : DriveInfo
  io : List DriveIo
  /-- Instants of the timeouts within the last 60 s (R233). -/
  timeouts : List Nat
  /-- The controller is reset and not ready (R233). -/
  resetAt : Option Nat
  /-- The port is idled after STORE_DRIVE_RETIRE (R237). -/
  idled : Bool
  deriving DecidableEq, Repr

/-- A rebuild in progress (R236). -/
structure Rebuild where
  position : Nat
  /-- HIGH_WATER when it began. -/
  highWater : Nat
  /-- The next stripe to rebuild. -/
  next : Nat
  /-- The next stripe to zero. -/
  zeroNext : Nat
  /-- Stripes at or above that HIGH_WATER written since it began. -/
  written : List Nat
  /-- Instant of its start, and stripes rebuilt since, for REBUILD_RATE. -/
  since : Nat
  done : Nat
  job : Option Nat
  deriving DecidableEq, Repr

/-- The array as mounted (R225 to R236). -/
structure ArrayState where
  mode : ArrayMode
  arrayId : Nat
  generation : Nat
  chunks : Nat
  present : Nat
  rebuilding : Nat
  rebuildPoint : Nat
  highWater : Nat
  histOrigin : Nat
  /-- The port of each position, plus one; 0 where absent. -/
  ports : Sparse Nat
  rebuild : Option Rebuild
  deriving DecidableEq, Repr

/-- No array mounted. -/
def ArrayState.reset : ArrayState :=
  { mode := .absent, arrayId := 0, generation := 0, chunks := 0, present := 0, rebuilding := 0, rebuildPoint := 0,
    highWater := 0, histOrigin := 0, ports := [], rebuild := none }

/-- A journal record: the fields of its header (Table 9.7) and its content (R247). -/
structure JRec where
  type : Nat
  seconds : Nat
  nanos : Nat
  body : List Byte
  deriving DecidableEq, Repr

/-- A closed journal block (R244). -/
structure JBlock where
  /-- BLOCK_SEQ. -/
  seq : Nat
  /-- Byte position in the ring. -/
  pos : Nat
  recs : List JRec
  /-- Stored length with its header. -/
  stored : Nat
  /-- The write of the block is complete (R248). -/
  durable : Bool
  /-- The block was lost to an unrecovered read (R234). -/
  lost : Bool
  deriving DecidableEq, Repr

/-- The journal (R243 to R254). -/
structure JournalState where
  /-- Blocks on the drives, oldest first. -/
  blocks : List JBlock
  /-- The next block's position in the ring, and its number. -/
  tail : Nat
  nextSeq : Nat
  /-- Records of the open block and the instant of the first. -/
  open_ : List JRec
  openAt : Nat
  /-- Closed blocks in the journal staging area (R250). -/
  staging : List (List JRec)
  /-- Records lost while no array was mounted, for the MARK (R250). -/
  lost : Nat
  /-- Records are refused under R251, and JOURNAL_FULL was raised. -/
  stopped : Bool
  /-- Committed records on X08, oldest first. -/
  x08 : List JRec
  /-- The last held record released: 4,096 times BLOCK_SEQ, plus its index, plus one (R254). -/
  released : Nat
  /-- Held records released since the last RELEASE record. -/
  sinceRelease : Nat
  /-- HELD_FULL was raised in this ISLAND period (R253). -/
  heldFull : Bool
  /-- A drain of held records runs (R254), since, and records released since. -/
  drain : Option (Nat × Nat)
  deriving DecidableEq, Repr

/-- An empty journal. -/
def JournalState.reset : JournalState :=
  { blocks := [], tail := 0, nextSeq := 0, open_ := [], openAt := 0, staging := [], lost := 0, stopped := false, x08 := [],
    released := 0, sinceRelease := 0, heldFull := false, drain := none }

/-- A frame of a deferred-delivery queue (R239). -/
structure DdqFrame where
  seq : Nat
  at_ : Nat
  body : List Byte
  ackReq : Bool
  /-- Transmission attempts made (R182). -/
  attempts : Nat
  deriving DecidableEq, Repr

/-- The deferred-delivery queue of a node (R239 to R241). -/
structure Ddq where
  /-- The on-chip head, oldest first. -/
  chip : List DdqFrame
  /-- The spilled tail, oldest first. -/
  spill : List DdqFrame
  nextSeq : Nat
  /-- The wake W for which a prefetch is in flight, and the number of frames being read. -/
  prefetch : Option (Nat × Nat)
  /-- The prefetch in flight has been counted late. -/
  late : Bool
  deriving DecidableEq, Repr

/-- An empty queue. -/
def Ddq.reset : Ddq := { chip := [], spill := [], nextSeq := 0, prefetch := none, late := false }

/-- Image slot states (R256). -/
inductive ImageMode where
  | free
  | loading
  | ready
  deriving DecidableEq, Repr

/-- An image slot (R256). -/
structure ImageSlot where
  mode : ImageMode
  imageId : Nat
  length : Nat
  blockLen : Nat
  digest : List Byte
  bytes : Sparse Byte
  deriving DecidableEq, Repr

/-- A free image slot. -/
def ImageSlot.reset : ImageSlot := { mode := .free, imageId := 0, length := 0, blockLen := 0, digest := [], bytes := [] }

/-- The progress of a campaign's member (R259). -/
structure MemberProgress where
  nextMissing : Nat
  bitmap : W64
  reported : Bool
  deriving DecidableEq, Repr

/-- A member that has not reported. -/
def MemberProgress.reset : MemberProgress := { nextMissing := 0, bitmap := 0, reported := false }

/-- A campaign (R257). -/
structure Campaign where
  slot : Nat
  imageId : Nat
  blockCount : Nat
  /-- Node indices; every node where the list is absent. -/
  members : Option (List Nat)
  slotframe : Nat
  phy : Nat
  option : Nat
  mcs : Nat
  maxPasses : Nat
  pass : Nat
  nextBlock : Nat
  /-- Blocks that this pass sends; none in the first pass, which sends every block. -/
  plan : Option (List Nat)
  progress : Sparse MemberProgress
  deriving DecidableEq, Repr

/-- The storage manager. -/
structure StoreState where
  /-- Drives by port. -/
  drives : Sparse (Option Drive)
  array : ArrayState
  /-- Identity of the next I/O command. -/
  nextIo : Nat
  journal : JournalState
  ddq : Sparse Ddq
  /-- Link histories by node: 128 entries, and the count written (R255). -/
  history : Sparse (List Nat)
  histAt : Sparse Nat
  images : Sparse ImageSlot
  /-- Campaigns by number 0 to 3. -/
  campaigns : Sparse (Option Campaign)
  /-- The campaign that sends next in a slotframe (R257). -/
  campaignTurn : Nat
  /-- Per port, the instant of the last SMART read (R238). -/
  smartAt : Sparse Nat
  /-- Calibration tables marked to persist (R86) and duty-cycle buckets (R107) of the CONFIG region. -/
  savedCal : Sparse Int
  savedDuty : Option DutySave
  /-- Node-record checkpoints of the COUNTER region (R219), and the Meridian time in ns of the last complete one. -/
  checkpoint : Sparse (Option NodeRec)
  checkpointAt : Option Nat
  /-- TX_LEASE values recorded on the drives (R218). -/
  leases : Sparse Nat
  deriving DecidableEq, Repr

/-- No drive fitted, nothing stored. -/
def StoreState.reset : StoreState :=
  { drives := [], array := ArrayState.reset, nextIo := 0, journal := JournalState.reset, ddq := [], history := [], histAt := [],
    images := [], campaigns := [], campaignTurn := 0, smartAt := [], savedCal := [], savedDuty := none,
    checkpoint := [], checkpointAt := none, leases := [] }

end Sys2Proof.Machine
end

