-- ==== Sys2Proof/Machine/StateSwitch.lean ====
section
/-!
DEFINITION. State of the switch (chapters "Ethernet ports and management ports" to "Shared buffer,
queues, scheduling, policing and mirroring"): packets, ports, queues, token buckets, the forwarding
tables, the learning engine, PRP, and the host receive ring. Ports carry the numbers of Table 11.4.
-/
namespace Sys2Proof.Machine

/-- The classification metadata of a packet (Table 11.4). -/
structure PktMeta where
  src : Nat
  queue : Nat
  ipri : Nat
  pcp : Nat
  vid : Nat
  /-- 0 green, 1 yellow, 2 red. -/
  colour : Nat
  epoch : Nat
  /-- Bits [71:64]: PARSE_TRUNC, LEN_CONFLICT, IP_HDR_ERR, FRAG, FRAG_LATER, OPTIONS, SA_BAD, TRUNC_DEPTH. -/
  flags : Nat
  /-- The parsed headers: type, start offset, length. -/
  hdrs : List (Nat × Nat × Nat)
  frameLen : Nat
  l3Len : Nat
  trap : Nat
  /-- 0 FORWARD, 1 DROP, 2 TO_HOST, 3 REDIRECT. -/
  disp : Nat
  copyHost : Bool
  /-- Mirror sessions, a map. -/
  mirror : Nat
  /-- EGRESS while EGRESS_VALID = 1. -/
  egress : Option Nat
  /-- STAGE_HIT, a map. -/
  stageHit : Nat
  label : Nat
  /-- NODE_INDEX while NODE_VALID = 1. -/
  node : Option Nat
  /-- FWD_RESULT.KIND: 0 not run, 1 L2 hit, 2 L3 hit, 3 miss. -/
  fwdKind : Nat
  flood : Bool
  slow : Bool
  prefixLen : Nat
  probes : Nat
  nexthop : Nat
  /-- TS_NANOSECONDS, and the Meridian seconds whose low 32 bits are TS_SECONDS. -/
  tsNs : Nat
  tsSec : Nat
  deriving DecidableEq, Repr

/-- The egress rewrite of a packet (R305). -/
inductive Rewrite where
  | none
  /-- Routed to a mesh node: the layer-2 header goes, TTL or Hop Limit falls. -/
  | mesh
  /-- Routed to an ETHERNET next hop: DMAC and ROUTER_MAC0. -/
  | ethernet (dmac sa : Nat)
  deriving DecidableEq, Repr

/-- A packet in the shared buffer (R334). -/
structure Packet where
  /-- A number of its own, by which replicas share its cells. -/
  id : Nat
  md : PktMeta
  /-- The bytes that the parser sees (R281). -/
  bytes : List Byte
  /-- Cells of its body, the PRP trailer included (R334, R352). -/
  cells : Nat
  /-- C at the ingress timestamp point (R365). -/
  rawC : W64
  rewrite : Rewrite
  /-- ORIGIN of the REMOTE entry that named the Chord port (R419). -/
  remote : Option Nat
  /-- NODE of a MESH_NODE next hop (Table 12.2). -/
  dest : Option Nat
  /-- Transmit header of R478. -/
  tsReq : Bool
  tsInsert : Bool
  tsId : Nat
  /-- Trapped to the Apex (R367). -/
  toApex : Bool
  deriving DecidableEq, Repr

/-- The part of the buffer that an admitted replica is charged to (R337). -/
inductive Part where
  | guaranteed
  | shared
  | headroom
  deriving DecidableEq, Repr

/-- What a replica is (R335, R347). -/
inductive CopyKind where
  | data
  | hostCopy
  | mirror (session : Nat)
  deriving DecidableEq, Repr

/-- A replica of a packet (R335). -/
structure Replica where
  pkt : Packet
  port : Nat
  queue : Nat
  part : Part
  charge : Nat
  kind : CopyKind
  /-- PRP pair and SEQ (R351). -/
  prp : Option (Nat × Nat)
  deriving DecidableEq, Repr

/-- An Ethernet or management port: link, threshold, pause (R265 to R276). -/
structure SwPort where
  linkUp : Bool
  /-- Rate that the PHY signals in SGMII, in Mb/s. -/
  sgmii : Nat
  /-- TX_START_THRESH; THRESH_BASE after reset. -/
  thresh : Nat
  /-- Frames sent since the last step or underrun (R273). -/
  good : Nat
  /-- Instants until which PFC priorities 0 to 7 and, at 8, the port are held; 0 for none (R274). -/
  hold : Sparse Nat
  /-- Instant up to which TX_PAUSED_US is counted, while anything is held. -/
  heldFrom : Option Nat
  /-- XOFF asserted: bits 0 to 7 priorities, bit 8 the port (R276). -/
  xoff : Nat
  /-- Instants of the last frame that asserted each. -/
  xoffAt : Sparse Nat
  deriving DecidableEq, Repr

/-- A port after reset: link down, TX_START_THRESH = THRESH_BASE (R272). -/
def SwPort.reset : SwPort :=
  { linkUp := false, sgmii := 1000, thresh := 512, good := 0, hold := [], heldFrom := none, xoff := 0, xoffAt := [] }

/-- The weighted scheduler of a port (R342). -/
structure Sched where
  /-- Deficits of Q0 to Q7. -/
  deficit : Sparse Nat
  /-- The weighted queue that the scheduler is at, plus one; 0 before the first visit. -/
  turn : Nat
  deriving DecidableEq, Repr

/-- A scheduler after reset. -/
def Sched.reset : Sched := { deficit := [], turn := 0 }

/-- A token bucket as the debt below full at an instant, in 1/6,400,000 byte: one unit is what a rate
of 1 kb/s gains in a tick of CLK_TIME (R299, R343, R345). -/
structure Bucket where
  debt : Nat
  since : Nat
  deriving DecidableEq, Repr

/-- A full bucket. -/
def Bucket.full : Bucket := { debt := 0, since := 0 }

/-- A packet on the slow path, with the candidates still to probe (R312). -/
structure SlowPkt where
  pkt : Packet
  left : Nat
  cands : List Nat
  deriving DecidableEq, Repr

/-- An L2 entry (Table 12.5). -/
structure L2Entry where
  mac : Nat
  vid : Nat
  port : Nat
  static : Bool
  remote : Bool
  origin : Nat
  hit : Bool
  stamp : Nat
  damped : Bool
  timeUs : Nat
  /-- HIT was clear at the sweeper's previous visit (R320). -/
  missed : Bool
  /-- Instants of the moves within the last second (R316). -/
  moves : List Nat
  /-- Instant at which DAMPED was set. -/
  dampedAt : Nat
  /-- Refreshed since the last RESYNC_REQ to its origin (R323). -/
  refreshed : Bool
  deriving DecidableEq, Repr

/-- An L3 entry (Table 12.4). -/
structure L3Entry where
  len : Nat
  prefx : Nat
  nexthop : Nat
  ageable : Bool
  hit : Bool
  stamp : Nat
  missed : Bool
  deriving DecidableEq, Repr

/-- A learn request (R314). -/
structure LearnReq where
  mac : Nat
  vid : Nat
  port : Nat
  timeUs : Nat
  deriving DecidableEq, Repr

/-- The tables of an epoch that packets on the slow path still read (R329). -/
structure Bank where
  epoch : Nat
  live : Sparse Int
  v6 : Sparse (Option L3Entry)
  v4 : Sparse (Option L3Entry)
  deriving DecidableEq, Repr

/-- An entry of the duplicate-discard table (R352). -/
structure PrpEntry where
  pair : Nat
  sa : Nat
  seq : Nat
  port : Nat
  since : Nat
  deriving DecidableEq, Repr

/-- A flush that is not complete (R18 to R20, R349). -/
structure Flush where
  port : Nat
  mask : Nat
  /-- 1 command, 2 link down, 3 configuration. -/
  cause : Nat
  since : Nat
  discarded : Nat
  items : Nat
  forced : Nat
  /-- The flush includes the port's X12. -/
  ingress : Bool
  /-- The partial item on X12 has been rewound (R19). -/
  rewound : Bool
  cmd : Option Cmd
  deriving DecidableEq, Repr

/-- The host receive ring (R479). -/
structure HostRing where
  enable : Bool
  port : HostPort
  base : Nat
  entries : Nat
  size : Nat
  vector : Nat
  irqEn : Bool
  written : W32
  consumed : W32
  tooLong : Nat
  deriving DecidableEq, Repr

/-- No ring is bound after reset. -/
def HostRing.reset : HostRing :=
  { enable := false, port := .h0, base := 0, entries := 0, size := 0, vector := 0, irqEn := false, written := 0, consumed := 0, tooLong := 0 }

/-- The switch. -/
structure SwState where
  /-- The next packet number (the model's own field). -/
  nextId : Nat
  /-- Committed packets that no pipeline has taken, by source (X06, X12, X13, X14). -/
  ingress : Sparse (List Packet)
  /-- Egress queues, by 8 × port + queue. -/
  queues : Sparse (List Replica)
  /-- Items on the crossing of an egress port (X07, X09). -/
  egress : Sparse (List Replica)
  ports : Sparse SwPort
  sched : Sparse Sched
  buckets : Sparse Bucket
  /-- High-water marks, by 8 × port + queue (R355). -/
  hwm : Sparse Nat
  /-- The source that each pipeline served last, plus one (R281). -/
  rr : Sparse Nat
  /-- Slow-path queues, by pipeline. -/
  slow : Sparse (List SlowPkt)
  banks : List Bank
  /-- A shadow bank is loaded and not merged (R330). -/
  shadow : Bool
  /-- Commands whose commit waits for the merge, in order (R330). -/
  commitWait : List Cmd
  /-- L2, V6 and V4 tables, by 4 × bucket + place. -/
  l2 : Sparse (Option L2Entry)
  v6 : Sparse (Option L3Entry)
  v4 : Sparse (Option L3Entry)
  /-- Length filter words, by 65,536 × bank + word (R307). -/
  filter6 : Sparse Nat
  filter4 : Sparse Nat
  /-- Deletions since a bank was last rebuilt, by 8 × (1 V6, 2 V4) + bank (R309). -/
  deletions : Sparse Nat
  learnQ : List LearnReq
  /-- AGE_MODE at the last sweep of a table, plus one; 0 before the first (R321). -/
  ageSeen : Sparse Nat
  /-- Ageing removals not reported yet, and the second after the last FWD_AGED, by table (R321). -/
  aged : Sparse Nat
  agedAt : Sparse Nat
  /-- Next ORIGIN_SEQ of this chip (R323). -/
  originSeq : Nat
  /-- Next ORIGIN_SEQ expected of an origin (R323). -/
  expected : Sparse Nat
  /-- An answer to a RESYNC_REQ is awaited, by origin: 1 (R323). -/
  resync : Sparse Nat
  /-- Sequence counters of the PRP pairs (R351). -/
  prpSeq : Sparse Nat
  prpTable : List PrpEntry
  flushes : List Flush
  ring : HostRing
  deriving DecidableEq, Repr

/-- The switch after reset. -/
def SwState.reset : SwState :=
  { nextId := 0, ingress := [], queues := [], egress := [], ports := [], sched := [], buckets := [], hwm := [], rr := [], slow := [],
    banks := [], shadow := false, commitWait := [], l2 := [], v6 := [], v4 := [], filter6 := [], filter4 := [], deletions := [],
    learnQ := [], ageSeen := [], aged := [], agedAt := [], originSeq := 0, expected := [], resync := [], prpSeq := [],
    prpTable := [], flushes := [], ring := HostRing.reset }

end Sys2Proof.Machine
end

