-- ==== Sys2Proof/Machine/StateTime.lean ====
section
/-!
DEFINITION. State of Meridian and Arc (chapter "Meridian network time and Arc timers").
-/
namespace Sys2Proof.Machine

/-- BLOCK_COMMIT of a BAR2 block (Table 1.7). A commit in progress holds the outcome that its check
gave at the snapshot. -/
structure BlockCommit where
  busy : Bool
  /-- The first failing check of the commit in progress; none where it is accepted. -/
  failing : Option Nat
  refused : Bool
  check : Byte
  count : W16
  deriving DecidableEq, Repr

/-- BLOCK_COMMIT after reset (Table 1.7). -/
def BlockCommit.reset : BlockCommit := { busy := false, failing := none, refused := false, check := 0, count := 0 }

/-- Meridian (Tables 14.1 and 14.2). Times are in units of 2^-16 ns. -/
structure Meridian where
  /-- C, reset 0 (R356). -/
  c : W64
  /-- BASE_T in 2^-16 ns; from the battery clock at reset release (R361). -/
  baseT : Nat
  /-- BASE_C, reset 0. -/
  baseC : W64
  /-- Live RATE, signed 40 bits, reset 0. -/
  rate : Int
  /-- Live HOLD, reset 0. -/
  hold : Bool
  /-- MER_RATE_LO, MER_RATE_HI: staged RATE, reset 0. -/
  stRate : BitVec 40
  /-- MER_ADJ_CTRL.ADJ_MODE, reset NONE. -/
  adjMode : BitVec 2
  /-- MER_ADJ_CTRL.HOLD, reset 0. -/
  stHold : Bool
  /-- MER_ADJ_NS, reset 0. -/
  adjNs : W32
  /-- MER_ADJ_SEC_LO, MER_ADJ_SEC_HI, reset 0. -/
  adjSec : BitVec 48
  commit : BlockCommit
  /-- MER_STATUS.STEP_COUNT, reset 0. -/
  stepCount : W16
  /-- MER_STATUS.OWNER = FIRMWARE, reset HOST. -/
  ownerFw : Bool
  /-- OWNER as TIME_SERVO_SET last set it (R359). -/
  ownerSet : Bool
  /-- HOLD_TIMEOUT in 0.1 s, default 30. -/
  holdTimeout : Nat
  /-- Instant of the last usable sync of the firmware servo. -/
  lastSync : Nat
  /-- MER_STATUS.SLOW_CAL_VALID, reset 0. -/
  slowCalValid : Bool
  /-- MER_STATUS.TIME_UNSET. -/
  timeUnset : Bool
  /-- MER_STATUS.FOREIGN_WRITE, reset 0. -/
  foreignWrite : Bool
  /-- MER_STATUS.MADE_UP, reset 0. -/
  madeUp : Bool
  /-- Holdover causes 0b010, 0b011, 0b100 (R362), reset 0. -/
  servoLost : Bool
  refLost : Bool
  peerDisagrees : Bool
  /-- SLOW_RATIO in 2^-24 tick, reset 24,414.0625 ticks (R363). -/
  slowRatio : Nat
  /-- Fraction of a tick carried by the make-up, in 2^-24 (R364), reset 0. -/
  fracTicks : Nat
  /-- CLK_TIME is gated (R364), reset 0. -/
  gated : Bool
  /-- The battery-domain clock: its time in 1/32,768 s at the instant given; none when it was lost (R361). -/
  battery : Option (Nat × Nat)
  /-- Latched registers of the RL pairs: twice the BAR2 offset of the latched register, plus the port (R6), reset 0. -/
  latches : Sparse W32
  deriving DecidableEq, Repr

/-- Meridian after a reset with the battery clock lost (R356, R361). -/
def Meridian.reset : Meridian :=
  { c := 0, baseT := 0, baseC := 0, rate := 0, hold := false, stRate := 0, adjMode := 0, stHold := false, adjNs := 0, adjSec := 0,
    commit := BlockCommit.reset, stepCount := 0, ownerFw := false, ownerSet := false, holdTimeout := 30, lastSync := 0,
    slowCalValid := false, timeUnset := true, foreignWrite := false, madeUp := false, servoLost := false, refLost := false,
    peerDisagrees := false, slowRatio := 409600000000, fracTicks := 0, gated := false, battery := none, latches := [] }

/-- The fields of a pulse output block (R370). -/
structure ToutSet where
  cfg : W32
  startNs : W32
  startSec : BitVec 48
  periodNs : W32
  periodSec : W16
  widthNs : W32
  deriving DecidableEq, Repr

/-- A pulse output TOUTn (R370, R371). -/
structure Tout where
  staged : ToutSet
  live : ToutSet
  commit : BlockCommit
  /-- The next rising edge in ns; none when there is none. -/
  next : Option Nat
  /-- The tick of C at which the pulse in progress ends; none while low. -/
  pulseEnd : Option Nat
  /-- TOUTn_STATUS.DONE, reset 0. -/
  done : Bool
  /-- TOUTn_STATUS.SKIPPED, saturating, reset 0. -/
  skipped : W16
  deriving DecidableEq, Repr

/-- Fields of a pulse output at reset (Table 14.1). -/
def ToutSet.reset : ToutSet := { cfg := 0, startNs := 0, startSec := 0, periodNs := 0, periodSec := 0, widthNs := 0 }

/-- A pulse output after reset: low (R371). -/
def Tout.reset : Tout :=
  { staged := ToutSet.reset, live := ToutSet.reset, commit := BlockCommit.reset, next := none, pulseEnd := none, done := false, skipped := 0 }

/-- A capture pin TINn (R372). -/
structure Tin where
  /-- Staged TINn_CFG, reset 0. -/
  staged : W32
  /-- Live TINn_CFG, reset 0. -/
  live : W32
  commit : BlockCommit
  /-- FIFO of at most 4 captures, oldest first: time in ns, rising. -/
  fifo : List (Nat × Bool)
  overflow : W16
  deriving DecidableEq, Repr

/-- A capture pin after reset (Table 14.1). -/
def Tin.reset : Tin := { staged := 0, live := 0, commit := BlockCommit.reset, fifo := [], overflow := 0 }

/-- The transmit timestamp queue TSQp of a port (R369). -/
structure Tsq where
  /-- At most 16 entries, oldest first: time in ns, TS_ID. -/
  fifo : List (Nat × Nat)
  overflow : W16
  deriving DecidableEq, Repr

/-- A timestamp queue after reset. -/
def Tsq.reset : Tsq := { fifo := [], overflow := 0 }

/-- The commit group of an Arc channel (R374). -/
structure ArcSet where
  top : W64
  phase : W64
  cfg : W32
  capcfg : W32
  deriving DecidableEq, Repr

/-- The commit group of an Arc channel at reset (Table 14.4). -/
def ArcSet.reset : ArcSet := { top := 0, phase := 0, cfg := 0, capcfg := 0 }

/-- An Arc channel (Table 14.4, R373 to R378). -/
structure ArcCh where
  staged : ArcSet
  live : ArcSet
  commit : BlockCommit
  /-- COUNT, reset 0. -/
  count : W64
  /-- Ticks since COUNT last advanced (prescale remainder), reset 0. -/
  rem : Nat
  running : Bool
  armed : Bool
  matched : Bool
  /-- Compare, reset 0. -/
  cmp : W64
  /-- ARCn_CMP_LO held until the high half is written, reset 0. -/
  cmpLo : W32
  /-- COUNT has not advanced since the last start, arming, compare write or match, so that it cannot match (R375). -/
  stale : Bool
  late : Bool
  /-- Capture, reset 0. -/
  cap : W64
  capValid : Bool
  capOverrun : Bool
  foreignWrite : Bool
  /-- Accepted edges since the last start or commit (R377), reset 0. -/
  edges : Nat
  deriving DecidableEq, Repr

/-- An Arc channel after reset: stopped, COUNT = 0 (R373). -/
def ArcCh.reset : ArcCh :=
  { staged := ArcSet.reset, live := ArcSet.reset, commit := BlockCommit.reset, count := 0, rem := 0, running := false,
    armed := false, matched := false, cmp := 0, cmpLo := 0, stale := true, late := false, cap := 0, capValid := false,
    capOverrun := false, foreignWrite := false, edges := 0 }

/-- PTP settings of a port (R367). -/
structure PtpPort where
  /-- PTP_MODE of Table 14.3, reset NONE. -/
  mode : Nat
  /-- PEER_DELAY in 2^-16 ns, signed, reset 0. -/
  peerDelay : Int
  domain : Byte
  deriving DecidableEq, Repr

/-- PTP settings after reset; the spec gives no reset value (DESIGN CHOICE, log 5). -/
def PtpPort.reset : PtpPort := { mode := 0, peerDelay := 0, domain := 0 }

/-- Meridian, its pins, the timestamp queues, PTP and Arc. -/
structure TimeState where
  mer : Meridian
  tout : Sparse Tout
  tin : Sparse Tin
  tsq : Sparse Tsq
  ptp : Sparse PtpPort
  arc : Sparse ArcCh
  /-- ARC_RESERVED: channels reserved by firmware (R379). -/
  arcReserved : W32
  /-- ARC_WAKE_SEL, reset 0. -/
  arcWakeSel : W32
  /-- ARC_START_CNT, reset 0. -/
  arcStartCnt : W64
  /-- MESH_SHIFT in 2^-16 ns at the instant given (R172), reset 0. -/
  meshShift : Int
  shiftAt : Nat
  deriving DecidableEq, Repr

/-- Time and timers after reset; ARC31 is the firmware's 1 ms tick from CONFIG onward (R379). -/
def TimeState.reset : TimeState :=
  { mer := Meridian.reset, tout := [], tin := [], tsq := [], ptp := [], arc := [], arcReserved := 0, arcWakeSel := 0, arcStartCnt := 0,
    meshShift := 0, shiftAt := 0 }

end Sys2Proof.Machine
end

