-- ==== Sys2Proof/Machine/State.lean ====
section
/-!
DEFINITION. The state of the block, its faults and refusals, what it puts on its interfaces, and the
state after reset.
-/
namespace Sys2Proof.Machine

/-- What a command puts on an interface of the block: nothing reads it back. -/
inductive Output where
  /-- A write to host memory through a port (R60). -/
  | hostWrite (port : HostPort) (addr : Nat) (bytes : List Byte)
  /-- An MSI-X message through a port (R60). -/
  | msix (port : HostPort) (vector : Nat)
  /-- The MSI or INTA of the UR-340 interface on H0 (R492). -/
  | urIrq
  /-- A link frame on a Chord link, CRC included (R413). -/
  | chord (link : Nat) (frame : List Byte)
  /-- A PPDU on the air of a sector: the request, its level in 0.01 dBm, the phase and delay trims of its
  calibration entry, and for GX-OFDM the symbols of Table 6.6 (header and data: I and Q before scaling). -/
  | ppdu (req : PpduReq) (level phase delay : Int) (symbols : List (List (Int × Int)))
  /-- An NVMe command to the drive of a port (Table 9.5): opcode and stripe. -/
  | nvme (drive opcode stripe : Nat)
  /-- A frame on the line of an Ethernet or management port, FCS excluded; `bad` where the FCS is inverted (R272). -/
  | frame (port : Nat) (bytes : List Byte) (bad : Bool)
  /-- The value that a register read returns. -/
  | regRead (v : W32)
  /-- What the TAP shifts out on TDO (R410). -/
  | tdo (v : W32)
  deriving DecidableEq, Repr

/-- The state of the block. The arrays of each part list only what differs from reset. -/
structure State where
  /-- Commands that are waiting, first in, first out: the queue of the block's own form; reset empty. -/
  pending : List Instr
  /-- The model's instant: CLK_TIME ticks since the start, whether or not CLK_TIME is gated (log 1). -/
  now : Nat
  /-- What the last command put on the interfaces (the model's own field). -/
  out : List Output
  /-- The number of free values drawn (the model's own field, log 6). -/
  free : Nat
  host : HostState
  mode : ModeState
  cfg : CfgState
  jobs : JobState
  fw : FwState
  fuses : Fuses
  compat : CompatState
  power : PowerState
  time : TimeState
  chord : ChordState
  store : StoreState
  integ : IntegState
  sw : SwState
  keys : KeyState
  mesh : MeshState
  radio : RadioState
  /-- Counters of every counter table, keyed by table, instance and number (R473); reset 0. -/
  ctr : Sparse Nat
  deriving DecidableEq, Repr

/-- Reasons for which a command has no further effect the spec gives. -/
inductive Fault where
  /-- Raised by no command of the block: the spec gives every command an effect or a refusal of its own. Safe. -/
  | unreachable
  deriving DecidableEq, Repr

/-- Reasons for which the model gives a command no meaning. -/
inductive Refusal where
  /-- Answered by the dispatch for a row without a meaning. Safe: the machine stops. -/
  | notModelled (mnemonic : String)
  deriving DecidableEq, Repr

/-- MODE_CHANGED of transition 1, from OFF to BOOT with trigger 0x02, queued until the event rings run (R30). -/
def bootEvent : EventRec :=
  { code := 0x0101, severity := 1, seconds := 0, nanoseconds := 0, locus := 0xFFFFFFFF, body := [0x00, 0x01, 0x02, 0xFF, 0, 0, 0, 0] }

/-- The block right after the release of a power-on reset: BOOT, every register at its reset value. -/
def State.reset : State :=
  { pending := [], now := 0, out := [], free := 0, host := { HostState.reset with modeEvents := [bootEvent] }, mode := ModeState.reset, cfg := CfgState.reset,
    jobs := JobState.reset, fw := FwState.reset, fuses := Fuses.reset, compat := CompatState.reset,
    power := PowerState.reset, time := TimeState.reset, chord := ChordState.reset,
    store := StoreState.reset, integ := IntegState.reset, sw := SwState.reset, keys := KeyState.reset,
    mesh := MeshState.reset, radio := RadioState.reset, ctr := [] }

end Sys2Proof.Machine
end

