-- ==== Sys2Proof/Machine/Clock.lean ====
section
/-!
DEFINITION. Time: the passing of CLK_TIME ticks (R356, R364, R373), Meridian time (R357) and the
readings of it.
-/
namespace Sys2Proof.Machine

/-- The block is powered and out of reset. -/
def alive (s : State) : Bool := decide (s.power.phase = .running)

/-- TOP of an Arc channel; 0 stands for 2^64 - 1 (R373). -/
def arcTop (a : ArcCh) : Nat := if a.live.top = 0 then 2 ^ 64 - 1 else a.live.top.toNat

/-- DIV of an Arc channel (Table 14.5). -/
def arcDiv (a : ArcCh) : Nat := bits a.live.cfg.toNat 3 4

/-- COUNT after `n` counts: it runs up to TOP, then returns to 0; above a new TOP it returns to 0 at
the next count (R373, R374). -/
def arcCount (top count n : Nat) : Nat :=
  if n = 0 then count else if top < count then (n - 1) % (top + 1) else (count + n) % (top + 1)

/-- An Arc channel after `dt` ticks of CLK_TIME (R373). -/
def arcAdvance (dt : Nat) (a : ArcCh) : ArcCh :=
  if a.running then
    let t := a.rem + dt
    let n := t / 2 ^ arcDiv a
    { a with count := BitVec.ofNat 64 (arcCount (arcTop a) a.count.toNat n), rem := t % 2 ^ arcDiv a,
             stale := a.stale && decide (n = 0) }
  else a

/-- `dt` ticks of CLK_TIME reach C and the Arc channels. -/
def clockAdvance (dt : Nat) (t : TimeState) : TimeState :=
  { t with mer := { t.mer with c := t.mer.c + BitVec.ofNat 64 dt },
           arc := t.arc.map (fun p => (p.1, arcAdvance dt p.2)) }

/-- `dt` ticks of 1.25 ns pass. C and Arc advance while CLK_TIME runs (R356, R373); while it is gated,
out of power or in reset nothing counts. -/
def advance (dt : Nat) (s : State) : State :=
  if dt = 0 then s else
  let s := { s with now := s.now + dt }
  if alive s && !s.time.mer.gated then { s with time := clockAdvance dt s.time } else s

/-- The start of every command: `dt` ticks pass, and the outputs of the step before are gone. -/
def begin (dt : Nat) (s : State) : State := { advance dt s with out := [] }

/-- What the meaning of a command leaves alone, from `s` to `t`: the queue of commands, the instant, the fused and strapped
values, and but for SYS_LIFECYCLE_SET (`life`) the life-cycle state, which nothing else changes (R31). -/
def framed (life : Bool) (s t : State) : State :=
  { t with pending := s.pending, now := s.now, fuses := s.fuses,
           mode := { t.mode with lifecycle := if life then t.mode.lifecycle else s.mode.lifecycle } }

/-- Something occurs after `dt` ticks, whether or not the block is powered. -/
def occur (dt : Nat) (f : State → State) (s : State) : Host.Outcome State Fault Refusal :=
  let s := begin dt s
  .next (framed false s (f s))

/-- An idle step: one tick passes (log 1). -/
def idle (s : State) : State := begin 1 s

/-- One second in units of 2^-16 ns. -/
def secUnits : Nat := 1000000000 * 65536

/-- T in 2^-16 ns at `ago` ticks before C (R357): BASE_T + (C - BASE_C) × 1.25 ns × (1 + RATE × 2^-48). -/
def merTimeAgo (m : Meridian) (ago : Nat) : Int :=
  (m.baseT : Int) + (((m.c - m.baseC).toNat : Int) - ago) * 81920 * (281474976710656 + m.rate) / 281474976710656

/-- T(C) in 2^-16 ns (R357). -/
def merTime (m : Meridian) : Nat := (merTimeAgo m 0).toNat

/-- Meridian time in whole nanoseconds. -/
def nowNs (s : State) : Nat := merTime s.time.mer / 65536

/-- Seconds of Meridian time, 48 bits. -/
def nowSec (s : State) : Nat := merTime s.time.mer / secUnits % 2 ^ 48

/-- Nanoseconds of Meridian time, 0 to 999,999,999. -/
def nowNanos (s : State) : Nat := nowNs s % 1000000000

/-- A time in PTP format: 4 bytes of nanoseconds and 6 of seconds (R469). -/
def ptpBytes (ns : Nat) : List Byte := leBytes 4 (ns % 1000000000) ++ leBytes 6 (ns / 1000000000)

/-- Ticks since the instant `t`. -/
def since (s : State) (t : Nat) : Nat := s.now - t

/-- HOLDOVER: any cause holds (R362). -/
def holdover (m : Meridian) : Bool := m.hold || m.servoLost || m.refLost || m.peerDisagrees

/-- HOLD_CAUSE: the lowest-numbered cause (R362). -/
def holdCause (m : Meridian) : Nat :=
  if m.hold then 1 else if m.servoLost then 2 else if m.refLost then 3 else if m.peerDisagrees then 4 else 0

end Sys2Proof.Machine
end

