-- ==== Sys2Proof/Config.lean ====
section
/-!
DEFINITION. What an implementation fixes, and the free values: values that the spec leaves open while
the block goes on. A free value is a constant without a body, so that nothing can be proved of it.
-/
namespace Sys2Proof.Config

/-- The n-th free value that a command draws (log 6). -/
opaque freeValue : Nat → Nat

/-- The raw DEFLATE stream that the journal's compressor makes of a segment (R244): RFC 1951 allows many (log 12). -/
opaque deflate : List Byte → List Byte

/-- The Facet that the Apex assigns to place `i` of the slow-path role (R312): the spec leaves the choice open (log 6). -/
opaque slowFacet : Nat → Nat

/-- The 6LoWPAN form of an IPv6 packet for a node, and the packet of a 6LoWPAN payload of a node: the spec names
the conversion and gives no contexts (log 34). -/
opaque compress : Nat → List (BitVec 8) → List (BitVec 8)
opaque decompress : Nat → List (BitVec 8) → List (BitVec 8)

end Sys2Proof.Config
end

