-- ==== Sys2Proof/Machine/Flags.lean ====
section
/-!
DEFINITION. Encodings and status words: the codes of modes, life-cycle states, status values and
events, and the words that registers show.
-/
namespace Sys2Proof.Machine

/-- Mode encodings (Table 2.1). -/
def Mode.code : Mode → Nat
  | .off => 0x00 | .boot => 0x01 | .selftest => 0x02 | .config => 0x03 | .activeN => 0x10 | .standbyN => 0x11
  | .activeC => 0x20 | .standbyC => 0x21 | .island => 0x30 | .quiescent => 0x31 | .service => 0x40 | .dump => 0x50

/-- The mode that a code names (Table 2.1); OFF is never reported or requested. -/
def modeOfCode (c : Nat) : Option Mode :=
  [Mode.boot, .selftest, .config, .activeN, .standbyN, .activeC, .standbyC, .island, .quiescent, .service, .dump].find?
    (fun m => m.code == c)

/-- Life-cycle encodings (Table 2.1). -/
def LifeCycle.code : LifeCycle → Nat
  | .manufacture => 1 | .provisioned => 2 | .deployed => 3 | .returned => 4 | .decommissioned => 5

/-- The life-cycle state that a code names. -/
def lifeOfCode (c : Nat) : Option LifeCycle :=
  [LifeCycle.manufacture, .provisioned, .deployed, .returned, .decommissioned].find? (fun l => l.code == c)

/-- Status values (Table 3.9). -/
def Status.code : Status → Nat
  | .ok => 0x00 | .accepted => 0x01 | .badOpcode => 0x10 | .badParam => 0x11 | .lenError => 0x12 | .seqError => 0x13
  | .dmaError => 0x14 | .notFound => 0x15 | .modeRefused => 0x20 | .modePreempted => 0x21 | .busy => 0x22
  | .cfgLocked => 0x23 | .cfgRefused => 0x24 | .authFail => 0x25 | .noResource => 0x26 | .internal => 0x30

/-- UR status of a native status (Table 19.7). -/
def Status.urCode : Status → Nat
  | .ok => 0x00 | .accepted => 0x00 | .badOpcode => 0x01 | .badParam => 0x02 | .lenError => 0x02 | .seqError => 0x0F
  | .dmaError => 0x0F | .notFound => 0x04 | .modeRefused => 0x06 | .modePreempted => 0x06 | .busy => 0x05
  | .cfgLocked => 0x05 | .cfgRefused => 0x06 | .authFail => 0x07 | .noResource => 0x03 | .internal => 0x0F

/-- QState encodings (Table 3.5). -/
def QState.code : QState → Nat
  | .disabled => 0 | .running => 1 | .draining => 2 | .halted => 3

/-- OWNER encodings (Table 3.5). -/
def ownerCode : Option HostPort → Nat
  | none => 0 | some .h0 => 1 | some .h1 => 2

/-- A port's own OWNER code. -/
def portCode : HostPort → Nat
  | .h0 => 1 | .h1 => 2

/-- A port's number: 0 H0, 1 H1. -/
def portNum : HostPort → Nat
  | .h0 => 0 | .h1 => 1

/-- The other port. -/
def otherPort : HostPort → HostPort
  | .h0 => .h1 | .h1 => .h0

/-- The mailboxes run in a mode (Table 2.6). -/
def Mode.mailboxes : Mode → Bool
  | .off => false | .boot => false | .selftest => false | .dump => false
  | .config => true | .activeN => true | .standbyN => true | .activeC => true | .standbyC => true
  | .island => true | .quiescent => true | .service => true

/-- An active mode (Table 2.5, R49). -/
def Mode.active : Mode → Bool
  | .activeN => true | .activeC => true | .island => true | .quiescent => true
  | .off => false | .boot => false | .selftest => false | .dump => false | .config => false | .standbyN => false
  | .standbyC => false | .service => false

/-- The mode whose datapath runs: the origin while in SERVICE (Table 2.6, R48). -/
def datapath (s : State) : Mode :=
  match s.mode.mode with
  | .service => s.mode.origin.getD .config
  | m => m

/-- The datapath is in one of the modes given. -/
def inModes (l : List Mode) (s : State) : Bool := l.contains (datapath s)

/-- A port's PHY is marked failed (R446): E0 to E63, MG0 and MG1 by their numbers, C0 to C11 from 0x60, the PCIe
ports H0, H1, D0 to D3 from 0x80. -/
def portFailed (s : State) (p : Nat) : Bool := Sparse.get (fun _ => false) s.integ.portsFailed p

/-- A Facet is halted (Table 17.2) or left out (R448). -/
def facetHalted (s : State) (f : Nat) : Bool := s.integ.facetsHalted.contains f || s.integ.facetsOut.contains f

/-- The mode status word (Table 2.2). -/
def modeStatus (s : State) : Nat :=
  let m := s.mode
  let mode := m.mode.code
  let target := match m.trans, m.origin with
    | some t, _ => t.toMode.code
    | none, some o => o.code
    | none, none => mode
  if m.bootHalt then b2n true * 2 ^ 28 + b2n m.selftestFail * 2 ^ 27 + b2n m.dumpIncomplete * 2 ^ 26 + m.lifecycle.code * 2 ^ 16 + 0x0101
  else b2n m.selftestFail * 2 ^ 27 + b2n m.dumpIncomplete * 2 ^ 26 + b2n m.trans.isSome * 2 ^ 25 + b2n m.origin.isSome * 2 ^ 24
    + m.lifecycle.code * 2 ^ 16 + target * 2 ^ 8 + mode

/-- MQq_STATUS (Table 3.5). -/
def queueStatus (q : Queue) : Nat :=
  q.qstate.code * 2 ^ 30 + ownerCode q.owner * 2 ^ 28 + b2n q.dbErr * 2 ^ 27 + b2n q.fetchErr * 2 ^ 26
    + b2n q.cqWriteErr * 2 ^ 25 + b2n q.foreignWrite * 2 ^ 24 + q.inFlight % 512

/-- MQq_CTRL (Table 3.4). -/
def queueCtrl (q : Queue) : Nat := b2n q.enable * 2 ^ 31 + q.prio.toNat * 2 ^ 24 + q.vector.toNat * 2 ^ 16 + b2n q.irqEn

/-- EVn_CTRL (Table 3.3). -/
def ringCtrl (r : EventRing) : Nat := b2n r.enable * 2 ^ 31 + r.vector.toNat * 2 ^ 16 + ownerCode r.owner * 2 + b2n r.irqEn

/-- MER_STATUS (Table 14.2). -/
def merStatus (m : Meridian) : Nat :=
  m.stepCount.toNat * 2 ^ 16 + b2n m.ownerFw * 2 ^ 8 + b2n m.slowCalValid * 2 ^ 7 + b2n m.timeUnset * 2 ^ 6
    + b2n m.foreignWrite * 2 ^ 5 + b2n m.madeUp * 2 ^ 4 + holdCause m * 2 + b2n (holdover m)

/-- BLOCK_COMMIT (Table 1.7): GO and DISCARD read zero. -/
def commitWord (b : BlockCommit) : Nat :=
  b2n b.busy * 2 ^ 29 + b2n b.refused * 2 ^ 28 + b.check.toNat * 2 ^ 16 + b.count.toNat

/-- ARCn_STATUS (Table 14.4). -/
def arcStatus (a : ArcCh) : Nat :=
  b2n a.running + b2n a.armed * 2 + b2n a.matched * 4 + b2n a.capValid * 8 + b2n a.capOverrun * 16 + b2n a.late * 32
    + b2n (decide (arcTop a < a.cmp.toNat)) * 64 + b2n a.foreignWrite * 128

/-- UR_STATUS but for BACKHAUL_DOWN's source (Table 19.2, R491, R509). -/
def urStatus (s : State) : Nat :=
  b2n s.mode.mode.mailboxes + b2n (decide (s.mode.mode = .activeC)) * 2 + b2n (decide (s.mode.mode = .standbyC)) * 4
    + b2n s.mode.selftestFail * 8 + b2n s.compat.backhaulDown * 16 + b2n s.compat.migrated * 32

/-- UR time (R501): microseconds of Meridian time modulo 2^32. -/
def urTime (s : State) : Nat := (nowSec s * 1000000 + nowNanos s / 1000) % 2 ^ 32

/-- Severity of an event: of its loss, failure or entry, and of its recovery or exit (Table 18.15). -/
def eventSeverity (code : Nat) : Nat × Nat :=
  match code with
  | 0x0101 => (1, 1) | 0x0102 => (1, 2) | 0x0103 => (1, 1) | 0x0104 => (3, 3)
  | 0x0201 => (2, 1) | 0x0202 => (2, 2) | 0x0203 => (1, 1)
  | 0x0301 => (2, 2) | 0x0302 => (1, 1)
  | 0x0401 => (3, 3) | 0x0402 => (2, 2) | 0x0403 => (2, 2) | 0x0404 => (1, 1)
  | 0x0501 => (1, 1) | 0x0502 => (4, 4) | 0x0503 => (1, 1)
  | 0x0601 => (3, 3) | 0x0602 => (4, 4) | 0x0603 => (3, 3) | 0x0604 => (4, 4) | 0x0605 => (1, 1) | 0x0606 => (3, 3)
  | 0x0701 => (2, 2) | 0x0702 => (2, 1) | 0x0703 => (1, 1) | 0x0704 => (1, 1)
  | 0x0801 => (2, 1) | 0x0802 => (3, 3) | 0x0803 => (4, 4) | 0x0804 => (3, 3) | 0x0805 => (2, 2) | 0x0806 => (3, 3)
  | 0x0807 => (3, 3) | 0x0808 => (4, 4) | 0x0809 => (1, 1) | 0x080A => (3, 3) | 0x080B => (2, 2) | 0x080C => (1, 1)
  | 0x080D => (3, 3)
  | 0x0901 => (2, 2) | 0x0902 => (1, 1) | 0x0903 => (1, 1) | 0x0904 => (3, 3) | 0x0905 => (2, 2) | 0x0906 => (4, 4)
  | 0x0907 => (3, 3) | 0x0908 => (1, 1) | 0x0909 => (3, 3) | 0x090A => (3, 3) | 0x090B => (1, 1)
  | 0x0A01 => (3, 3)
  | _ => (0, 0)

/-- The event codes of the catalogue (Table 18.15). -/
def eventCodes : List Nat :=
  [0x0101, 0x0102, 0x0103, 0x0104, 0x0201, 0x0202, 0x0203, 0x0301, 0x0302, 0x0401, 0x0402, 0x0403, 0x0404,
   0x0501, 0x0502, 0x0503, 0x0601, 0x0602, 0x0603, 0x0604, 0x0605, 0x0606, 0x0701, 0x0702, 0x0703, 0x0704]
  ++ [0x0801, 0x0802, 0x0803, 0x0804, 0x0805, 0x0806, 0x0807, 0x0808, 0x0809, 0x080A, 0x080B, 0x080C, 0x080D,
   0x0901, 0x0902, 0x0903, 0x0904, 0x0905, 0x0906, 0x0907, 0x0908, 0x0909, 0x090A, 0x090B, 0x0A01]

end Sys2Proof.Machine
end

