-- ==== Sys2Proof/Machine/Locus.lean ====
section
/-!
DEFINITION. Locus codes (R8 to R11) and the entries of the health report (R454 to R456).
-/
namespace Sys2Proof.Machine

/-- Change integrity. -/
def modInteg (f : IntegState → IntegState) (s : State) : State := { s with integ := f s.integ }

/-- A locus code inside a die (Table 1.2). -/
def locusCode (die subsys block unit_ macro_ row : Nat) : Nat :=
  die * 2 ^ 29 + subsys * 2 ^ 26 + block * 2 ^ 21 + unit_ * 2 ^ 16 + macro_ * 2 ^ 10 + row

/-- A block as a whole (R9). -/
def blockLocus (die subsys block : Nat) : Nat := locusCode die subsys block 31 63 1023

/-- A unit as a whole (R9). -/
def unitLocus (die subsys block unit_ : Nat) : Nat := locusCode die subsys block unit_ 63 1023

/-- A subsystem as a whole (R9). -/
def subsysLocus (die subsys : Nat) : Nat := locusCode die subsys 31 31 63 1023

/-- The locus of a Facet 0 to 255 by its Prism and logical position (R11). -/
def facetLocus (f : Nat) : Nat := unitLocus 0 2 (f / 16) (f % 16)

/-- The locus of a PCIe port: blocks 0 and 1 are H0 and H1, 2 to 5 are D0 to D3 (log 14). -/
def pcieLocus (p : Nat) : Nat := blockLocus 0 6 p

/-- The locus of a sector: in its converter die (Table 1.3). -/
def sectorLocus (k : Nat) : Nat := if k < 4 then subsysLocus 1 (k + 1) else subsysLocus 2 (k - 3)

/-! ### The health report -/

/-- A new entry of one occurrence. -/
def HealthEntry.first (locus code severity sec : Nat) : HealthEntry :=
  { locus, code, severity, resolved := false, count := 1, firstSec := sec, lastSec := sec }

/-- An occurrence of a held entry (R456). -/
def HealthEntry.again (sec : Nat) (severity : Nat) (e : HealthEntry) : HealthEntry :=
  { e with count := min 4095 (e.count + 1), lastSec := sec, resolved := false, severity }

/-- The lowest severity of the entries that `p` selects. -/
def lowestSeverity (p : HealthEntry → Bool) (l : List HealthEntry) : Nat :=
  (l.filter p).foldl (fun a e => min a e.severity) 7

/-- Remove the first entry that `p` selects. -/
def dropFirst (p : HealthEntry → Bool) : List HealthEntry → List HealthEntry
  | [] => []
  | e :: r => if p e then r else e :: dropFirst p r

/-- An occurrence in the report (R456). -/
def healthInsert (e : HealthEntry) (i : IntegState) : IntegState :=
  if i.health.any (fun x => x.locus == e.locus && x.code == e.code) then
    { i with health := i.health.map (fun x => if x.locus = e.locus ∧ x.code = e.code then x.again e.lastSec e.severity else x) }
  else if i.health.length < 256 then { i with health := i.health ++ [e] }
  else if i.health.any (·.resolved) then
    let low := lowestSeverity (·.resolved) i.health
    { i with health := dropFirst (fun x => x.resolved && x.severity == low) i.health ++ [e] }
  else if e.severity < 3 then { i with overflow := true }
  else
    let low := lowestSeverity (fun _ => true) i.health
    { i with health := dropFirst (fun x => x.severity == low) i.health ++ [e], overflow := true }

/-- Meridian seconds [31:0]. -/
def sec32 (s : State) : Nat := nowSec s % 2 ^ 32

/-- Add an occurrence to the health report. -/
def healthAdd (locus code severity : Nat) (s : State) : State :=
  modInteg (healthInsert (HealthEntry.first locus code severity (sec32 s))) s

end Sys2Proof.Machine
end

