-- ==== Sys2Proof/Machine/Ops.lean ====
section
/-!
DEFINITION. The named operations of the host interface: registers of queues, rings and ports, MSI-X
messages, events, completions with the reply cache, the order in which the Apex serves queues, and
the free values.
-/
namespace Sys2Proof.Machine

/-- Put something on an interface. -/
def emit (o : Output) (s : State) : State := { s with out := s.out ++ [o] }

/-- Draw the next free value, below `n` (log 6). -/
def drawFree (n : Nat) (s : State) : Nat × State :=
  (Config.freeValue s.free % n, { s with free := s.free + 1 })

/-- A host port. -/
def portOf (s : State) : HostPort → PortState
  | .h0 => s.host.h0
  | .h1 => s.host.h1

/-- Write a host port. -/
def setPort (p : HostPort) (x : PortState) (s : State) : State :=
  match p with
  | .h0 => { s with host := { s.host with h0 := x } }
  | .h1 => { s with host := { s.host with h1 := x } }

/-- Mailbox queue MQq. -/
def queueOf (s : State) (q : Nat) : Queue := Sparse.get (fun _ => Queue.reset) s.host.queues q

/-- Write mailbox queue MQq. -/
def setQueue (q : Nat) (x : Queue) (s : State) : State :=
  { s with host := { s.host with queues := Sparse.set (fun _ => Queue.reset) s.host.queues q x } }

/-- Change mailbox queue MQq. -/
def modQueue (q : Nat) (f : Queue → Queue) (s : State) : State := setQueue q (f (queueOf s q)) s

/-- Event ring EVn. -/
def ringOf (s : State) (n : Nat) : EventRing := Sparse.get (fun _ => EventRing.reset) s.host.rings n

/-- Write event ring EVn. -/
def setRing (n : Nat) (x : EventRing) (s : State) : State :=
  { s with host := { s.host with rings := Sparse.set (fun _ => EventRing.reset) s.host.rings n x } }

/-- A byte of the event ring memory (R52). -/
def eventByte (s : State) (a : Nat) : Byte := Sparse.get (fun _ => 0) s.host.eventMem a

/-- The event ring memory is in its canonical form: addresses strictly rising, no byte listed that reads as an unlisted
one. -/
def Memory.wf (m : List Host.Cell) : Bool := Sparse.wf (fun _ => (0 : Byte)) m

/-- Write bytes of the event ring memory from address `a`. -/
def writeEventMem (a : Nat) (l : List Byte) (s : State) : State :=
  { s with host := { s.host with eventMem := Sparse.setRun (fun _ => 0) s.host.eventMem a l } }

/-- What a byte of the MSI-X table holds before it is written: vector control with the mask bit set
(PCIe 5.0; PRESUMED, log 7). -/
def msixDefault (k : Nat) : Byte := if k % 16 = 12 then 1 else 0

/-- An MSI-X vector of a port is masked. -/
def msixMasked (p : PortState) (v : Nat) : Bool := bit (Sparse.get msixDefault p.msixTable (16 * v + 12)).toNat 0

/-- A port may send MSI-X messages: H0 has none while it presents the UR-340 identity (Table 19.1). -/
def msixCapable (s : State) (p : HostPort) : Bool :=
  match p with
  | .h0 => !s.compat.inForce
  | .h1 => true

/-- Send an MSI-X message, or keep it pending in MSIX_PBA while the link is down or the vector is masked (R56, R60). -/
def sendMsix (p : HostPort) (v : Nat) (s : State) : State :=
  if msixCapable s p then
    let x := portOf s p
    if x.linkUp && !msixMasked x v then emit (.msix p v) s
    else setPort p { x with pba := x.pba ||| BitVec.ofNat 32 (2 ^ v) } s
  else s

/-- Send every pending message that can now be sent (R56). -/
def flushMsix (p : HostPort) (s : State) : State :=
  (bitList 32 (portOf s p).pba.toNat).foldl (fun s v =>
    let x := portOf s p
    if x.linkUp && !msixMasked x v then
      emit (.msix p v) (setPort p { x with pba := x.pba &&& ~~~(BitVec.ofNat 32 (2 ^ v)) } s)
    else s) s

/-- Set bits of UR_IRQ_STATUS; the MSI or INTA goes out when every bit was clear and IRQ_EN is set (R492). -/
def urIrq (b : Nat) (s : State) : State :=
  let was := s.compat.irqStatus
  let s' := { s with compat := { s.compat with irqStatus := was ||| BitVec.ofNat 4 b } }
  if was = 0 && s.compat.irqEn then emit .urIrq s' else s'

/-! ### UR-340 event ring -/

/-- Entries of the UR event ring (R491). -/
def urEventSize (s : State) : Nat := 2 ^ bits s.compat.ringSize.toNat 8 8

/-- Entries of the UR command and response rings (R491, R493). -/
def urRingSize (s : State) : Nat := 2 ^ bits s.compat.ringSize.toNat 0 8

/-- A UR event entry (Table 19.5). -/
def urEventBytes (s : State) (type sector node rssi lqi detail : Nat) (data : List Byte) : List Byte :=
  leBytes 1 type ++ leBytes 1 sector ++ leBytes 2 node ++ leBytes 4 (urTime s) ++ leBytes 1 rssi ++ leBytes 1 lqi
    ++ leBytes 2 detail ++ padTo 20 data

/-- An event due on the UR interface is written at UR_EVT_TAIL; on a full ring it is discarded and
EVT_OVF set (R492, Table 19.9). -/
def urEvent (type sector node rssi lqi detail : Nat) (data : List Byte) (s : State) : State :=
  let c := s.compat
  if c.inForce && c.run then
    if (c.evtTail - c.evtHead).toNat < urEventSize s then
      let a := c.evtBase.toNat + 32 * (c.evtTail.toNat % urEventSize s)
      let s := emit (.hostWrite .h0 a (urEventBytes s type sector node rssi lqi detail data)) s
      urIrq 2 { s with compat := { s.compat with evtTail := c.evtTail + 1 } }
    else urIrq 4 s
  else s

/-- The UR state that a mode is (Table 19.6): 1 RUN, 2 STANDBY, 0 otherwise (log 8). -/
def urState : Mode → Nat
  | .activeC => 1 | .standbyC => 2
  | .off => 0 | .boot => 0 | .selftest => 0 | .config => 0 | .activeN => 0 | .standbyN => 0 | .island => 0
  | .quiescent => 0 | .service => 0 | .dump => 0

/-- The UR event of a native event (R493): PORT_LINK, TWIN_ROLE, NODE_FC_HIGH, and FAULT for every
other event of severity 3 or 4. -/
def urOfEvent (code sev : Nat) (locus : W32) (body : List Byte) (s : State) : State :=
  match code with
  | 0x0201 =>
    if byteAt body 0 < 8 then urEvent 2 7 0xFFFF 0 0 (byteAt body 0 + 256 * byteAt body 1) [] s
    else s
  | 0x0101 => urEvent 4 7 0xFFFF 0 0 (urState s.mode.mode) [] s
  | 0x0403 => urEvent 5 7 (fld body 0 2) 0 0 (byteAt body 4) [] s
  | _ => if sev = 3 || sev = 4 then urEvent 6 7 0xFFFF 0 0 code (leBytes 4 locus.toNat) s else s

/-! ### Event rings -/

/-- An event entry as it stands in a ring (Table 3.10). -/
def eventBytes (e : EventRec) (lost : Bool) (evseq : Nat) : List Byte :=
  leBytes 2 e.code ++ leBytes 2 (e.severity + 8 * b2n lost) ++ leBytes 4 evseq ++ leBytes 6 e.seconds
    ++ leBytes 4 e.nanoseconds ++ zeros 2 ++ leBytes 4 e.locus.toNat ++ padTo 40 e.body

/-- A ring is full when PROD - CONS = 4,096 (R71). -/
def ringFull (r : EventRing) : Bool := decide (4096 ≤ (r.prod - r.cons).toNat)

/-- Write an entry at the ring's next position, then increment EVn_PROD (R70), and raise the ring's vector. -/
def ringPut (n : Nat) (e : EventRec) (s : State) : State :=
  let r := ringOf s n
  let s := writeEventMem (0x40000 * n + 64 * (r.prod.toNat % 4096)) (eventBytes e r.lost r.prod.toNat) s
  let s := setRing n { r with prod := r.prod + 1, lost := false } s
  match r.owner with
  | some p => if r.irqEn then sendMsix p r.vector.toNat s else s
  | none => s

/-- Drop the oldest held event of severity below 4; none where every one has severity 4 (R71). -/
def dropHeld : List EventRec → Option (List EventRec)
  | [] => none
  | e :: r => if e.severity < 4 then some r else (dropHeld r).map (e :: ·)

/-- EVn_DROP saturates (Table 3.3). -/
def satAdd32 (a : W32) (n : Nat) : W32 := if a.toNat + n < 2 ^ 32 then a + BitVec.ofNat 32 n else 0xFFFFFFFF

/-- A ring holds an event (R71): up to 256 in arrival order, then the oldest of severity below 4 goes,
or the arriving one when every held event has severity 4. -/
def ringHold (e : EventRec) (r : EventRing) : EventRing :=
  if r.hold.length < 256 then { r with hold := r.hold ++ [e] }
  else match dropHeld r.hold with
    | some h => { r with hold := h ++ [e], drop := satAdd32 r.drop 1, lost := true }
    | none => { r with drop := satAdd32 r.drop 1, lost := true }

/-- An event reaches ring EVn (R70, R71). -/
def ringOffer (n : Nat) (e : EventRec) (s : State) : State :=
  let r := ringOf s n
  if r.enable && !ringFull r && r.hold.isEmpty then ringPut n e s else setRing n (ringHold e r) s

/-- Held events go into the ring while it has room (R71); `fuel` bounds the number written. -/
def ringDrain (n : Nat) : Nat → State → State
  | 0, s => s
  | fuel + 1, s =>
    let r := ringOf s n
    match r.hold with
    | e :: rest => if r.enable && !ringFull r then ringDrain n fuel (ringPut n e (setRing n { r with hold := rest } s)) else s
    | [] => s

/-- Held events of ring EVn are written while it has room. -/
def ringService (n : Nat) (s : State) : State := ringDrain n (ringOf s n).hold.length s

/-- No locus applies (R70). -/
def noLocus : W32 := 0xFFFFFFFF

/-- The ring that an event code is routed to: EV0 by default (R70). -/
def routeOf (s : State) (code : Nat) : Nat := Sparse.get (fun _ => 0) s.host.routes code

/-- Raise an event of the severity given, with a code of Table 18.15 (R488). In BOOT, SELFTEST and DUMP it is neither queued nor delivered (R30). -/
def raiseAt (sev code : Nat) (locus : W32) (body : List Byte) (s : State) : State :=
  if s.mode.mode.mailboxes then
    let e : EventRec := { code, severity := sev, seconds := nowSec s, nanoseconds := nowNanos s, locus, body }
    urOfEvent code sev locus body (ringOffer (routeOf s code) e s)
  else s

/-- Raise an event with its first severity (R487). -/
def raise (code : Nat) (body : List Byte) (s : State) : State := raiseAt (eventSeverity code).1 code noLocus body s

/-- Raise an event with its second severity: a recovery or exit (R487). -/
def raiseExit (code : Nat) (body : List Byte) (s : State) : State := raiseAt (eventSeverity code).2 code noLocus body s

/-- Raise an event that names a locus. -/
def raiseLocus (code : Nat) (locus : W32) (body : List Byte) (s : State) : State :=
  raiseAt (eventSeverity code).1 code locus body s

/-- Queue a MODE_CHANGED that completed while the rings do not run: the 16 most recent are kept (R30). -/
def queueModeEvent (e : EventRec) (s : State) : State :=
  let l := s.host.modeEvents ++ [e]
  if 16 < l.length then { s with host := { s.host with modeEvents := l.drop 1, modeLost := true } }
  else { s with host := { s.host with modeEvents := l } }

/-- Deliver the queued MODE_CHANGED events in order once the rings run (R30). -/
def deliverModeEvents (s : State) : State :=
  let l := s.host.modeEvents
  let n := routeOf s 0x0101
  let s := if s.host.modeLost then setRing n { ringOf s n with lost := true } s else s
  let s := { s with host := { s.host with modeEvents := [], modeLost := false } }
  l.foldl (fun s e => ringOffer n e s) s

/-- MODE_CHANGED of a completed transition (R30): delivered, or queued while the rings do not run. -/
def raiseModeChanged (old new trigger : Nat) (wake : Option Nat) (s : State) : State :=
  let body := leBytes 1 old ++ leBytes 1 new ++ leBytes 1 trigger ++ leBytes 1 (wake.getD 0xFF) ++ leBytes 4 s.cfg.epoch.toNat
  if s.mode.mode.mailboxes then raise 0x0101 body (deliverModeEvents s)
  else queueModeEvent { code := 0x0101, severity := 1, seconds := nowSec s, nanoseconds := nowNanos s, locus := noLocus, body } s

/-! ### Completions -/

/-- PHASE of a completion written at the tail given (R58, Table 3.7). -/
def phaseOf (cqTail : W16) : Bool := cqTail.toNat / 256 % 2 == 0

/-- A completion entry (Table 3.7). -/
def completionBytes (q : Queue) (c : Completion) (status : Status) (detail : Nat) (cut : Bool) : List Byte :=
  leBytes 2 c.opcode ++ leBytes 2 c.seq.toNat ++ leBytes 2 status.code
    ++ leBytes 1 detail
    ++ leBytes 1 (b2n (phaseOf q.cqTail) + 2 * b2n c.replayed + 4 * b2n cut + 8 * b2n c.replayCut)
    ++ leBytes 4 c.tag.toNat ++ leBytes 2 c.replyLen ++ leBytes 2 q.sqHead.toNat ++ leBytes 4 c.epoch.toNat ++ zeros 12
    ++ (if c.replyLen ≤ 32 then padTo 32 c.body else zeros 32)

/-- The cached reply of a command takes the outcome of its reply write (R63). -/
def cacheDmaError (seq : W16) (l : List CachedReply) : List CachedReply :=
  l.map (fun r => if r.seq = seq then { r with status := .dmaError, detail := 0x02 } else r)

/-- MQ15 used through the extension window raises EXT_CPL in place of MSI-X (R505). -/
def viaWindow (s : State) (q : Nat) : Bool := s.compat.inForce && decide (q = 15) && decide ((queueOf s q).owner = some .h0)

/-- Write a completion through a port: the reply body, the completion entry, then the MSI-X message (R59, R60, R63). -/
def writeCompletion (p : HostPort) (q : Nat) (c : Completion) (s : State) : State :=
  let long := decide (32 < c.replyLen)
  let put := if long then c.body.take c.replyMax else []
  let failed := long && !put.isEmpty && !c.writeOk
  let status := if failed then .dmaError else c.status
  let detail := if failed then 0x02 else c.detail
  let s := if failed && c.isNew then modQueue q (fun x => { x with cache := cacheDmaError c.seq x.cache }) s else s
  let s := if put.isEmpty || failed then s else emit (.hostWrite p c.replyAddr put) s
  let x := queueOf s q
  let cut := long && decide (c.replyMax < c.body.length)
  let s := emit (.hostWrite p (x.cqBase.toNat + 64 * (x.cqTail.toNat % 256)) (completionBytes x c status detail cut)) s
  let s := setQueue q { x with cqTail := x.cqTail + 1, inFlight := x.inFlight - 1 } s
  if c.irq then
    if viaWindow s q then urIrq 8 s
    else if x.irqEn then sendMsix p x.vector.toNat s else s
  else s

/-- A completion discarded after the loss of the owning port: CQ_TAIL advances, as if delivered (R56). -/
def discardCompletion (q : Nat) (s : State) : State :=
  modQueue q (fun x => { x with cqTail := x.cqTail + 1, inFlight := x.inFlight - 1 }) s

/-- A completion falls due (R56): written, held while the owning port's link is down, or discarded after its loss. -/
def deliverCompletion (q : Nat) (c : Completion) (s : State) : State :=
  let x := queueOf s q
  match x.owner with
  | none => discardCompletion q s
  | some p =>
    if x.losing then discardCompletion q s
    else if (portOf s p).linkUp then writeCompletion p q c s
    else setPort p { portOf s p with held := (portOf s p).held ++ [(q, c)] } s

/-- Keep whole replies for the four most recent KEY_CTX_UPDATE commands only (R67). -/
def trimWhole : Nat → List CachedReply → List CachedReply
  | _, [] => []
  | n, r :: rest =>
    if r.whole then
      if n = 0 then { r with whole := false, body := r.body.take 512 } :: trimWhole 0 rest
      else r :: trimWhole (n - 1) rest
    else r :: trimWhole n rest

/-- A reply enters the cache: the last 64 new commands, the first 512 bytes of each (R66, R67). -/
def cacheInsert (opcode : Nat) (seq : W16) (status : Status) (detail : Nat) (epoch : W32) (reply : List Byte)
    (l : List CachedReply) : List CachedReply :=
  let whole := opcode == 0x0609
  let r : CachedReply := { seq, status, detail, replyLen := reply.length, epoch, body := if whole then reply else reply.take 512, whole }
  trimWhole 4 ((r :: l.filter (fun x => x.seq != seq)).take 64)

/-- A UR response entry (Table 19.4). -/
def urResponseBytes (s : State) (c : Cmd) (code : Nat) (data : List Byte) : List Byte :=
  leBytes 1 c.opcode ++ leBytes 1 c.tag.toNat ++ leBytes 1 code ++ zeros 1 ++ leBytes 4 (urTime s) ++ padTo 56 data

/-- Complete a UR command: its response is written while RUN is set, and discarded otherwise (R492). -/
def urRespond (c : Cmd) (code : Nat) (data : List Byte) (s : State) : State :=
  let s := { s with compat := { s.compat with inFlight := none } }
  if s.compat.run then
    let a := s.compat.rspBase.toNat + 64 * (s.compat.rspTail.toNat % urRingSize s)
    let s := emit (.hostWrite .h0 a (urResponseBytes s c code data)) s
    urIrq 1 { s with compat := { s.compat with rspTail := s.compat.rspTail + 1 } }
  else s

/-- An INTERNAL status is a firmware fault: a health entry of code 0x0070 names the Apex (R69, Table 17.7; log 51). -/
def noteInternal (status : Status) (s : State) : State := if status = .internal then healthAdd (subsysLocus 0 1) 0x70 3 s else s

/-- Complete a new command: its reply enters the cache of its queue, and its completion falls due (R60, R66).
A UR command is answered on the UR response ring (R494). -/
def complete (c : Cmd) (status : Status) (detail : Nat) (reply : List Byte) (s : State) : State :=
  let s := noteInternal status s
  if c.queue = 16 then urRespond c status.urCode reply s
  else
    let s := modQueue c.queue (fun x => { x with cache := cacheInsert c.opcode c.seq status detail s.cfg.epoch reply x.cache }) s
    deliverCompletion c.queue
      { opcode := c.opcode, seq := c.seq, status, detail, replayed := false, replayCut := false, tag := c.tag,
        replyLen := reply.length, epoch := s.cfg.epoch, body := reply, replyMax := c.replyMax, replyAddr := c.replyAddr,
        irq := bit c.flags.toNat 1, writeOk := c.writeOk, isNew := true } s

/-! ### The order of service -/

/-- A queue has a waiting entry that the Apex may fetch (R56, R61, R62, R64): RUNNING, its previous
command completed, room in the completion ring, the owning port's link up. -/
def queueReady (s : State) (q : Nat) : Bool :=
  let x := queueOf s q
  decide (x.qstate = .running) && decide (x.sqHead ≠ x.sqTail) && decide (x.inFlight = 0)
    && decide ((x.cqTail - x.cqHead).toNat < 256)
    && match x.owner with
       | some p => (portOf s p).linkUp
       | none => false

/-- The UR command ring has a waiting entry that may be fetched (R492, R509). -/
def urReady (s : State) : Bool :=
  let c := s.compat
  c.inForce && c.run && decide (c.cmdHead ≠ c.cmdTail) && c.inFlight.isNone && c.migrating.isNone
    && decide ((c.rspTail - c.rspHead).toNat < urRingSize s) && s.host.h0.linkUp

/-- A queue, 16 being the UR ring, has a command to start. -/
def ready (s : State) (q : Nat) : Bool := if q = 16 then urReady s else queueReady s q

/-- Service priority; 0b10 for the UR ring (R492). -/
def prioOf (s : State) (q : Nat) : Nat := if q = 16 then 2 else (queueOf s q).prio.toNat

/-- The queue that the Apex serves next: strictly by PRIO, round-robin among equals (R64). -/
def nextServed (s : State) : Option Nat :=
  let waiting := (List.range 17).filter (ready s)
  let top := waiting.foldl (fun m q => max m (prioOf s q)) 0
  let equals := waiting.filter (fun q => prioOf s q == top)
  let last := Sparse.get (fun _ => 16) s.host.lastServed top
  match equals.find? (fun q => decide (last < q)) with
  | some q => some q
  | none => equals.head?

/-- The Apex starts the next command of queue `q` now: powered, in a mode in which the mailboxes run,
serving (R73), and the queue's turn (R64). -/
def served (s : State) (q : Nat) : Bool :=
  alive s && s.mode.mode.mailboxes && s.host.serving && decide (nextServed s = some q)

/-- The turn of queue `q` is taken. -/
def takeTurn (q : Nat) (s : State) : State :=
  { s with host := { s.host with lastServed := Sparse.set (fun _ => 16) s.host.lastServed (prioOf s q) q } }

/-- The reply cache of a queue holds the reply of `seq`. -/
def cachedReply (x : Queue) (seq : W16) : Option CachedReply := x.cache.find? (fun r => r.seq == seq)

/-- Is `seq` new, a duplicate, or neither (R66)? -/
inductive SeqClass where
  | fresh
  | duplicate (r : CachedReply)
  | outside
  deriving DecidableEq, Repr

/-- The sequence rule of a queue (R66, R68). -/
def seqClass (x : Queue) (seq : W16) : SeqClass :=
  if seq = x.seqNext then .fresh
  else
    let d := (x.seqNext - seq).toNat
    if 1 ≤ d ∧ d ≤ 64 then
      match cachedReply x seq with
      | some r => .duplicate r
      | none => .outside
    else .outside

end Sys2Proof.Machine
end

