-- ==== Sys2Proof/Machine/Operands.lean ====
section
/-!
DEFINITION. Operand forms of the commands: the G-SET and G-GET requests (R469 to R471), the CTR
request (R473), the commit list (R472), and the answers that a command's meaning gives.
-/
namespace Sys2Proof.Machine

/-! ### Answers -/

/-- What the meaning of a mailbox command answers: a completion, or the wait for the transition, job
or event that completes it (R33). -/
inductive Answer where
  | done (status : Status) (detail : Nat) (reply : List Byte) (s : State)
  | wait (s : State)

/-- Complete with OK. -/
def Answer.ok (reply : List Byte) (s : State) : Answer := .done .ok 0 reply s

/-- Complete with a refusal, the state unchanged. -/
def Answer.fail (status : Status) (detail : Nat) (s : State) : Answer := .done status detail [] s

/-- BAD_PARAM; DETAIL is the offset of the first bad field, saturating (Table 3.9). -/
def Answer.bad (off : Nat) (s : State) : Answer := .done .badParam (min off 0xFF) [] s

/-! ### Commit groups -/

/-- A field of a commit group: its row, its members, the width and sign of its encoding, its default
and its range in counts of its step (R469, R543). -/
structure FieldSpec where
  row : Nat
  members : Nat
  width : Nat
  signed : Bool
  dflt : Nat → Int
  inRange : Int → Bool

/-- A commit group (R22, R23, R468): its fields, whether it is epoch-bearing, the modes in which it is
staged, the number of its range check (R543), and the rows that change only in CONFIG. -/
structure GroupSpec where
  fields : List FieldSpec
  epoch : Bool
  stageIn : Mode → Bool
  rangeNo : Nat
  configOnly : List Nat

/-- An unsigned field of `w` bits with default `d` and range `lo` to `hi`. -/
def ufield (row w : Nat) (d lo hi : Int) : FieldSpec :=
  { row, members := 1, width := w, signed := false, dflt := fun _ => d, inRange := fun v => decide (lo ≤ v) && decide (v ≤ hi) }

/-- A signed field of `w` bits. -/
def sfield (row w : Nat) (d lo hi : Int) : FieldSpec := { ufield row w d lo hi with signed := true }

/-- A field with several members of one range. -/
def afield (row n w : Nat) (d lo hi : Int) : FieldSpec := { ufield row w d lo hi with members := n }

/-- A field whose codes are listed. -/
def efield (row w : Nat) (d : Int) (codes : List Int) : FieldSpec :=
  { row, members := 1, width := w, signed := false, dflt := fun _ => d, inRange := fun v => codes.contains v }

/-- A field of `w` bits any value of which is in range. -/
def bfield (row w : Nat) (d : Int) : FieldSpec := ufield row w d 0 ((2 ^ w : Nat) - 1)

/-- The key of a field in the live and staged copies. -/
def cfgKey (group row idx : Nat) : Nat := idx * 2 ^ 24 + group * 2 ^ 8 + row

/-- The group that a key belongs to. -/
def keyGroup (k : Nat) : Nat := k / 2 ^ 8 % 2 ^ 16

/-- The row that a key belongs to. -/
def keyRow (k : Nat) : Nat := k % 2 ^ 8

/-- The index that a key belongs to. -/
def keyIdx (k : Nat) : Nat := k / 2 ^ 24

/-- Every mode (Table 18.1, ALL: the mailbox runs already). -/
def anyMode (_ : Mode) : Bool := true

/-- One of the modes given. -/
def oneOf (l : List Mode) (m : Mode) : Bool := l.contains m

/-- The bytes of a value's smallest WIDTH (R471). -/
def widthOf (w : Nat) : Nat := if w ≤ 8 then 1 else if w ≤ 16 then 2 else if w ≤ 32 then 4 else if w ≤ 64 then 8 else 16

/-- A field record of a G-SET (Table 18.3), with its offset in the request. -/
structure FieldRecord where
  off : Nat
  field : Nat
  index : Nat
  width : Nat
  value : List Byte
  deriving DecidableEq, Repr

/-- The length of a record: 4 + WIDTH, rounded up to a multiple of 4 (R470). -/
def recordLen (width : Nat) : Nat := (4 + width + 3) / 4 * 4

/-- Cut `n` records from a request at offset `off`; none where the lengths do not come out (R470). -/
def parseRecords (req : List Byte) : Nat → Nat → Option (List FieldRecord)
  | 0, off => if off = req.length then some [] else none
  | n + 1, off =>
    let w := byteAt req (off + 2)
    if off + 4 ≤ req.length ∧ off + recordLen w ≤ req.length then
      (parseRecords req n (off + recordLen w)).map
        (fun l => { off, field := byteAt req off, index := byteAt req (off + 1), width := w, value := slice req (off + 4) w } :: l)
    else none

/-- GROUP of a G-SET or G-GET request. -/
def reqGroup (req : List Byte) : Nat := fld req 0 2

/-- The length rule of a G-SET (R470). -/
def gsetLen (req : List Byte) : Bool :=
  decide (8 ≤ req.length) && (parseRecords req (fld req 2 2) 8).isSome

/-- The length rule of a G-GET (R471). -/
def ggetLen (req : List Byte) : Bool := decide (req.length = 8)

/-- The record has the form of a field of the group (R470). -/
def recordOk (fields : List FieldSpec) (r : FieldRecord) : Bool :=
  [1, 2, 4, 8, 16].contains r.width &&
  match fields.find? (fun f => f.row == r.field) with
  | some f => decide (r.index < f.members) && decide (f.width ≤ 8 * r.width)
  | none => false

/-- The value of a record (R469). -/
def recordValue (fields : List FieldSpec) (r : FieldRecord) : Int :=
  match fields.find? (fun f => f.row == r.field) with
  | some f => if f.signed then toSigned (8 * r.width) (leNat r.value) else (leNat r.value : Int)
  | none => 0

/-- The queue that owns the staged copy of a group (R24). -/
def stagedBy (s : State) (g : Nat) : Option Nat :=
  let o := Sparse.get (fun _ => 0) s.cfg.owner g
  if o = 0 then none else some (o - 1)

/-- Another queue owns the staged copy of the group. -/
def lockedBy (s : State) (q g : Nat) : Option Nat :=
  match stagedBy s g with
  | some o => if o = q then none else some o
  | none => none

/-- Write one staged field; the writing queue owns the staged copy (R22, R24). -/
def stageField (q g row idx : Nat) (v : Int) (s : State) : State :=
  { s with cfg := { s.cfg with staged := Sparse.set (fun _ => none) s.cfg.staged (cfgKey g row idx) (some v),
                               owner := Sparse.set (fun _ => 0) s.cfg.owner g (q + 1) } }

/-- Discard the staged copy of a group (R24). -/
def discardGroup (g : Nat) (s : State) : State :=
  { s with cfg := { s.cfg with staged := Sparse.drop (fun k => keyGroup k == g) s.cfg.staged,
                               owner := Sparse.set (fun _ => 0) s.cfg.owner g 0 } }

/-! ### Counters (R473) -/

/-- A CTR request. -/
structure CtrReq where
  inst : Nat
  clear : Bool
  first : Nat
  count : Nat
  deriving DecidableEq, Repr

/-- The CTR request of a payload of 8 bytes (R473). -/
def ctrReq (req : List Byte) : CtrReq :=
  { inst := fld req 0 2, clear := bit (byteAt req 2) 0, first := fld req 4 2, count := fld req 6 2 }

end Sys2Proof.Machine
end

