-- ==== Sys2Proof/Machine/Counters.lean ====
section
/-!
DEFINITION. Counters (R473): every counter table of the block, kept by table, instance and number.
-/
namespace Sys2Proof.Machine

/-- The counter tables. -/
inductive CtrTable where
  /-- Port counters (Table 10.6), 64 bits, by port. -/
  | port
  /-- Queue counters (Table 13.9), 64 bits, by egress. -/
  | queue
  /-- Mirror sessions: copies made and refused (R348, Table 18.7), 64 bits, by session. -/
  | mirror
  /-- PRP pairs (R353), 64 bits, by pair. -/
  | prp
  /-- Pipeline counters (Table 11.9), 64 bits, by pipeline. -/
  | pipe
  /-- Forwarding counters (Table 12.10), 64 bits. -/
  | fwd
  /-- Classification counters: packets and bytes (R296), 64 bits each, by counter. -/
  | cls
  /-- Policer counts (R345), 64 bits each, by policer. -/
  | policer
  /-- Mesh MAC counters (Table 7.7), 32 bits. -/
  | mac
  /-- Mesh security counters (Table 8.7), 32 bits. -/
  | sec
  /-- Transmit counters of a sector (Table 4.12), 32 bits. -/
  | tx
  /-- Receive counters of a sector (Table 5.8), 32 bits. -/
  | rx
  /-- Time counters (R380), 32 bits. -/
  | time
  /-- Chord link counters (R440), 32 bits, by link. -/
  | chord
  /-- Chord chip counters (R440), 32 bits. -/
  | chip
  /-- Storage counters (Table 9.9), 32 bits. -/
  | store
  /-- Memory and integrity counters (R466), 32 bits. -/
  | ecc
  /-- Lattice crossings: NOCREDIT, FLUSH_ITEMS, FLUSH_FORCED (R21), 32 bits, by crossing and instance. -/
  | lattice
  deriving DecidableEq, Repr

/-- The number of a table. -/
def CtrTable.num : CtrTable → Nat
  | .port => 0 | .queue => 1 | .mirror => 2 | .prp => 3 | .pipe => 4 | .fwd => 5 | .cls => 6 | .policer => 7 | .mac => 8
  | .sec => 9 | .tx => 10 | .rx => 11 | .time => 12 | .chord => 13 | .chip => 14 | .store => 15 | .ecc => 16 | .lattice => 17

/-- A table's counters are 64 bits wide and wrap; the others are 32 bits wide and saturate. -/
def CtrTable.wide : CtrTable → Bool
  | .port => true | .queue => true | .mirror => true | .prp => true | .pipe => true | .fwd => true | .cls => true | .policer => true
  | .mac => false | .sec => false | .tx => false | .rx => false | .time => false | .chord => false | .chip => false
  | .store => false | .ecc => false | .lattice => false

/-- The key of a counter. -/
def ctrKey (t : CtrTable) (inst n : Nat) : Nat := t.num * 2 ^ 48 + inst * 2 ^ 16 + n

/-- Read a counter. -/
def ctrGet (s : State) (t : CtrTable) (inst n : Nat) : Nat := Sparse.get (fun _ => 0) s.ctr (ctrKey t inst n)

/-- Set a counter. -/
def ctrSet (t : CtrTable) (inst n v : Nat) (s : State) : State :=
  { s with ctr := Sparse.set (fun _ => 0) s.ctr (ctrKey t inst n) v }

/-- Add to a counter: 64-bit counters wrap, 32-bit counters saturate. -/
def ctrAdd (t : CtrTable) (inst n k : Nat) (s : State) : State :=
  let v := ctrGet s t inst n + k
  ctrSet t inst n (if t.wide then v % 2 ^ 64 else min v (2 ^ 32 - 1)) s

/-- Add one to a counter. -/
def ctrInc (t : CtrTable) (inst n : Nat) (s : State) : State := ctrAdd t inst n 1 s

/-- The bytes of counters `first` to `first + count - 1` of a table. -/
def ctrBytes (s : State) (t : CtrTable) (inst first count : Nat) : List Byte :=
  ((List.range count).map (fun i => leBytes (if t.wide then 8 else 4) (ctrGet s t inst (first + i)))).flatten

/-- Clear counters `first` to `first + count - 1` of a table. -/
def ctrClear (t : CtrTable) (inst first count : Nat) (s : State) : State :=
  { s with ctr := Sparse.drop (fun k => decide (ctrKey t inst first ≤ k) && decide (k < ctrKey t inst first + count)) s.ctr }

/-- A CTR command over a table of counters given as reads and clears by number (R473): `n` counters of
`bytes i` each. Reading and clearing take effect at one instant. -/
def ctrAnswer (r : CtrReq) (widths : List Nat) (read : Nat → Nat) (clear : Nat → State → State)
    (pre : List Byte) (s : State) : Answer :=
  let n := widths.length
  if n ≤ r.first then .bad 4 s
  else if r.count ≠ 0 ∧ n < r.first + r.count then .bad 6 s
  else
    let count := if r.count = 0 then n - r.first else r.count
    let sel := (List.range count).map (fun i => r.first + i)
    let reply := pre ++ (sel.map (fun i => leBytes (widths.getD i 4) (read i))).flatten
    if r.clear ∧ 512 < reply.length then .bad 6 s
    else .ok reply (if r.clear then sel.foldl (fun s i => clear i s) s else s)

/-- A CTR command over `n` counters of one table and instance (R473). -/
def ctrTable (r : CtrReq) (t : CtrTable) (inst n : Nat) (s : State) : Answer :=
  ctrAnswer r (List.replicate n (if t.wide then 8 else 4)) (ctrGet s t inst) (fun i s => ctrSet t inst i 0 s) [] s

end Sys2Proof.Machine
end

