-- ==== Sys2Proof/Machine/Mailbox.lean ====
section
/-!
DEFINITION. A mailbox command from fetch to completion (R59 to R67, R467), class D jobs (R65, R474),
and a UR-340 command (R492 to R494).
-/
namespace Sys2Proof.Machine

/-- What the tables of the chapter "Command reference" say of an opcode. -/
structure Op where
  code : Nat
  /-- The Modes column (Table 18.1). -/
  modes : State → List Byte → Bool
  /-- The length rule of the layout (R467). -/
  len : List Byte → Bool
  /-- The name ends in _GET, _STATUS, _LIST or _READ, or is SYS_IDENTIFY (Table 19.11, feature READ). -/
  read : Bool

/-- Accepted in every mode in which the mailboxes run. -/
def modesAll (_ : State) (_ : List Byte) : Bool := true

/-- Accepted in CONFIG. -/
def modesCfg (s : State) (_ : List Byte) : Bool := decide (s.mode.mode = .config)

/-- Accepted in CONFIG and SERVICE. -/
def modesCS (s : State) (_ : List Byte) : Bool := [Mode.config, .service].contains s.mode.mode

/-- Accepted in SERVICE. -/
def modesSvc (s : State) (_ : List Byte) : Bool := decide (s.mode.mode = .service)

/-- Accepted in ACTIVE_N, ACTIVE_C, ISLAND and QUIESCENT. -/
def modesFwd (s : State) (_ : List Byte) : Bool := [Mode.activeN, .activeC, .island, .quiescent].contains s.mode.mode

/-- Accepted in CONFIG, STANDBY_N and STANDBY_C. -/
def modesSB (s : State) (_ : List Byte) : Bool := [Mode.config, .standbyN, .standbyC].contains s.mode.mode

/-- Accepted in FWD and SB (SW_QUEUE_FLUSH). -/
def modesFwdSB (s : State) (r : List Byte) : Bool := modesFwd s r || modesSB s r

/-- REQ_LEN is exactly `n`. -/
def lenIs (n : Nat) (r : List Byte) : Bool := decide (r.length = n)

/-- An opcode accepted in ALL with a request of `n` bytes that only reads. -/
def opRead (code n : Nat) : Op := { code, modes := modesAll, len := lenIs n, read := true }

/-- An opcode accepted in ALL with a request of `n` bytes. -/
def opAll (code n : Nat) : Op := { code, modes := modesAll, len := lenIs n, read := false }

/-- A feature bit of EXT_FEATURES is set (Table 19.11). -/
def feature (s : State) (i : Nat) : Bool := bit s.compat.features.toNat i

/-- A port that the feature PORTS opens: E8 to E63, MG0 and MG1 (Table 19.11). -/
def portsOpened (p : Nat) : Bool := decide (8 ≤ p) && decide (p ≤ 0x41)

/-- A group that the feature PORTS opens (Table 19.11). -/
def portsGroup (g : Nat) : Bool :=
  (decide (0x0200 ≤ g) && portsOpened (g - 0x0200)) || (decide (0x0300 ≤ g) && portsOpened (g - 0x0300))
    || (decide (0x0400 ≤ g) && portsOpened (g - 0x0400)) || [0x0500, 0x0501, 0x0502].contains g

/-- The records of a G-SET name only the rows given. -/
def onlyRows (rows : List Nat) (req : List Byte) : Bool :=
  match parseRecords req (fld req 2 2) 8 with
  | some l => l.all (fun r => rows.contains r.field)
  | none => true

/-- The commands of a feature bit that is set, and the four that are always accepted, in ACTIVE_C and
STANDBY_C (R506, Table 19.11); SYS_COMPAT_MIGRATE tests its own feature (R508). Rows 7 and 8 of Table 16.1 are REVERT_ENABLE and REVERT_HOLD. -/
def compatPermits (op : Op) (req : List Byte) (s : State) : Bool :=
  let fam := op.code / 256
  [0x0102, 0x010B, 0x010A, 0x0108].contains op.code
    || (feature s 0 && op.read)
    || (feature s 1 && fam == 7)
    || (feature s 2 && fam == 9)
    || (feature s 3 && fam == 0x0A)
    || (feature s 4 && (([0x0201, 0x0202, 0x0205, 0x0206, 0x0207, 0x0208, 0x0209, 0x020A, 0x020B, 0x020C, 0x020E, 0x020F].contains op.code)
          && portsGroup (reqGroup req)))
    || (feature s 5 && op.code == 0x0801 && onlyRows [7, 8] req)
    || op.code == 0x0111
    || (feature s 7 && fam == 6)
    || (feature s 8 && ([0x010C, 0x010D, 0x010E, 0x010F].contains op.code
          || (op.code == 0x0103 && byteAt req 0 == 0x40)))

/-- The mode, the life cycle and the compatibility window accept the command (R467, R32, R506). -/
def accepted (op : Op) (req : List Byte) (s : State) : Bool :=
  op.modes s req
    && (s.mode.lifecycle != .decommissioned || [0x0101, 0x0102].contains op.code)
    && (!([Mode.activeC, .standbyC].contains s.mode.mode) || compatPermits op req s)

/-- The command entry breaks a rule of R59. -/
def entryFault (e : Entry) : Option (Status × Nat) :=
  let inl := bit e.flags.toNat 0
  if (if inl then 32 else 16384) < e.reqLen.toNat ∨ 16384 < e.replyMax.toNat then some (.lenError, 0)
  else if (!inl && e.reqAddr.toNat % 8 != 0) || (e.replyMax.toNat != 0 && e.replyAddr.toNat % 8 != 0) then some (.badParam, 0)
  else none

/-- A request payload is read from host memory and the read fails (R63). -/
def readFailed (e : Entry) : Bool := !bit e.flags.toNat 0 && decide (e.reqLen ≠ 0) && !e.readOk

/-- The command of an entry, as the Apex holds it. -/
def cmdOf (code : Nat) (e : Entry) : Cmd :=
  { queue := e.queue, opcode := code, seq := e.seq, flags := e.flags, tag := e.tag, replyMax := e.replyMax.toNat,
    replyAddr := e.replyAddr.toNat, req := e.req, writeOk := e.writeOk }

/-- The entry is fetched: SQ_HEAD and IN_FLIGHT count it, and the queue's turn is taken (R62, R64). -/
def fetchEntry (q : Nat) (s : State) : State :=
  modQueue q (fun x => { x with sqHead := x.sqHead + 1, inFlight := x.inFlight + 1 }) (takeTurn q s)

/-- Finish a command with its answer. -/
def finish (c : Cmd) : Answer → State
  | .done st d r s => complete c st d r s
  | .wait s => s

/-- A new command: its sequence number is consumed, then the checks of R59, R63 and R467 in order, then
its meaning (R66). -/
def runNew (op : Op) (e : Entry) (h : Cmd → State → Answer) (s : State) : State :=
  let c := cmdOf op.code e
  let s := modQueue e.queue (fun x => { x with seqNext := x.seqNext + 1 }) s
  match entryFault e with
  | some (st, d) => complete c st d [] s
  | none =>
    if readFailed e then complete c .dmaError 0x01 [] s
    else if !accepted op e.req s then complete c .modeRefused 0 [] s
    else if !op.len e.req then complete c .lenError 0 [] s
    else finish c (h c s)

/-- A duplicate is completed from the reply cache and not executed (R66, R67). -/
def runDuplicate (code : Nat) (e : Entry) (r : CachedReply) (s : State) : State :=
  deliverCompletion e.queue
    { opcode := code, seq := e.seq, status := r.status, detail := r.detail, replayed := true,
      replayCut := decide (r.body.length < r.replyLen), tag := e.tag, replyLen := r.replyLen, epoch := r.epoch, body := r.body,
      replyMax := e.replyMax.toNat, replyAddr := e.replyAddr.toNat, irq := bit e.flags.toNat 1, writeOk := e.writeOk, isNew := false } s

/-- A sequence number outside the window: SEQ_ERROR, not executed and not cached (R66). -/
def runOutside (code : Nat) (e : Entry) (s : State) : State :=
  deliverCompletion e.queue
    { opcode := code, seq := e.seq, status := .seqError, detail := 0, replayed := false, replayCut := false, tag := e.tag,
      replyLen := 0, epoch := s.cfg.epoch, body := [], replyMax := e.replyMax.toNat, replyAddr := e.replyAddr.toNat,
      irq := bit e.flags.toNat 1, writeOk := e.writeOk, isNew := false } s

/-- Where it is its queue's turn, the entry is fetched and settled by the sequence rule, a new command by `run`; where
it is not, the Apex fetches nothing (R64, R66, R73). -/
def takeEntry (code : Nat) (e : Entry) (run : State → State) (s : State) : State :=
  if served s e.queue then
    let t := fetchEntry e.queue s
    match seqClass (queueOf s e.queue) e.seq with
    | .fresh => run t
    | .duplicate r => runDuplicate code e r t
    | .outside => runOutside code e t
  else s

/-- A mailbox command (R59 to R67, R467). -/
def mailbox (op : Op) (h : Cmd → State → Answer) (e : Entry) (s : State) : Host.Outcome State Fault Refusal :=
  let s := begin 0 s
  .next (framed (op.code == 0x0104) s (takeEntry op.code e (runNew op e h) s))

/-! ### Jobs (R65, R474) -/

/-- A job record (Table 18.5). -/
def jobBytes (j : Job) : List Byte :=
  leBytes 4 j.handle ++ leBytes 2 j.opcode ++ leBytes 2 j.status.code ++ leBytes 1 j.detail
    ++ leBytes 1 (b2n j.done + 2 * j.progress) ++ zeros 6 ++ padTo 24 j.result

/-- Start a class D command as a job: ACCEPTED with its handle, or BUSY with 16 jobs running (R474). -/
def startJob (c : Cmd) (s : State) : Answer :=
  if 16 ≤ s.jobs.running.length then .fail .busy 0 s
  else
    let j : Job := { handle := s.jobs.next, queue := c.queue, opcode := c.opcode, status := .accepted, detail := 0, done := false,
                     progress := 0, result := [], req := c.req }
    .done .accepted 0 (leBytes 4 s.jobs.next)
      { s with jobs := { s.jobs with running := s.jobs.running ++ [j], next := if s.jobs.next = 2 ^ 32 - 1 then 1 else s.jobs.next + 1 } }

/-- A running job of an opcode. -/
def runningJob (s : State) (opcode : Nat) : Option Job := s.jobs.running.find? (fun j => j.opcode == opcode)

/-- End a job: its record is kept among the last 64, and JOB_DONE is raised (R65, R474). -/
def finishJob (j : Job) (status : Status) (detail : Nat) (result : List Byte) (s : State) : State :=
  let d := { j with status, detail, done := true, progress := 100, result }
  let s := { s with jobs := { s.jobs with running := s.jobs.running.filter (fun x => x.handle != j.handle),
                                          completed := (d :: s.jobs.completed).take 64 } }
  if status = .ok then raise 0x0102 (jobBytes d) s else raiseExit 0x0102 (jobBytes d) (noteInternal status s)

/-- End the running job of an opcode, if there is one. -/
def finishJobOf (opcode : Nat) (status : Status) (detail : Nat) (result : List Byte) (s : State) : State :=
  match runningJob s opcode with
  | some j => finishJob j status detail result s
  | none => s

/-! ### UR-340 commands -/

/-- The UR command of an entry, as the Apex holds it. -/
def urCmdOf (code : Nat) (u : UrEntry) : Cmd :=
  { queue := 16, opcode := code, seq := 0, flags := 0, tag := BitVec.ofNat 32 u.tag.toNat, replyMax := 0, replyAddr := 0,
    req := u.param, writeOk := true }

/-- A UR command is fetched: CMD_HEAD counts it and it is in flight until it responds (R492). -/
def urFetch (c : Cmd) (s : State) : State :=
  let s := takeTurn 16 s
  { s with compat := { s.compat with cmdHead := s.compat.cmdHead + 1, inFlight := some c } }

/-- A UR command of `n` parameter bytes where it is the ring's turn; after migration only the three commands of R509
still execute (R492, R495). -/
def runUr (code n : Nat) (afterMigration : Bool) (h : Cmd → State → Answer) (u : UrEntry) (s : State) : State :=
  if served s 16 then
    let c := urCmdOf code u
    let s := urFetch c s
    if s.compat.migrated && !afterMigration then complete c .modeRefused 0 [] s
    else if u.paramLen.toNat ≠ n ∨ u.param.length ≠ n then complete c .lenError 0 [] s
    else finish c (h c s)
  else s

/-- A UR command. -/
def urCommand (code n : Nat) (afterMigration : Bool) (h : Cmd → State → Answer) (u : UrEntry) (s : State) :
    Host.Outcome State Fault Refusal :=
  let s := begin 0 s
  .next (framed false s (runUr code n afterMigration h u s))

/-! ### Events -/

/-- An event: `dt` ticks pass, and while the block is powered and out of reset its meaning acts. -/
def event (dt : Nat) (f : State → State) (s : State) : Host.Outcome State Fault Refusal :=
  occur dt (fun s => if alive s then f s else s) s

/-- A port sees the native BARs: H1 always, H0 unless the compatibility profile is in force (R51, R490). -/
def nativeBar0 (s : State) (p : HostPort) : Bool := decide (p = .h1) || !s.compat.inForce

/-- An access to BAR2, which H0 has only with the native identity (R52, Table 19.1). -/
def bar2Event (p : HostPort) (f : State → State) (s : State) : Host.Outcome State Fault Refusal :=
  event 0 (fun s => if nativeBar0 s p then f s else s) s

end Sys2Proof.Machine
end

