-- ==== Sys2Proof/Machine/Groups.lean ====
section
/-!
DEFINITION. The commit groups of Table 18.2: the fields, ranges and defaults that their defining
tables give (values in counts of the step, R469), whether each is epoch-bearing, where it is staged,
the number of its range check, and the rows that change only in CONFIG.
-/
namespace Sys2Proof.Machine

/-- The group is staged in CONFIG, SERVICE and the active and standby modes (R86, R109, R114, R167). -/
def stageRadio (m : Mode) : Bool := oneOf [.config, .service, .activeN, .activeC, .standbyN, .standbyC] m

/-- Ports are staged in CONFIG, ACTIVE_N, STANDBY_N, ISLAND and QUIESCENT, and in the compatibility
modes as R506 permits (R262). -/
def stagePort (m : Mode) : Bool := oneOf [.config, .activeN, .standbyN, .island, .quiescent, .activeC, .standbyC] m

/-- QOS_p and SW_BUFFER are staged wherever the mailboxes run (R336 names no mode). -/
def mkGroup (fields : List FieldSpec) : GroupSpec :=
  { fields, epoch := true, stageIn := anyMode, rangeNo := 1, configOnly := [] }

/-- A set of ports is a map over Table 11.4 (R469); `m` is the map of the ports allowed. -/
def setField (row : Nat) (d m : Nat) : FieldSpec :=
  { row, members := 1, width := 128, signed := false, dflt := fun _ => (d : Int),
    inRange := fun v => decide (0 ≤ v) && decide (v < 2 ^ 128) && decide (v.toNat &&& m = v.toNat) }

/-- The map of E0 to E63. -/
def mapE : Nat := 2 ^ 64 - 1
/-- The map of E0 to E63, MG0 and MG1. -/
def mapEMG : Nat := 2 ^ 66 - 1
/-- The map of the mesh ports M0 to M7. -/
def mapMesh : Nat := 255 * 2 ^ 0x48
/-- The map of the host port. -/
def mapHost : Nat := 2 ^ 0x50
/-- The map of the Chord port. -/
def mapChord : Nat := 2 ^ 0x51
/-- Every source and egress of the switch (Table 13.1). -/
def mapAll : Nat := mapEMG + mapMesh + mapHost + mapChord

/-- The number of ports in a map. -/
def popCount (v : Nat) : Nat := (bitList 128 v).length

/-- A field whose default depends on its index. -/
def dfield (row n w : Nat) (d : List Int) (lo hi : Int) : FieldSpec :=
  { afield row n w 0 lo hi with dflt := fun i => d.getD i 0 }

/-- A memory of `n` entries, each a number of `w` bits that a bit table lays out. -/
def memField (row n w : Nat) (d : Int) : FieldSpec := afield row n w d 0 ((2 ^ w : Nat) - 1)

/-- BACKHAUL (Table 2.7a). -/
def grpBackhaul : GroupSpec :=
  { mkGroup [bfield 1 1 0, { setField 2 0 (2 ^ 128 - 1) with }, bfield 3 1 0, ufield 4 16 30 1 600, ufield 5 16 100 1 6000,
      ufield 6 32 1000 100 100000] with rangeNo := 0xFD }

/-- QUIESCENT (R46). -/
def grpQuiescent : GroupSpec :=
  { mkGroup [{ setField 1 0 mapE with
                 inRange := fun v => decide (0 ≤ v) && decide (v < 2 ^ 64) && decide (popCount v.toNat ≤ 8) },
      ufield 2 16 2000 100 20000, bfield 3 8 0, bfield 4 8 0] with epoch := false, rangeNo := 0xFD }

/-- PORT_p (Table 10.1). -/
def grpPort : GroupSpec :=
  { mkGroup ([efield 1 8 0 [0, 1, 2, 3, 4, 5, 6, 7], efield 2 8 0 [0, 1, 2], bfield 3 1 1, ufield 4 16 1522 1522 9216,
      bfield 5 48 0, efield 6 8 0 [0, 1], ufield 7 16 0x88A8 0x0600 0xFFFF, ufield 8 16 1 1 4094, ufield 9 8 0 0 7,
      efield 10 8 1 [0, 1, 2], dfield 11 8 8 [0, 1, 2, 3, 4, 5, 6, 7] 0 7, memField 12 16 96 0]
    ++ [efield 13 8 0 [0, 1, 2], bfield 14 8 0, ufield 15 16 256 16 65535, ufield 16 16 128 0 65534, ufield 17 16 0xFFFF 1 65535,
      ufield 18 8 2 1 36, ufield 19 32 1000000 1000 4294967295, ufield 20 16 10 0 1000, bfield 21 1 1,
      { afield 22 2 16 0 (-4000) 4000 with signed := true }]) with stageIn := stagePort }

/-- SERDES_p and SERDES_Cn (Table 10.4). -/
def grpSerdes : GroupSpec :=
  { mkGroup [ufield 1 8 4 0 15, ufield 2 8 48 0 63, ufield 3 8 11 0 31, afield 4 2 1 0 0 1, efield 5 8 0 [0, 1, 2],
      ufield 6 8 8 0 15] with epoch := false }

/-- QOS_p (Table 13.3). -/
def grpQos : GroupSpec :=
  mkGroup [afield 1 8 16 16 0 65535, afield 2 8 32 393216 16 393216, afield 3 8 8 6 0 10, ufield 4 8 1 0 3,
    afield 5 8 16 24 1 1023, afield 6 8 32 0 0 400000000, afield 7 8 32 16384 256 16777215, ufield 8 32 0 0 400000000,
    ufield 9 32 16384 256 16777215, sfield 10 8 20 (-32) 63, ufield 11 16 0 0 65535]

/-- SW_BUFFER (Table 13.2). -/
def grpBuffer : GroupSpec :=
  mkGroup [ufield 1 32 16384 4096 65536, ufield 2 8 4 0 8, ufield 3 8 0 0 8, ufield 4 32 65536 0 262144]

/-- The ports that may receive mirror copies (Table 13.6): E0 to E63, MG0, MG1 and the host port. -/
def analysisPorts : List Int := ((List.range 66).map Int.ofNat) ++ [0x50]

/-- SW_MIRROR (Table 13.6): INDEX is the session. -/
def grpMirror : GroupSpec :=
  mkGroup [afield 1 4 1 0 0 1, { efield 2 8 0 analysisPorts with members := 4 }, afield 3 4 8 0 0 7,
    { setField 4 0 mapAll with members := 4 }, { setField 5 0 mapAll with members := 4 }, afield 6 4 1 0 0 1,
    memField 7 4 48 0]

/-- SW_PRP (R350): each pair packs VALID, PORT_A and PORT_B from bit 0 upward (R469). -/
def grpPrp : GroupSpec := mkGroup [memField 1 16 15 0, ufield 2 16 400 10 10000]

/-- CLS_Sn (Table 11.5), rows 1 to 4; row 5 holds the entries of the stage by place: the action word,
then the key or value at bit 128 and the mask at bit 448. -/
def grpStage : GroupSpec :=
  mkGroup [efield 1 8 0 [0, 1, 2, 3], memField 2 8 32 0, efield 3 32 1024 [1024, 2048, 4096, 8192, 16384, 32768, 65536],
    bfield 4 128 0, memField 5 65536 768 0]

/-- CLS_METERS (Table 11.8): INDEX is the meter. -/
def grpMeters : GroupSpec :=
  mkGroup [afield 1 65536 32 0 0 400000000, afield 2 65536 32 16384 64 16777215, afield 3 65536 32 0 0 400000000,
    afield 4 65536 32 16384 64 16777215, afield 5 65536 8 0 0 1]

/-- CLS_POLICERS (Table 13.5): INDEX is the policer. -/
def grpPolicers : GroupSpec := mkGroup [afield 1 65536 32 0 0 400000000, afield 2 65536 32 16384 64 16777215]

/-- PARSER (Table 11.3). -/
def grpParser : GroupSpec :=
  mkGroup [ufield 1 8 0 0 3, ufield 2 8 1 0 3, ufield 3 8 1 0 3, ufield 4 8 0 0 3, ufield 5 8 0 0 3, ufield 6 8 1 0 3,
    dfield 7 6 8 [0xF0, 0xF1, 0xF2, 0xF3, 0xF4, 0xF5] 0 255, ufield 8 16 1 1 4094, ufield 9 8 0 0 7]

/-- FWD_PARAM (Table 12.9). -/
def grpFwdParam : GroupSpec :=
  { mkGroup [memField 1 16 49 0, dfield 2 8 8 [0, 16, 32, 40, 48, 56, 64, 96] 0 128, dfield 3 4 8 [0, 8, 16, 24] 0 32,
      dfield 4 3 8 [1, 0, 0] 0 2, ufield 5 8 1 1 60, afield 6 3 16 300 1 32767, afield 7 3 16 10 1 3600,
      setField 8 mapEMG (mapEMG + mapHost), ufield 9 8 8 1 255, ufield 10 16 30 1 600, afield 11 2 1 1 0 1,
      efield 12 8 1 [1, 2], efield 13 8 2 [1, 2], ufield 14 8 2 1 16] with configOnly := [2, 3] }

/-- FWD_VLAN: INDEX is the VID; bit 0 LEARN, bit 1 ROUTE, the member map at bit 2. VID 1 has every Ethernet
and management port, LEARN = 1 and ROUTE = 0; the others are empty (R305). -/
def grpFwdVlan : GroupSpec :=
  mkGroup [{ memField 1 4096 130 0 with dflt := fun i => if i = 1 then ((mapEMG * 4 + 1 : Nat) : Int) else 0 }]

/-- FWD_NEXTHOP (Table 12.2): INDEX is the next hop. -/
def grpNexthop : GroupSpec := mkGroup [memField 1 65536 128 (2 ^ 10 + 0xFA * 2 ^ 88)]

/-- FWD_L2, FWD_V6, FWD_V4: an entry stands at the index that its key spells; 0 is no entry. -/
def grpFwdTable : GroupSpec := mkGroup [memField 1 (2 ^ 144) 256 0]

/-- MESH_TIMING (Table 7.1). -/
def grpTiming : GroupSpec :=
  { mkGroup [ufield 1 32 25000 5000 100000,
      { bfield 2 80 0 with inRange := fun v => decide (0 ≤ v) && decide (v < 2 ^ 80) && decide (v.toNat % 2 ^ 32 < 1000000000) },
      ufield 3 8 10 0 100] with configOnly := [1, 2] }

/-- MESH_TEMPLATE_t (Table 7.2); its range check is check 4 (R174). -/
def grpTemplate : GroupSpec :=
  { mkGroup [ufield 1 16 4000 500 50000, ufield 2 16 2200 100 10000, ufield 3 16 2800 0 40000, ufield 4 32 14000 1000 100000,
      ufield 5 16 1000 391 5000, ufield 6 16 400 100 2000, ufield 7 16 6000 500 20000, ufield 8 16 8 4 1000,
      sfield 9 16 56 (-160) 144, efield 10 8 0 [0, 1], bfield 11 1 0, ufield 12 8 3 0 7] with rangeNo := 4 }

/-- MESH_SCHEDULE (R175): row 1 the length of each hopping sequence, row 2 its channels at 256 times the
sequence plus the place, row 3 the slotframes, row 4 the links (Table 7.3). -/
def grpSchedule : GroupSpec := mkGroup [memField 1 16 16 0, memField 2 4096 64 0, memField 3 64 64 0, memField 4 524288 128 0]

/-- MESH_DRIFT (Table 7.5). -/
def grpDrift : GroupSpec :=
  mkGroup [ufield 1 16 20 0 1000, ufield 2 8 4 1 8, ufield 3 32 86400 3600 604800, ufield 4 8 30 1 180, ufield 5 16 100 1 300,
    ufield 6 16 150 1 500, ufield 7 16 1100 30 5000, ufield 8 8 8 0 64, ufield 9 8 5 1 7]

/-- MESH_SECURITY (Table 8.3). -/
def grpSecurity : GroupSpec :=
  { mkGroup [ufield 1 16 0 0 1023, ufield 2 16 1 0 1023, bfield 3 64 0, ufield 4 8 20 5 200, ufield 5 8 20 1 100, ufield 6 8 60 10 100,
      ufield 7 16 100 10 1000, ufield 8 32 0xF0000000 0x80000000 0xFFFF0000] with configOnly := [3] }

/-- GX_LQ (R167). -/
def grpGxLq : GroupSpec := { mkGroup [ufield 1 8 12 0 40, ufield 2 8 4 0 24, bfield 3 1 0] with stageIn := stageRadio }

/-- PARTITION (R482): INDEX is the partition. -/
def grpPartition : GroupSpec := mkGroup [memField 1 1024 8 0]

/-- SECTOR_s (Table 4.6). -/
def grpSector : GroupSpec :=
  { mkGroup [bfield 1 1 0, ufield 2 8 1 0 2, ufield 3 8 3 0 3, ufield 4 8 1 1 4, ufield 5 16 0 0 10000, efield 6 8 0 [0, 1, 2],
      ufield 7 8 9 0 17, ufield 8 16 50 1 1000] with rangeNo := 0xFD, configOnly := [1, 2] }

/-- FRONT_END_s (Table 4.7). -/
def grpFrontEnd : GroupSpec :=
  { mkGroup [ufield 1 8 10 0 100, ufield 2 8 10 0 100, ufield 3 16 100 0 1000, ufield 4 8 20 0 200, ufield 5 8 5 0 100,
      ufield 6 16 0 0 1000, ufield 7 8 20 0 200, bfield 8 8 0, sfield 9 16 0 (-80) 160, bfield 10 1 0, ufield 11 16 200 0 2000,
      ufield 12 16 40 2 2000, bfield 13 4 1, bfield 14 1 0] with rangeNo := 0xFD }

/-- CAL_s (Table 4.5): INDEX is the entry. -/
def grpCal : GroupSpec := { mkGroup [memField 1 2048 64 0] with epoch := false, stageIn := stageRadio, rangeNo := 0xFD }

/-- RX_s (Table 5.1). -/
def grpRx : GroupSpec :=
  { mkGroup [ufield 1 32 34820 15800 100200, efield 2 8 0 [0, 1, 2],
      { efield 3 16 0 [0, 100, 200, 400, 800, 1200] with members := 4, dflt := fun i => if i = 0 then 200 else 0 },
      afield 4 4 32 863125 395000 2505000, afield 5 4 16 35 1 1000,
      { afield 6 4 8 127 31 255 with inRange := fun v => decide (31 ≤ v) && decide (v ≤ 255) && decide (v % 2 = 1) },
      efield 7 8 0 [0, 1, 2], ufield 8 16 0 0 10000, ufield 9 8 0 0 16, ufield 10 8 12 0 80, ufield 11 16 2047 8 2047,
      ufield 12 16 100 10 1000, ufield 13 16 50 1 500, ufield 14 8 20 4 32] with stageIn := stageRadio, rangeNo := 0xFD }

/-- DET_s (R114): INDEX is the detector. -/
def grpDet : GroupSpec :=
  { mkGroup [memField 1 512 64 (24 * 2 ^ 21 + 140 * 2 ^ 28)] with stageIn := stageRadio, rangeNo := 0xFD }

/-- STORE (Table 9.8). -/
def grpStore : GroupSpec :=
  mkGroup [ufield 1 16 32 1 256, ufield 2 32 16384 2048 65536, ufield 3 32 86400 1 604800, ufield 4 16 20 1 600,
    ufield 5 16 250 100 5000, ufield 6 16 1000 10 10000, efield 7 8 0 [0, 1], ufield 8 8 10 1 200, ufield 9 32 3600 60 86400,
    ufield 10 16 1000 100 4000, bfield 11 1 0]

/-- CLUSTER (Table 16.1). -/
def grpCluster : GroupSpec :=
  { mkGroup [ufield 1 8 0 0 15, bfield 2 16 1, bfield 3 1 0,
      { afield 4 12 8 0xF0 0 15 with inRange := fun v => (decide (0 ≤ v) && decide (v ≤ 15)) || decide (v = 0xF0) },
      ufield 5 16 1022 0 1022, ufield 6 16 10 1 1000, bfield 7 1 1, ufield 8 16 10 1 3600, ufield 9 16 50 0 1000,
      ufield 10 16 50 1 600, ufield 11 16 500 100 4000] with configOnly := [1, 2, 3, 4, 5] }

/-- DIAG (R463); HOST_PORT 0 H0, 1 H1; HOST_ADDR and HOST_LEN have no default in the spec (log 10). -/
def grpDiag : GroupSpec :=
  { mkGroup [ufield 1 8 1 0 2, bfield 2 1 0, bfield 3 1 0,
      { bfield 4 64 0 with inRange := fun v => decide (0 ≤ v) && decide (v < 2 ^ 64) && decide (v % 4096 = 0) },
      ufield 5 32 0x100000 0x100000 0x20000000] with epoch := false }

/-- An egress port has a QOS_p group (Table 13.1). -/
def isEgress (p : Nat) : Bool := decide (p ≤ 0x41) || (decide (0x48 ≤ p) && decide (p ≤ 0x51))

/-- The group of an identifier (Table 18.2); none where no group has it. -/
def groupSpec (g : Nat) : Option GroupSpec :=
  if g = 0x0100 then some grpBackhaul
  else if g = 0x0101 then some grpQuiescent
  else if 0x0200 ≤ g ∧ g ≤ 0x0241 then some grpPort
  else if (0x0300 ≤ g ∧ g ≤ 0x0341) ∨ (0x0360 ≤ g ∧ g ≤ 0x036B) then some grpSerdes
  else if 0x0400 ≤ g ∧ isEgress (g - 0x0400) then some grpQos
  else if g = 0x0500 then some grpBuffer
  else if g = 0x0501 then some grpMirror
  else if g = 0x0502 then some grpPrp
  else if 0x0600 ≤ g ∧ g ≤ 0x0605 then some grpStage
  else if g = 0x0606 then some grpMeters
  else if g = 0x0607 then some grpPolicers
  else if g = 0x0608 then some grpParser
  else if g = 0x0700 then some grpFwdParam
  else if g = 0x0701 then some grpFwdVlan
  else if g = 0x0702 then some grpNexthop
  else if 0x0703 ≤ g ∧ g ≤ 0x0705 then some grpFwdTable
  else if g = 0x0800 then some grpTiming
  else if 0x0810 ≤ g ∧ g ≤ 0x0817 then some grpTemplate
  else if g = 0x0820 then some grpSchedule
  else if g = 0x0821 then some grpDrift
  else if g = 0x0822 then some grpSecurity
  else if g = 0x0823 then some grpGxLq
  else if g = 0x0824 then some grpPartition
  else if 0x0900 ≤ g ∧ g ≤ 0x0907 then some grpSector
  else if 0x0910 ≤ g ∧ g ≤ 0x0917 then some grpFrontEnd
  else if 0x0920 ≤ g ∧ g ≤ 0x0927 then some grpCal
  else if 0x0930 ≤ g ∧ g ≤ 0x0937 then some grpRx
  else if 0x0940 ≤ g ∧ g ≤ 0x0947 then some grpDet
  else if g = 0x0A00 then some grpStore
  else if g = 0x0B00 then some grpCluster
  else if g = 0x0C00 then some grpDiag
  else none

/-- The specification of a field. -/
def fieldSpec (g row : Nat) : Option FieldSpec :=
  match groupSpec g with
  | some x => x.fields.find? (fun f => f.row == row)
  | none => none

/-- The default of a field, by its key. -/
def cfgDefault (k : Nat) : Int :=
  match fieldSpec (keyGroup k) (keyRow k) with
  | some f => f.dflt (keyIdx k)
  | none => 0

/-- A live value. -/
def cfgGet (s : State) (g row idx : Nat) : Int := Sparse.get cfgDefault s.cfg.live (cfgKey g row idx)

/-- A live value that is never negative. -/
def cfgNat (s : State) (g row idx : Nat) : Nat := (cfgGet s g row idx).toNat

/-- A live value that is 0 or 1. -/
def cfgBit (s : State) (g row : Nat) : Bool := cfgGet s g row 0 == 1

/-- A value as staged: the live one where nothing is staged (R22). -/
def cfgStaged (s : State) (g row idx : Nat) : Int :=
  match Sparse.get (fun _ => none) s.cfg.staged (cfgKey g row idx) with
  | some v => v
  | none => cfgGet s g row idx

/-- Set a live value. -/
def cfgSetLive (g row idx : Nat) (v : Int) (s : State) : State :=
  { s with cfg := { s.cfg with live := Sparse.set cfgDefault s.cfg.live (cfgKey g row idx) v } }

/-- The staged fields of a group: row, index, value. -/
def stagedOf (s : State) (g : Nat) : List (Nat × Nat × Int) :=
  s.cfg.staged.filterMap (fun p =>
    if keyGroup p.1 = g then
      match p.2 with
      | some v => some (keyRow p.1, keyIdx p.1, v)
      | none => none
    else none)

/-- Every staged field of a group lies in its range (R543). -/
def rangeOk (s : State) (g : Nat) : Bool :=
  (stagedOf s g).all (fun p =>
    match fieldSpec g p.1 with
    | some f => f.inRange p.2.2
    | none => false)

/-- The staged copy of a group becomes live and is no longer owned (R23, R24). -/
def makeLive (g : Nat) (s : State) : State :=
  discardGroup g ((stagedOf s g).foldl (fun s p => cfgSetLive g p.1 p.2.1 p.2.2 s) s)

/-! ### G-SET and G-GET (R469 to R471) -/

/-- The group accepts staging in the present mode. -/
def stageable (s : State) (g : Nat) : Bool :=
  match groupSpec g with
  | some x => x.stageIn s.mode.mode
  | none => true

/-- The modes of a G-SET: those of the group it names (Table 18.1, GRP). -/
def modesGrp (s : State) (req : List Byte) : Bool := stageable s (reqGroup req)

/-- The fields that G-SET and G-GET reach: the entries of a classification stage have their own commands (R293). -/
def gFields (g : Nat) (x : GroupSpec) : List FieldSpec := if 0x0600 ≤ g ∧ g ≤ 0x0605 then x.fields.take 4 else x.fields

/-- A G-SET over the groups that `serves` names: form of every record, then the records in order (R470). -/
def gset (serves : Nat → Bool) (c : Cmd) (s : State) : Answer :=
  let g := reqGroup c.req
  match groupSpec g, parseRecords c.req (fld c.req 2 2) 8 with
  | some x, some recs =>
    if serves g then
      match recs.find? (fun r => !recordOk (gFields g x) r) with
      | some r => .bad r.off s
      | none =>
        match lockedBy s c.queue g with
        | some o => .fail .cfgLocked o s
        | none => .ok [] (recs.foldl (fun s r => stageField c.queue g r.field r.index (recordValue x.fields r) s) s)
    else .bad 0 s
  | _, _ => .bad 0 s

/-- A field record of a reply with its smallest WIDTH (R471). -/
def recordBytes (f : FieldSpec) (idx : Nat) (v : Int) : List Byte :=
  let w := widthOf f.width
  padMul 4 (leBytes 1 f.row ++ leBytes 1 idx ++ leBytes 1 w ++ zeros 1 ++ leBytes w (ofSigned (8 * w) v))

/-- The records of a group's fields, in row order. -/
def groupRecords (x : GroupSpec) (read : Nat → Nat → Int) : List Byte :=
  (x.fields.map (fun f => ((List.range f.members).map (fun i => recordBytes f i (read f.row i))).flatten)).flatten

/-- The number of records of a group. -/
def recordCount (x : GroupSpec) : Nat := x.fields.foldl (fun a f => a + f.members) 0

/-- A G-GET over the groups that `serves` names, with the further data of the command's row (R471). -/
def gget (serves : Nat → Bool) (further : State → List Byte) (c : Cmd) (s : State) : Answer :=
  let g := reqGroup c.req
  match groupSpec g with
  | some x =>
    if serves g then
      let view := byteAt c.req 2
      if 1 < view then .bad 2 s
      else
        let x := { x with fields := gFields g x }
        let read := if view = 0 then cfgGet s g else cfgStaged s g
        let more := further s
        .ok (leBytes 2 g ++ leBytes 2 (recordCount x) ++ leBytes 2 more.length ++ zeros 2 ++ groupRecords x read ++ more) s
    else .bad 0 s
  | none => .bad 0 s

/-- The opcode of a G-SET. -/
def opGset (code : Nat) : Op := { code, modes := modesGrp, len := gsetLen, read := false }

/-- The opcode of a G-GET. -/
def opGget (code : Nat) : Op := { code, modes := modesAll, len := ggetLen, read := true }

/-- No further data. -/
def noData (_ : State) : List Byte := []

end Sys2Proof.Machine
end

