-- ==== Sys2Proof/Machine/Trans.lean ====
section
/-!
DEFINITION. The start of a mode transition: ranks of triggers (R35), limits (Table 2.5), and what a
trigger of higher or lower rank does to a transition in progress.
-/
namespace Sys2Proof.Machine

/-- Rank of a trigger code (R35, Table 2.3): 0 is acted on first. -/
def triggerRank (code : Nat) : Nat :=
  match code with
  | 0x02 => 1 | 0x0A => 1 | 0x09 => 2 | 0x07 => 3 | 0x04 => 4 | 0x05 => 4 | 0x06 => 5 | _ => 6

/-- Limit of a row of Table 2.5 in ticks; rows without a limit of their own have none here. -/
def rowLimit (row : Nat) : Option Nat :=
  match row with
  | 5 => some (2500 * msTicks) | 6 => some (50 * msTicks) | 7 => some (20 * msTicks)
  | 12 => some (10 * msTicks) | 13 => some (10 * msTicks) | 14 => some (100 * msTicks) | 15 => some (4 * msTicks)
  | 16 => some (10 * msTicks) | 17 => some (10 * msTicks) | 18 => some msTicks
  | _ => none

/-- Complete the command that waits for an aborted transition (R35): MODE_PREEMPTED with the trigger code. -/
def preempt (trigger : Nat) (t : Transition) (s : State) : State :=
  match t.cmd with
  | some c => complete c .modePreempted trigger [] s
  | none => s

/-- A transition starts: IN_TRANSITION = 1 and TARGET shows the mode being entered (Table 2.2). One in
progress is aborted first (R35). -/
def startTransition (row : Nat) (target : Mode) (trigger : Nat) (wake : Option Nat) (cmd : Option Cmd) (s : State) : State :=
  let s := match s.mode.trans with
    | some t => preempt trigger t s
    | none => s
  let t : Transition :=
    { row, fromMode := s.mode.mode, toMode := target, trigger, wake, cmd, since := s.now, limit := rowLimit row }
  { s with mode := { s.mode with trans := some t } }

/-- A trigger of this code outranks the transition in progress, if there is one (R35). -/
def outranks (s : State) (trigger : Nat) : Bool :=
  match s.mode.trans with
  | some t => decide (triggerRank trigger < triggerRank t.trigger)
  | none => true

/-- Hold a trigger of lower rank until the transition in progress completes (R35). -/
def holdTrigger (h : HeldTrigger) (s : State) : State :=
  { s with mode := { s.mode with held := s.mode.held ++ [h] } }

/-- A wake source of QUIESCENT (R46, R47): transition 15 to the origin mode; the Apex stops serving
until it is complete (R73). -/
def wakeBy (source : Nat) (s : State) : State :=
  if s.mode.mode = .quiescent then
    if outranks s 0x06 then
      let s := startTransition 15 (s.mode.origin.getD .activeN) 0x06 (some source) none s
      { s with host := { s.host with serving := false } }
    else
      match s.mode.trans with
      | some t => if t.row = 15 then s else holdTrigger (.wake source) s
      | none => s
  else
    match s.mode.trans with
    | some t => if t.toMode = .quiescent then holdTrigger (.wake source) s else s
    | none => s

/-- Wake source `source` of Table 2.9: sources 0x0 and 0x7 cannot be masked (R46). -/
def wake (source : Nat) (s : State) : State :=
  if source = 0 ∨ source = 7 ∨ bit (cfgNat s 0x0101 3 0) source then wakeBy source s else s

end Sys2Proof.Machine
end

