-- ==== Sys2Proof/Machine/Meridian.lean ====
section
/-!
DEFINITION. Meridian: the commit blocks of BAR2 (R26), time adjustment and holdover (R356 to R362),
clock gating (R363, R364), the PTP settings and time commands (R359, R367, R380), the pulse outputs
(R370, R371) and the capture pins (R372).
-/
namespace Sys2Proof.Machine

/-! ### BLOCK_COMMIT (R26, Table 1.7) -/

/-- What a write to a BLOCK_COMMIT asks. -/
inductive CommitAct where
  | nothing
  | both
  | discard
  | go
  deriving DecidableEq, Repr

/-- The action of a write (R26): none while BUSY, and neither with GO and DISCARD together. -/
def commitAct (v : W32) (b : BlockCommit) : CommitAct :=
  if b.busy then .nothing
  else if v.getLsbD 31 && v.getLsbD 30 then .both
  else if v.getLsbD 31 then .go
  else if v.getLsbD 30 then .discard
  else .nothing

/-- REFUSED is W1C; a write while BUSY is ignored (R5, R26). -/
def commitClear (v : W32) (b : BlockCommit) : BlockCommit :=
  if !b.busy && v.getLsbD 28 then { b with refused := false } else b

/-- GO with DISCARD: REFUSED with CHECK = 0xFF. -/
def commitBoth (b : BlockCommit) : BlockCommit := { b with refused := true, check := 0xFF }

/-- A commit starts with the outcome of its checks on the snapshot. -/
def commitStart (failing : Option Nat) (b : BlockCommit) : BlockCommit := { b with busy := true, failing }

/-- A commit finishes: COMMIT_COUNT, or REFUSED with CHECK. -/
def commitEnd (b : BlockCommit) : BlockCommit :=
  if b.busy then
    match b.failing with
    | none => { b with busy := false, count := b.count + 1 }
    | some k => { b with busy := false, failing := none, refused := true, check := BitVec.ofNat 8 k }
  else b

/-- The first number of a list of checks that fails (R23). -/
def firstFailing : List (Nat × Bool) → Option Nat
  | [] => none
  | (k, passed) :: r => if passed then firstFailing r else some k

/-! ### Meridian -/

/-- Change Meridian. -/
def modMer (f : Meridian → Meridian) (s : State) : State := { s with time := { s.time with mer := f s.time.mer } }

/-- Change Meridian where a cause of holdover may change: entry and exit each raise TIME_HOLDOVER (R362). -/
def withHold (f : Meridian → Meridian) (s : State) : State :=
  let before := s.time.mer
  let s := modMer f s
  let after := s.time.mer
  if !holdover before && holdover after then raise 0x0702 (leBytes 1 1 ++ leBytes 1 (holdCause after)) s
  else if holdover before && !holdover after then raiseExit 0x0702 (leBytes 1 0 ++ leBytes 1 (holdCause before)) s
  else s

/-- The slew of MESH_SHIFT since it was last set, in 2^-16 ns (R172): MESH_SLEW is in steps of 0.01 ppm. -/
def shiftSlewed (s : State) : Int :=
  ((since s s.time.shiftAt : Nat) : Int) * 81920 * cfgGet s 0x0800 3 0 / 100000000

/-- MESH_SHIFT now: it slews towards zero (R172). -/
def meshShiftNow (s : State) : Int :=
  let v := s.time.meshShift
  let d := shiftSlewed s
  if v < 0 then min 0 (v + d) else max 0 (v - d)

/-- Set MESH_SHIFT. -/
def setMeshShift (v : Int) (s : State) : State := { s with time := { s.time with meshShift := v, shiftAt := s.now } }

/-- Mesh time in 2^-16 ns: Meridian time less MESH_SHIFT (R172). -/
def meshTime (s : State) : Int := (merTime s.time.mer : Int) - meshShiftNow s

/-- The adjustment of the staged set in 2^-16 ns: signed for STEP (R358). -/
def stagedAdj (m : Meridian) : Int :=
  if m.adjMode = 1 then (toSigned 48 m.adjSec.toNat * 1000000000 + toSigned 32 m.adjNs.toNat) * 65536
  else ((m.adjSec.toNat * 1000000000 + m.adjNs.toNat) * 65536 : Nat)

/-- BASE_T after the commit at the tick C (R358). -/
def newBase (m : Meridian) : Int :=
  if m.adjMode = 1 then merTimeAgo m 0 + stagedAdj m
  else if m.adjMode = 2 then stagedAdj m
  else merTimeAgo m 0

/-- Check 2 of R358: the nanoseconds of an adjustment. -/
def adjNsOk (m : Meridian) : Bool :=
  if m.adjMode = 2 then decide (m.adjNs.toNat < 1000000000)
  else if m.adjMode = 1 then
    let ns := toSigned 32 m.adjNs.toNat
    let sec := toSigned 48 m.adjSec.toNat
    decide (ns.natAbs < 1000000000) && (decide (0 ≤ ns) || decide (sec ≤ 0)) && (decide (ns ≤ 0) || decide (0 ≤ sec))
  else true

/-- The checks of the Meridian group (R358). -/
def merChecks (m : Meridian) : List (Nat × Bool) :=
  [(1, decide ((toSigned 40 m.stRate.toNat).natAbs ≤ 140737488355)), (2, adjNsOk m), (3, decide (0 ≤ newBase m)),
   (4, decide (m.adjMode ≠ 3))]

/-- The battery-domain clock takes Meridian's time, in 1/32,768 s (R361). -/
def writeBattery (s : State) : State :=
  modMer (fun m => { m with battery := some (merTime m * 32768 / secUnits, s.now) }) s

/-! ### Pulse outputs -/

/-- A pulse output block. -/
def toutOf (s : State) (n : Nat) : Tout := Sparse.get (fun _ => Tout.reset) s.time.tout n

/-- Write a pulse output block. -/
def setTout (n : Nat) (x : Tout) (s : State) : State :=
  { s with time := { s.time with tout := Sparse.set (fun _ => Tout.reset) s.time.tout n x } }

/-- MODE of a pulse output (Table 14.1). -/
def toutMode (x : ToutSet) : Nat := bits x.cfg.toNat 0 2

/-- START in ns. -/
def toutStart (x : ToutSet) : Nat := x.startSec.toNat * 1000000000 + x.startNs.toNat

/-- PERIOD in ns. -/
def toutPeriod (x : ToutSet) : Nat := x.periodSec.toNat * 1000000000 + x.periodNs.toNat

/-- The first edge of a periodic output at or after `t` ns. -/
def periodicAt (x : ToutSet) (t : Nat) : Nat :=
  let p := toutPeriod x
  if t ≤ toutStart x then toutStart x
  else if p = 0 then toutStart x
  else toutStart x + (t - toutStart x + p - 1) / p * p

/-- The checks of a pulse output block (R370). -/
def toutChecks (s : State) (x : ToutSet) : List (Nat × Bool) :=
  [(1, decide (toutMode x ≤ 2) && decide (x.startNs.toNat < 1000000000) && decide (x.periodNs.toNat < 1000000000)
        && decide (5 ≤ x.widthNs.toNat) && decide (x.widthNs.toNat < 1000000000)),
   (2, toutMode x != 2 || (decide (20 ≤ toutPeriod x) && decide (x.widthNs.toNat < toutPeriod x))),
   (3, toutMode x != 1 || decide (nowNs s + 1000 ≤ toutStart x))]

/-- The live set of a pulse output is replaced: a pulse in progress runs to its end, and the next edge
is the first that lies after the commit (R370). -/
def toutApply (s : State) (x : Tout) : Tout :=
  let t := nowNs s
  let next := if toutMode x.staged = 1 then some (toutStart x.staged)
    else if toutMode x.staged = 2 then some (periodicAt x.staged (t + 1))
    else none
  { x with live := x.staged, next }

/-- After a step of time (R371): the next edge is the first at or after the new T; each periodic edge
stepped over counts in SKIPPED. -/
def toutStep (t : Nat) (x : Tout) : Tout :=
  match x.next with
  | none => x
  | some e =>
    if toutMode x.live = 2 then
      let e' := periodicAt x.live t
      let past := if e < e' ∧ toutPeriod x.live ≠ 0 then (e' - e) / toutPeriod x.live else 0
      { x with next := some e', skipped := BitVec.ofNat 16 (min 0xFFFF (x.skipped.toNat + past)) }
    else if e < t then { x with next := none } else x

/-- Every pulse output after a step of time. -/
def toutStepAll (s : State) : State :=
  { s with time := { s.time with tout := s.time.tout.map (fun p => (p.1, toutStep (nowNs s) p.2)) } }

/-- An edge of a pulse output (R371): a pulse in progress ends after its width in ticks; otherwise the
output rises when T reaches the next edge. The width in ticks is rounded down (log 11). -/
def toutEdge (n : Nat) (s : State) : State :=
  let x := toutOf s n
  let c := s.time.mer.c.toNat
  match x.pulseEnd with
  | some e =>
    if e ≤ c then
      let idle := toutMode x.live == 1 && x.next.isNone
      setTout n { x with pulseEnd := none, done := x.done || idle } s
    else s
  | none =>
    match x.next with
    | some e =>
      if e ≤ nowNs s then
        let next := if toutMode x.live = 2 then some (e + toutPeriod x.live) else none
        setTout n { x with pulseEnd := some (c + x.live.widthNs.toNat * 4 / 5), next } s
      else s
    | none => s

/-- A write to TOUTn_COMMIT. -/
def toutCommit (n : Nat) (v : W32) (s : State) : State :=
  let x := toutOf s n
  let b := commitClear v x.commit
  match commitAct v x.commit with
  | .nothing => setTout n { x with commit := b } s
  | .both => setTout n { x with commit := commitBoth b } s
  | .discard => setTout n { x with commit := b, staged := x.live } s
  | .go =>
    match firstFailing (toutChecks s x.staged) with
    | some k => setTout n { x with commit := commitStart (some k) b } s
    | none => setTout n { toutApply s x with commit := commitStart none b } s

/-- A write to MER_COMMIT (R358, R359). The checks and the new set are those of the tick of the write. -/
def merCommit (v : W32) (s : State) : State :=
  let m := s.time.mer
  if m.ownerFw then modMer (fun m => { m with foreignWrite := true }) s
  else
    let b := commitClear v m.commit
    match commitAct v m.commit with
    | .nothing => modMer (fun m => { m with commit := b }) s
    | .both => modMer (fun m => { m with commit := commitBoth b }) s
    | .discard =>
      modMer (fun m => { m with commit := b, stRate := BitVec.ofInt 40 m.rate, stHold := m.hold, adjMode := 0, adjNs := 0, adjSec := 0 }) s
    | .go =>
      match firstFailing (merChecks m) with
      | some k => modMer (fun m => { m with commit := commitStart (some k) b }) s
      | none =>
        let base := newBase m
        let step := base - merTimeAgo m 0
        let adj := m.adjMode
        let s := withHold (fun m =>
          { m with baseT := base.toNat, baseC := m.c, rate := toSigned 40 m.stRate.toNat, hold := m.stHold, adjMode := 0,
                   commit := commitStart none b, stepCount := if adj = 0 then m.stepCount else m.stepCount + 1,
                   timeUnset := m.timeUnset && adj != 2 }) s
        let s := writeBattery s
        if adj = 0 then s
        else
          let s := setMeshShift (meshShiftNow s + step) s
          let s := if step = 0 then s else toutStepAll s
          raise 0x0701 (leBytes 6 m.adjSec.toNat ++ zeros 2 ++ leBytes 4 m.adjNs.toNat ++ leBytes 1 adj.toNat ++ zeros 3
            ++ leBytes 8 m.c.toNat) s

/-! ### Capture pins -/

/-- A capture pin. -/
def tinOf (s : State) (n : Nat) : Tin := Sparse.get (fun _ => Tin.reset) s.time.tin n

/-- Write a capture pin. -/
def setTin (n : Nat) (x : Tin) (s : State) : State :=
  { s with time := { s.time with tin := Sparse.set (fun _ => Tin.reset) s.time.tin n x } }

/-- A write to TINn_COMMIT: its only check is the range check, which every staged value passes (R543). -/
def tinCommit (n : Nat) (v : W32) (s : State) : State :=
  let x := tinOf s n
  let b := commitClear v x.commit
  match commitAct v x.commit with
  | .nothing => setTin n { x with commit := b } s
  | .both => setTin n { x with commit := commitBoth b } s
  | .discard => setTin n { x with commit := b, staged := x.live } s
  | .go => setTin n { x with commit := commitStart none b, live := x.staged } s

/-- EDGE of a pin or channel takes an edge of the kind given. -/
def edgeTaken (edge : Nat) (rising : Bool) : Bool := bit edge (if rising then 0 else 1)

/-- A pin has held a new level for FILT + 1 ticks: its edge is captured with the time of the tick at
which the level was first sampled (R372). A rising edge on a pin of WAKE_TIN is wake source 0x1 (R46). -/
def tinCapture (n : Nat) (rising : Bool) (s : State) : State :=
  let x := tinOf s n
  let cfg := x.live.toNat
  let s := if rising && bit (cfgNat s 0x0101 4 0) n then wake 1 s else s
  if edgeTaken (bits cfg 0 2) rising then
    let t := ((merTimeAgo s.time.mer (bits cfg 2 8)) / 65536).toNat
    let s := if x.fifo.length < 4 then setTin n { x with fifo := x.fifo ++ [(t, rising)] } s
      else setTin n { x with overflow := if x.overflow = 0xFFFF then 0xFFFF else x.overflow + 1 } s
    if bit cfg 10 then
      raise 0x0703 (leBytes 1 n ++ leBytes 1 (b2n rising) ++ zeros 6 ++ leBytes 6 (t / 1000000000) ++ zeros 2
        ++ leBytes 4 (t % 1000000000)) s
    else s
  else s

/-! ### Transmit timestamps and PTP -/

/-- The transmit timestamp queue of a port. -/
def tsqOf (s : State) (p : Nat) : Tsq := Sparse.get (fun _ => Tsq.reset) s.time.tsq p

/-- Write a transmit timestamp queue. -/
def setTsq (p : Nat) (x : Tsq) (s : State) : State :=
  { s with time := { s.time with tsq := Sparse.set (fun _ => Tsq.reset) s.time.tsq p x } }

/-- The PTP settings of a port. -/
def ptpOf (s : State) (p : Nat) : PtpPort := Sparse.get (fun _ => PtpPort.reset) s.time.ptp p

/-- A frame with TS_REQ has been sent whole: {timestamp, TS_ID} joins TSQp, or OVERFLOW rises (R369). -/
def tsqAppend (p : Nat) (t : Nat) (id : Nat) (s : State) : State :=
  let x := tsqOf s p
  if x.fifo.length < 16 then setTsq p { x with fifo := x.fifo ++ [(t, id)] } s
  else setTsq p { x with overflow := if x.overflow = 0xFFFF then 0xFFFF else x.overflow + 1 } s

/-- Some port is in mode BOUNDARY (R359). -/
def anyBoundary (t : TimeState) : Bool := t.ptp.any (fun p => p.2.mode == 3)

/-- OWNER follows TIME_SERVO_SET, and is FIRMWARE while any port is BOUNDARY (R359). -/
def refreshOwner (s : State) : State :=
  let fw := s.time.mer.ownerSet || anyBoundary s.time
  if fw && !s.time.mer.ownerFw then modMer (fun m => { m with ownerFw := true, lastSync := s.now }) s
  else withHold (fun m => { m with ownerFw := fw, servoLost := m.servoLost && fw }) s

/-- The firmware servo has had a usable sync message (R362). -/
def servoSync (s : State) : State := withHold (fun m => { m with lastSync := s.now, servoLost := false }) s

/-- HOLD_TIMEOUT in ticks. -/
def holdTimeoutTicks (m : Meridian) : Nat := m.holdTimeout * 100 * msTicks

/-- No usable sync for HOLD_TIMEOUT (R362). -/
def servoTimeout (s : State) : State :=
  let m := s.time.mer
  if m.ownerFw && decide (holdTimeoutTicks m ≤ since s m.lastSync) then withHold (fun m => { m with servoLost := true }) s else s

/-- TIME_GET (Table 18.14). -/
def timeGetBytes (s : State) : List Byte :=
  let m := s.time.mer
  leBytes 6 (nowSec s) ++ leBytes 4 (nowNanos s) ++ leBytes 8 m.c.toNat ++ leBytes 4 (merStatus m) ++ leBytes 8 m.slowRatio
    ++ zeros 2

/-- TIME_SERVO_SET (R359, Table 18.14). -/
def timeServoSet (c : Cmd) (s : State) : Answer :=
  let owner := byteAt c.req 0
  let timeout := fld c.req 2 2
  if 1 < owner then .bad 0 s
  else if timeout = 0 ∨ 600 < timeout then .bad 2 s
  else .ok [] (refreshOwner (modMer (fun m => { m with ownerSet := owner == 1, holdTimeout := timeout }) s))

/-- TIME_SERVO_GET. -/
def timeServoGet (_ : Cmd) (s : State) : Answer :=
  .ok (leBytes 1 (b2n s.time.mer.ownerFw) ++ zeros 1 ++ leBytes 2 s.time.mer.holdTimeout) s

/-- TIME_PTP_PORT_SET (R367, Table 18.14). -/
def ptpSet (c : Cmd) (s : State) : Answer :=
  let p := byteAt c.req 0
  let mode := byteAt c.req 1
  if 0x41 < p then .bad 0 s
  else if 3 < mode then .bad 1 s
  else
    let x := { ptpOf s p with mode, domain := BitVec.ofNat 8 (byteAt c.req 2) }
    .ok [] (refreshOwner { s with time := { s.time with ptp := Sparse.set (fun _ => PtpPort.reset) s.time.ptp p x } })

/-- TIME_PTP_PORT_GET: the set, then 8 bytes of PEER_DELAY. -/
def ptpGet (c : Cmd) (s : State) : Answer :=
  let p := byteAt c.req 0
  if 0x41 < p then .bad 0 s
  else
    let x := ptpOf s p
    .ok (leBytes 1 p ++ leBytes 1 x.mode ++ leBytes 1 x.domain.toNat ++ leBytes 8 (ofSigned 64 x.peerDelay)) s

/-- The time counters in the order of R380: five PTP counters, OVERFLOW of TSQ0 to TSQ65 and of TIN0 to
TIN7, SKIPPED of TOUT0 to TOUT7, LATE_MATCHES. -/
def timeCtrRead (s : State) (i : Nat) : Nat :=
  if i < 5 then ctrGet s .time 0 i
  else if i < 71 then (tsqOf s (i - 5)).overflow.toNat
  else if i < 79 then (tinOf s (i - 71)).overflow.toNat
  else if i < 87 then (toutOf s (i - 79)).skipped.toNat
  else ctrGet s .time 0 5

/-- Clear one of them. -/
def timeCtrClear (i : Nat) (s : State) : State :=
  if i < 5 then ctrSet .time 0 i 0 s
  else if i < 71 then setTsq (i - 5) { tsqOf s (i - 5) with overflow := 0 } s
  else if i < 79 then setTin (i - 71) { tinOf s (i - 71) with overflow := 0 } s
  else if i < 87 then setTout (i - 79) { toutOf s (i - 79) with skipped := 0 } s
  else ctrSet .time 0 5 0 s

/-- TIME_COUNTERS_GET (R380): CLEAR also clears every OVERFLOW and SKIPPED field. -/
def timeCounters (c : Cmd) (s : State) : Answer :=
  let r := ctrReq c.req
  if r.inst ≠ 0xFFFF then .bad 0 s
  else
    match ctrAnswer r (List.replicate 88 4) (timeCtrRead s) timeCtrClear [] s with
    | .done .ok d reply s' =>
      .done .ok d reply (if r.clear then (List.range 82).foldl (fun s i => timeCtrClear (i + 5) s) s' else s')
    | a => a

/-! ### Clock gating -/

/-- SLOW_RATIO is measured over 32,768 slow-clock periods (R363): `ticks` CLK_TIME ticks, to 2^-24 tick per period. -/
def calibrate (ticks : Nat) (s : State) : State :=
  if s.time.mer.gated then s
  else modMer (fun m => { m with slowRatio := ticks * 512, slowCalValid := true }) s

/-- An Arc channel whose matches are kept on time: PRECISE, or selected in ARC_WAKE_SEL (R378). -/
def arcPrecise (t : TimeState) (n : Nat) (a : ArcCh) : Bool := bit a.live.cfg.toNat 7 || t.arcWakeSel.getLsbD n

/-- A match of the channel falls within `d` ticks. -/
def arcMatchWithin (d : Nat) (a : ArcCh) : Bool :=
  let top := arcTop a
  let counts := (d + a.rem) / 2 ^ arcDiv a
  let target := if a.count.toNat < a.cmp.toNat then a.cmp.toNat - a.count.toNat else top + 1 - a.count.toNat + a.cmp.toNat
  a.running && a.armed && decide (a.cmp.toNat ≤ top) && decide (target ≤ counts)

/-- The power controller may gate CLK_TIME (R364). -/
def mayGate (s : State) : Bool :=
  let t := s.time
  t.mer.slowCalValid
    && t.tin.all (fun p => bits p.2.live.toNat 0 2 == 0)
    && t.arc.all (fun p => bits p.2.live.capcfg.toNat 0 4 == 0)
    && t.tout.all (fun p => p.2.pulseEnd.isNone && (match p.2.next with | some e => decide (nowNs s + 20000 < e) | none => true))
    && t.arc.all (fun p => !(arcPrecise t p.1 p.2 && arcMatchWithin (20 * usTicks) p.2))

/-- CLK_TIME is gated (R364). -/
def gateClock (s : State) : State := if mayGate s then modMer (fun m => { m with gated := true }) s else s

/-- The armed compare of a channel lies within the `n` counts that were made up, after COUNT. -/
def arcPassed (n : Nat) (a : ArcCh) : Bool :=
  let top := arcTop a
  let target := if a.count.toNat < a.cmp.toNat then a.cmp.toNat - a.count.toNat else top + 1 - a.count.toNat + a.cmp.toNat
  a.running && a.armed && decide (a.cmp.toNat ≤ top) && decide (target ≤ n)

/-- A match of channel `n` (R376). -/
def arcMatchAt (n : Nat) (late : Bool) (s : State) : State :=
  let a := Sparse.get (fun _ => ArcCh.reset) s.time.arc n
  let cfg := a.live.cfg.toNat
  let a' := { a with armed := a.armed && bits cfg 0 3 == 2, matched := true, stale := true, late := a.late || late }
  let s := { s with time := { s.time with arc := Sparse.set (fun _ => ArcCh.reset) s.time.arc n a' } }
  let s := if late then ctrInc .time 0 5 s else s
  let s := if bit cfg 8 then sendMsix (if bit cfg 14 then .h1 else .h0) (bits cfg 9 5) s else s
  let s := if bit cfg 15 then raise 0x0704 (leBytes 1 n ++ leBytes 1 (b2n late) ++ zeros 6 ++ leBytes 8 a.count.toNat) s else s
  if s.time.arcWakeSel.getLsbD n then wake 5 s else s

/-- CLK_TIME runs again after `periods` slow-clock periods: C and the Arc channels make them up, and an
armed compare that was passed matches once with LATE set (R364, R378). -/
def ungateClock (periods : Nat) (s : State) : State :=
  if s.time.mer.gated then
    let total := periods * s.time.mer.slowRatio + s.time.mer.fracTicks
    let ticks := total / 2 ^ 24
    let passed := (s.time.arc.filter (fun p => arcPassed ((ticks + p.2.rem) / 2 ^ arcDiv p.2) p.2)).map (·.1)
    let s := { s with time := clockAdvance ticks s.time }
    let s := modMer (fun m => { m with fracTicks := total % 2 ^ 24, gated := false, madeUp := true }) s
    passed.foldl (fun s n => arcMatchAt n true s) s
  else s

/-! ### Meanings of the rows -/

def execTimeGet (e : Entry) (s : State) : Host.Outcome State Fault Refusal := mailbox (opRead 0x0701 0) (fun _ s => .ok (timeGetBytes s) s) e s

def execTimeServoSet (e : Entry) (s : State) : Host.Outcome State Fault Refusal := mailbox (opAll 0x0702 4) timeServoSet e s

def execTimeServoGet (e : Entry) (s : State) : Host.Outcome State Fault Refusal :=
  mailbox { opRead 0x0703 0 with len := fun r => lenIs 0 r || lenIs 4 r } timeServoGet e s

def execTimePtpPortSet (e : Entry) (s : State) : Host.Outcome State Fault Refusal := mailbox (opAll 0x0704 3) ptpSet e s

def execTimePtpPortGet (e : Entry) (s : State) : Host.Outcome State Fault Refusal :=
  mailbox { opRead 0x0705 1 with len := fun r => lenIs 1 r || lenIs 3 r } ptpGet e s

def execTimeCountersGet (e : Entry) (s : State) : Host.Outcome State Fault Refusal := mailbox (opRead 0x0706 8) timeCounters e s

def execMerCommitGo (port : HostPort) (v : W32) (s : State) : Host.Outcome State Fault Refusal := bar2Event port (merCommit v) s

def execMerCommitDiscard (port : HostPort) (v : W32) (s : State) : Host.Outcome State Fault Refusal := bar2Event port (merCommit v) s

def execToutCommitGo (port : HostPort) (n : Nat) (v : W32) (s : State) : Host.Outcome State Fault Refusal :=
  bar2Event port (fun s => if n < 8 then toutCommit n v s else s) s

def execTinCommitGo (port : HostPort) (n : Nat) (v : W32) (s : State) : Host.Outcome State Fault Refusal :=
  bar2Event port (fun s => if n < 8 then tinCommit n v s else s) s

def execToutEdge (dt : Nat) (n : Nat) (s : State) : Host.Outcome State Fault Refusal :=
  event dt (fun s => if n < 8 then toutEdge n s else s) s

def execTinEdgeCapture (dt : Nat) (n : Nat) (rising : Bool) (s : State) : Host.Outcome State Fault Refusal :=
  event dt (fun s => if n < 8 ∧ s.time.mer.gated = false then tinCapture n rising s else s) s

def execSlowClockCalibrated (dt : Nat) (ticks : Nat) (s : State) : Host.Outcome State Fault Refusal := event dt (calibrate ticks) s

def execBatteryClockWrite (dt : Nat) (s : State) : Host.Outcome State Fault Refusal := event dt writeBattery s

def execClkTimeGate (dt : Nat) (s : State) : Host.Outcome State Fault Refusal := event dt gateClock s

def execClkTimeUngate (dt : Nat) (periods : Nat) (s : State) : Host.Outcome State Fault Refusal := event dt (ungateClock periods) s

def execServoSyncTimeout (dt : Nat) (s : State) : Host.Outcome State Fault Refusal := event dt servoTimeout s

end Sys2Proof.Machine
end

