-- ==== Sys2Proof/Machine/Arc.lean ====
section
/-!
DEFINITION. The Arc channels (R373 to R379): commit, start and stop, compare and arm, matches and
captures.
-/
namespace Sys2Proof.Machine

/-- An Arc channel. -/
def arcOf (s : State) (n : Nat) : ArcCh := Sparse.get (fun _ => ArcCh.reset) s.time.arc n

/-- Write an Arc channel. -/
def setArc (n : Nat) (x : ArcCh) (s : State) : State :=
  { s with time := { s.time with arc := Sparse.set (fun _ => ArcCh.reset) s.time.arc n x } }

/-- A host write to a channel: on a reserved channel it is ignored and sets FOREIGN_WRITE (R379). -/
def arcWrite (n : Nat) (f : ArcCh → ArcCh) (s : State) : State :=
  if n < 32 then
    let a := arcOf s n
    setArc n (if s.time.arcReserved.getLsbD n then { a with foreignWrite := true } else f a) s
  else s

/-- MODE of a channel (Table 14.5). -/
def arcMode (x : ArcSet) : Nat := bits x.cfg.toNat 0 3

/-- The checks of an Arc channel (R374). -/
def arcChecks (x : ArcSet) : List (Nat × Bool) :=
  [(1, decide (arcMode x ≤ 2)), (2, x.top == 0 || decide (x.phase.toNat ≤ x.top.toNat)), (3, decide (bits x.capcfg.toNat 0 4 ≤ 8))]

/-- A committed set becomes live: MODE = IDLE clears ARMED, and edges count from the commit (R374, R377). -/
def arcApply (a : ArcCh) : ArcCh :=
  { a with live := a.staged, armed := a.armed && arcMode a.staged != 0, edges := 0 }

/-- A write to ARCn_COMMIT. -/
def arcCommitWord (v : W32) (a : ArcCh) : ArcCh :=
  let b := commitClear v a.commit
  match commitAct v a.commit with
  | .nothing => { a with commit := b }
  | .both => { a with commit := commitBoth b }
  | .discard => { a with commit := b, staged := a.live }
  | .go =>
    match firstFailing (arcChecks a.staged) with
    | some k => { a with commit := commitStart (some k) b }
    | none => { arcApply a with commit := commitStart none b }

/-- A channel starts (Table 14.4): COUNT := PHASE, ARMED unless IDLE. -/
def arcStartCh (a : ArcCh) : ArcCh :=
  { a with running := true, count := a.live.phase, rem := 0, armed := a.armed || arcMode a.live != 0, stale := true, edges := 0 }

/-- A write to ARC_START: every channel named starts at one tick (R373). -/
def arcStart (v : W32) (s : State) : State :=
  let s := (bitList 32 v.toNat).foldl (fun s n => arcWrite n arcStartCh s) s
  if v &&& ~~~s.time.arcReserved = 0 then s else { s with time := { s.time with arcStartCnt := s.time.mer.c } }

/-- A write to ARC_STOP: COUNT and ARMED hold. -/
def arcStop (v : W32) (s : State) : State :=
  (bitList 32 v.toNat).foldl (fun s n => arcWrite n (fun a => { a with running := false }) s) s

/-- A write to ARCn_CMP_HI applies both halves (R375). -/
def arcCmpHi (v : W32) (a : ArcCh) : ArcCh := { a with cmp := (v.setWidth 64 <<< 32) ||| a.cmpLo.setWidth 64, stale := true }

/-- A write of ARM; while ARMED = 1 it changes nothing (R375). -/
def arcArm (v : W32) (a : ArcCh) : ArcCh := if v.getLsbD 0 && !a.armed then { a with armed := true, stale := true } else a

/-- A channel matches now (R375): running, armed, COUNT equal to the compare, at a count after the last
start, arming, compare write or match. -/
def arcMatches (a : ArcCh) : Bool := a.running && a.armed && !a.stale && a.count == a.cmp

/-- The channels whose COUNT equals their compare match (R376). -/
def arcMatchNow (s : State) : State :=
  if s.time.mer.gated then s
  else (((List.range 32).filter (fun n => arcMatches (arcOf s n)))).foldl (fun s n => arcMatchAt n false s) s

/-- COUNT `ago` ticks back. -/
def arcCountAgo (a : ArcCh) (ago : Nat) : Nat :=
  if a.running then
    let t := a.count.toNat * 2 ^ arcDiv a + a.rem
    let lap := (arcTop a + 1) * 2 ^ arcDiv a
    (if ago ≤ t then t - ago else (t + lap - ago % lap) % lap) / 2 ^ arcDiv a
  else a.count.toNat

/-- A filtered edge of the channel's source (R377): it counts, and every (PRESCALE + 1)-th captures COUNT. -/
def arcEdge (rising : Bool) (a : ArcCh) : ArcCh :=
  let cap := a.live.capcfg.toNat
  if bits cap 0 4 ≠ 0 ∧ edgeTaken (bits cap 4 2) rising then
    let e := a.edges + 1
    if e % (bits cap 14 8 + 1) = 0 then
      { a with edges := e, cap := BitVec.ofNat 64 (arcCountAgo a (bits cap 6 8)), capValid := true, capOverrun := a.capOverrun || a.capValid }
    else { a with edges := e }
  else a

/-! ### Meanings of the rows -/

def execArcCommitGo (port : HostPort) (n : Nat) (v : W32) (s : State) : Host.Outcome State Fault Refusal :=
  bar2Event port (arcWrite n (arcCommitWord v)) s

def execArcStart (port : HostPort) (v : W32) (s : State) : Host.Outcome State Fault Refusal := bar2Event port (arcStart v) s

def execArcStop (port : HostPort) (v : W32) (s : State) : Host.Outcome State Fault Refusal := bar2Event port (arcStop v) s

def execArcCmpHiWrite (port : HostPort) (n : Nat) (v : W32) (s : State) : Host.Outcome State Fault Refusal :=
  bar2Event port (arcWrite n (arcCmpHi v)) s

def execArcArm (port : HostPort) (n : Nat) (v : W32) (s : State) : Host.Outcome State Fault Refusal :=
  bar2Event port (arcWrite n (arcArm v)) s

def execArcMatch (dt : Nat) (s : State) : Host.Outcome State Fault Refusal := event dt arcMatchNow s

def execArcCapture (dt : Nat) (n : Nat) (rising : Bool) (s : State) : Host.Outcome State Fault Refusal :=
  event dt (fun s => if n < 32 ∧ s.time.mer.gated = false then setArc n (arcEdge rising (arcOf s n)) s else s) s

/-- BLOCK_COMMIT of the block at the BAR2 offset given finishes (R26). -/
def blockCommitEnd (off : Nat) (s : State) : State :=
  if off = 0x0040 then modMer (fun m => { m with commit := commitEnd m.commit }) s
  else if 0x0100 ≤ off ∧ off < 0x0300 ∧ off % 0x40 = 0x2C then
    let n := (off - 0x0100) / 0x40
    setTout n { toutOf s n with commit := commitEnd (toutOf s n).commit } s
  else if 0x0400 ≤ off ∧ off < 0x0500 ∧ off % 0x20 = 0x14 then
    let n := (off - 0x0400) / 0x20
    setTin n { tinOf s n with commit := commitEnd (tinOf s n).commit } s
  else if 0x8100 ≤ off ∧ off < 0x8900 ∧ (off - 0x8100) % 0x40 = 0x38 then
    let n := (off - 0x8100) / 0x40
    setArc n { arcOf s n with commit := commitEnd (arcOf s n).commit } s
  else s

/-- A write to the BLOCK_COMMIT of a TOUT, TIN or Arc block, by its BAR2 offset (R26). -/
def blockCommitWrite (off : Nat) (v : W32) (s : State) : State :=
  if 0x0100 ≤ off ∧ off < 0x0300 ∧ off % 0x40 = 0x2C then toutCommit ((off - 0x0100) / 0x40) v s
  else if 0x0400 ≤ off ∧ off < 0x0500 ∧ off % 0x20 = 0x14 then tinCommit ((off - 0x0400) / 0x20) v s
  else if 0x8100 ≤ off ∧ off < 0x8900 ∧ (off - 0x8100) % 0x40 = 0x38 then arcWrite ((off - 0x8100) / 0x40) (arcCommitWord v) s
  else s

def execBlockCommitDiscard (port : HostPort) (off : Nat) (v : W32) (s : State) : Host.Outcome State Fault Refusal :=
  bar2Event port (blockCommitWrite off v) s

def execBlockCommitComplete (dt : Nat) (off : Nat) (s : State) : Host.Outcome State Fault Refusal := event dt (blockCommitEnd off) s

end Sys2Proof.Machine
end

