-- ==== Sys2Proof/Machine/Drift.lean ====
section
/-!
DEFINITION. Exact fractions, the slot grid (R172 to R177) and the drift model (R190 to R197).
-/
namespace Sys2Proof.Machine

/-! ### Fractions -/

/-- A fraction with a positive denominator, not reduced: the exact arithmetic of R194. -/
structure Frac where
  num : Int
  den : Nat
  deriving DecidableEq, Repr

/-- A whole number. -/
def Frac.of (n : Int) : Frac := { num := n, den := 1 }
/-- A number of `d`-ths. -/
def Frac.mk' (n : Int) (d : Nat) : Frac := { num := n, den := d }
/-- Sum. -/
def Frac.add (a b : Frac) : Frac := { num := a.num * b.den + b.num * a.den, den := a.den * b.den }
/-- Difference. -/
def Frac.sub (a b : Frac) : Frac := { num := a.num * b.den - b.num * a.den, den := a.den * b.den }
/-- Product. -/
def Frac.mul (a b : Frac) : Frac := { num := a.num * b.num, den := a.den * b.den }
/-- Quotient; by zero it is zero. -/
def Frac.div (a b : Frac) : Frac :=
  if b.num = 0 then Frac.of 0
  else if 0 < b.num then { num := a.num * b.den, den := a.den * b.num.toNat }
  else { num := -(a.num * b.den), den := a.den * (-b.num).toNat }
/-- `a < b`. -/
def Frac.lt (a b : Frac) : Bool := decide (a.num * b.den < b.num * a.den)
/-- `a ≤ b`. -/
def Frac.le (a b : Frac) : Bool := decide (a.num * b.den ≤ b.num * a.den)
/-- The larger. -/
def Frac.max (a b : Frac) : Frac := if a.lt b then b else a
/-- The smaller. -/
def Frac.min (a b : Frac) : Frac := if b.lt a then b else a
/-- The magnitude. -/
def Frac.abs (a : Frac) : Frac := if a.num < 0 then { a with num := -a.num } else a
/-- `a × k` rounded to a whole number, half away from zero (R194). -/
def Frac.round (a : Frac) (k : Nat) : Int := if a.den = 0 then 0 else divRound (a.num * k) a.den
/-- `a × k` rounded down. -/
def Frac.floor (a : Frac) (k : Nat) : Int := a.num * k / (a.den : Int)

/-! ### The slot grid -/

/-- One microsecond in units of 2^-16 ns. -/
def usUnits : Int := 65536000

/-- TS_LEN in 2^-16 ns. -/
def tsLen (s : State) : Int := cfgGet s 0x0800 1 0 * usUnits

/-- ASN_ORIGIN as mesh time in 2^-16 ns: nanoseconds in bits [31:0], seconds in [79:32] (R469). -/
def asnOrigin (s : State) : Int :=
  let v := cfgNat s 0x0800 2 0
  ((v / 2 ^ 32 * 1000000000 + v % 2 ^ 32 : Nat) : Int) * 65536

/-- Mesh time of the start of slot `a` (R172). -/
def slotStart (s : State) (a : Int) : Int := asnOrigin s + a * tsLen s

/-- The slot in which mesh time `t` lies. -/
def slotAt (s : State) (t : Int) : Int := (t - asnOrigin s) / tsLen s

/-- The slot now: the ASN (R173). -/
def asnNow (s : State) : Nat := (slotAt s (meshTime s)).toNat % 2 ^ 40

/-- A Meridian time in 2^-16 ns as mesh time. -/
def toMesh (s : State) (t : Int) : Int := t - meshShiftNow s

/-- A mesh time as Meridian time. -/
def ofMesh (s : State) (t : Int) : Int := t + meshShiftNow s

/-- A field of a template (Table 7.2). -/
def tmpl (s : State) (t row : Nat) : Int := cfgGet s (0x0810 + t) row 0

/-- A time of a template in 2^-16 ns. -/
def tmplTime (s : State) (t row : Nat) : Int := tmpl s t row * usUnits

/-- E_s(a): the scheduled reference instant in mesh time. -/
def scheduledAt (s : State) (t : Nat) (a : Int) : Int := slotStart s a + tmplTime s t 1

/-! ### Links (R175, Table 7.3) -/

/-- A link entry. -/
structure Link where
  index : Nat
  offset : Nat
  chOffset : Nat
  frame : Nat
  tx : Bool
  rx : Bool
  shared : Bool
  timekeeping : Bool
  advertising : Bool
  protect : Bool
  broadcast : Bool
  node : Nat
  sectors : Nat
  power : Int
  deriving DecidableEq, Repr

/-- A link entry from its 128 bits; none where VALID = 0. -/
def linkOfWord (i v : Nat) : Option Link :=
  if bit v 45 then
    some { index := i, offset := bits v 0 16, chOffset := bits v 16 16, frame := bits v 32 6, tx := bit v 38, rx := bit v 39, shared := bit v 40,
           timekeeping := bit v 41, advertising := bit v 42, protect := bit v 43, broadcast := bit v 44, node := bits v 48 18,
           sectors := bits v 72 8, power := toSigned 16 (bits v 80 16) }
  else none

/-- The valid live links. -/
def liveLinks (s : State) : List Link :=
  s.cfg.live.filterMap (fun p => if keyGroup p.1 = 0x0820 ∧ keyRow p.1 = 4 then linkOfWord (keyIdx p.1) p.2.toNat else none)

/-- A slotframe's live entry, 8 bytes. -/
def slotframe (s : State) (h : Nat) : Nat := cfgNat s 0x0820 3 h
/-- ENABLE of a slotframe. -/
def sfEnabled (s : State) (h : Nat) : Bool := bit (slotframe s h) 8
/-- LENGTH of a slotframe. -/
def sfLength (s : State) (h : Nat) : Nat := bits (slotframe s h) 16 16
/-- TEMPLATE of a slotframe. -/
def sfTemplate (s : State) (h : Nat) : Nat := bits (slotframe s h) 32 8 % 8
/-- HOPSEQ of a slotframe. -/
def sfHop (s : State) (h : Nat) : Nat := bits (slotframe s h) 40 8 % 16

/-- The links of slot `a`, in rising order of slotframe and node. -/
def slotLinks (s : State) (a : Nat) : List Link :=
  ((liveLinks s).filter (fun l => sfEnabled s l.frame && decide (0 < sfLength s l.frame) && decide (a % sfLength s l.frame = l.offset))).mergeSort
    (fun x y => decide (x.frame < y.frame ∨ (x.frame = y.frame ∧ (x.node < y.node ∨ (x.node = y.node ∧ x.index ≤ y.index)))))

/-- Channel spacings by code (Table 5.3), kHz. -/
def spacingOf (code : Nat) : Nat := [100, 200, 400, 800, 1200].getD code 200

/-- The channel of a link in slot `a` (R176): centre and spacing in kHz; none where the sequence is empty. -/
def linkChannel (s : State) (l : Link) (a : Nat) : Option (Nat × Nat) :=
  let h := sfHop s l.frame
  let n := cfgNat s 0x0820 1 h
  if n = 0 then none
  else
    let v := cfgNat s 0x0820 2 (256 * h + (a + l.chOffset) % n)
    some (v % 2 ^ 32, spacingOf (bits v 32 8))

/-- The channels of a hopping sequence. -/
def hopChannels (s : State) (h : Nat) : List Nat :=
  (List.range (cfgNat s 0x0820 1 h)).map (fun i => cfgNat s 0x0820 2 (256 * h + i) % 2 ^ 32)

/-! ### Prediction (R192) -/

/-- Units of 2^-16 ns in a 2^-16 s unit. -/
def lastUnits : Int := 1000000000

/-- T_LAST as a time in 2^-16 ns: the last instant at or before `t` that has its 40 bits. -/
def lastAt (d : Drift) (t : Int) : Int :=
  let u := t / lastUnits
  (u - (u - d.tLast) % (2 ^ 40 : Nat)) * lastUnits

/-- A span of 2^-16 ns in seconds. -/
def spanSec (v : Int) : Frac := Frac.mk' v (65536 * 1000000000)

/-- d of a prediction at mesh time `t`, in seconds. -/
def driftD (d : Drift) (t : Int) : Frac := spanSec (t - lastAt d t)

/-- h: d cut to A_HORIZON. -/
def driftH (s : State) (dd : Frac) : Frac := dd.min (Frac.of (cfgGet s 0x0821 3 0))

/-- RATE in ns/s. -/
def driftRate (d : Drift) : Frac := Frac.mk' d.rate 4096
/-- ACCEL in ns/s². -/
def driftAccel (d : Drift) : Frac := Frac.mk' d.accel (2 ^ 28)

/-- x_pred in ns. -/
def xPred (s : State) (d : Drift) (t : Int) : Frac :=
  let dd := driftD d t
  let h := driftH s dd
  ((Frac.mk' d.x 16).add ((driftRate d).mul dd)).add ((driftAccel d).mul (h.mul (dd.sub (h.div (Frac.of 2)))))

/-- r_pred in ns/s. -/
def rPred (s : State) (d : Drift) (t : Int) : Frac :=
  (driftRate d).add ((driftAccel d).mul (driftH s (driftD d t)))

/-- A downlink prediction first takes the pending correction as applied (R192). -/
def resolvePending (d : Drift) : Drift :=
  if d.tcPending then { d with x := d.x + d.pendTc * 16000, tcPending := false } else d

/-- E_rep(d) in ns (R196). -/
def eRep (s : State) (dd : Frac) : Frac :=
  let h := driftH s dd
  (((Frac.mk' 1 32).add ((Frac.mk' 1 8192).mul dd)).add ((Frac.mk' 1 (2 ^ 30)).mul (h.mul h))).add ((Frac.mk' 1 (2 ^ 29)).mul (h.mul (dd.sub h)))

/-- guard_raw(d) in ns (R197). -/
def guardRaw (s : State) (d : Drift) (dd : Frac) : Frac :=
  let spread := (Frac.of ((d.spread * 16 : Nat) : Int)).max ((Frac.mk' d.rspread 16).mul dd)
  ((Frac.of (cfgGet s 0x0821 1 0 * 100)).add ((Frac.of (cfgGet s 0x0821 2 0)).mul spread)).add (eRep s dd)

/-- The guard of a node at mesh time `t` with a template, in 2^-16 ns, and whether it was cut (R197). -/
def guardOf (s : State) (d : Drift) (t : Int) (template : Nat) : Int × Bool :=
  let raw := if d.n < 2 then Frac.of (cfgGet s 0x0821 7 0 * 1000)
    else (guardRaw s d (driftD d t)).mul (Frac.of ((2 ^ min d.misses 4 : Nat) : Int))
  let g := raw.max (Frac.of 30000)
  let cap := Frac.of (tmpl s template 2 * 500)
  if cap.lt g then (cap.round 65536, true) else (g.round 65536, false)

/-! ### Update (R193 to R195) -/

/-- The model resets, but for SYNC_MODE and the sectors (R195). -/
def Drift.cleared (d : Drift) : Drift := { Drift.reset with sync := d.sync, best := d.best, alt := d.alt }

/-- A value kept in the range of a signed field. -/
def satInt (w : Nat) (v : Int) : Int := max (-(2 ^ (w - 1) : Nat) : Int) (min v ((2 ^ (w - 1) : Nat) - 1 : Int))

/-- A value kept in the range of an unsigned field. -/
def satNat (w : Nat) (v : Int) : Nat := min v.toNat (2 ^ w - 1)

/-- The gains of an update: those of x, r and a (R194); none where a second measurement comes within 1 s. -/
def driftGains (d : Drift) (dd : Frac) : Option (Frac × Frac × Frac) :=
  if d.n = 1 then
    if dd.lt (Frac.of 1) then none else some (Frac.of 1, Frac.of 1, Frac.of 0)
  else if d.n ≤ 7 ∨ dd.lt (Frac.of 60) then some (Frac.mk' 1 2, Frac.mk' 1 4, Frac.of 0)
  else some (Frac.mk' 1 2, Frac.mk' 1 8, Frac.mk' 1 32)

/-- How an update ended: 0 it stopped early, 1 completed, 2 an outlier, 3 the third outlier in a row. -/
abbrev UpdateEnd := Nat

/-- The states of a new estimate, rounded to their formats. -/
def driftApply (s : State) (d : Drift) (t : Int) (nu : Frac) (g : Frac × Frac × Frac) : Drift :=
  let dd := driftD d t
  let h := driftH s dd
  let x := (xPred s d t).add (g.1.mul nu)
  let r := (rPred s d t).add ((g.2.1.mul nu).div dd)
  let a := (driftAccel d).add ((g.2.2.mul nu).div (h.mul (dd.sub (h.div (Frac.of 2)))))
  let sp := Frac.of ((d.spread : Int) * 16)
  let rs := Frac.mk' d.rspread 16
  { d with x := satInt 40 (x.round 16), rate := satInt 32 (r.round 4096), accel := satInt 32 (a.round (2 ^ 28)),
           spread := satNat 16 (((sp.add ((nu.abs.sub sp).div (Frac.of 8))).div (Frac.of 16)).round 1),
           rspread := satNat 16 ((rs.add (((nu.abs.div dd).sub rs).div (Frac.of 8))).round 16), n := min (d.n + 1) 15, outliers := 0 }

/-- The last lines of an update: the re-alignment of a node that takes its time from the chip, and T_LAST. -/
def driftStamp (d : Drift) (t : Int) (used : Option Int) : Drift :=
  let d := match used with
    | some x => if d.sync then { d with x } else d
    | none => d
  let last := t / lastUnits
  let x := (Frac.mk' d.x 16).sub ((driftRate d).mul (spanSec (t - last * lastUnits)))
  { d with tLast := (last % (2 ^ 40 : Nat)).toNat, x := satInt 40 (x.round 16) }

/-- One update with the measurement `xm` in ns at mesh time `t`; `used` is x_used of a downlink
acknowledgement, in 1/16 ns (R194). -/
def driftUpdate (s : State) (d : Drift) (t : Int) (xm : Frac) (used : Option Int) : Drift × UpdateEnd :=
  if d.n = 0 then
    (driftStamp { d with x := satInt 40 (xm.round 16), rate := 0, accel := 0, spread := 0, rspread := 0, outliers := 0, n := 1 } t used, 1)
  else
    let nu := xm.sub (xPred s d t)
    let dd := driftD d t
    if 2 ≤ d.n ∧ (guardRaw s d dd).lt nu.abs then
      let o := d.outliers + 1
      if o = 3 then (d.cleared, 3) else ({ d with outliers := o }, 2)
    else
      match driftGains { d with outliers := 0 } dd with
      | none => ({ d with outliers := 0, x := satInt 40 (xm.round 16) }, 0)
      | some g => (driftStamp (driftApply s d t nu g) t used, 1)

/-- |X| above X_LIMIT or |RATE| above R_LIMIT (R195). -/
def driftBeyond (s : State) (d : Drift) : Bool :=
  decide (cfgNat s 0x0821 5 0 * 100000000 * 16 < d.x.natAbs) || decide (cfgNat s 0x0821 6 0 * 1000 * 4096 < d.rate.natAbs)

end Sys2Proof.Machine
end

