-- ==== Sys2Proof/Machine/Chord.lean ====
section
/-!
DEFINITION. The Chord link layer (R413 to R418): messages, lanes, credits, link frames, routes through
the graph of the members' links, and the change of a link between down and up.
-/
namespace Sys2Proof.Machine

/-! ### The cluster (Table 16.1) -/

/-- MEMBER_ID. -/
def memberId (s : State) : Nat := cfgNat s 0x0B00 1 0
/-- CLUSTER_MASK. -/
def clusterMask (s : State) : Nat := cfgNat s 0x0B00 2 0
/-- TWIN_ENABLE. -/
def twinEnabled (s : State) : Bool := cfgBit s 0x0B00 3
/-- LINK_PEER of a link; none where it is NONE. -/
def linkPeer (s : State) (l : Nat) : Option Nat :=
  let v := cfgNat s 0x0B00 4 l
  if v < 16 then some v else none
/-- The twin's member number (R411). -/
def twinId (s : State) : Nat := memberId s ^^^ 1
/-- TIME_TOL in 2^-16 ns. -/
def timeTol (s : State) : Int := cfgGet s 0x0B00 6 0 * 6553600

/-- A Chord link. -/
def linkOf (s : State) (l : Nat) : ChordLink := Sparse.get (fun _ => ChordLink.reset) s.chord.links l

/-- Write a Chord link. -/
def setLink (l : Nat) (x : ChordLink) (s : State) : State :=
  { s with chord := { s.chord with links := Sparse.set (fun _ => ChordLink.reset) s.chord.links l x } }

/-- Change a Chord link. -/
def modLink (l : Nat) (f : ChordLink → ChordLink) (s : State) : State := setLink l (f (linkOf s l)) s

/-- A member of the cluster. -/
def memberOf (s : State) (m : Nat) : Member := Sparse.get (fun _ => Member.reset) s.chord.members m

/-- Change a member. -/
def modMember (m : Nat) (f : Member → Member) (s : State) : State :=
  { s with chord := { s.chord with members := Sparse.set (fun _ => Member.reset) s.chord.members m (f (memberOf s m)) } }

/-- Change the twin's state. -/
def modTwin (f : TwinState → TwinState) (s : State) : State := { s with chord := { s.chord with twin := f s.chord.twin } }

/-- The twelve links. -/
def chordLinks : List Nat := List.range 12

/-- Links that are up. -/
def upLinks (s : State) : List Nat := chordLinks.filter (fun l => (linkOf s l).up)

/-- Links that are up to a member. -/
def linksTo (s : State) (m : Nat) : List Nat := (upLinks s).filter (fun l => linkPeer s l == some m)

/-- Twin links that are up. -/
def twinLinks (s : State) : List Nat := linksTo s (twinId s)

/-- The members directly linked to this chip, a map (R416). -/
def ownLinks (s : State) : Nat := bitMap ((upLinks s).filterMap (linkPeer s))

/-- The links of a member as its HELLOs describe them; this chip's own from its links. -/
def linksOf (s : State) (m : Nat) : Nat :=
  if m = memberId s then ownLinks s else if (memberOf s m).known then (memberOf s m).links.toNat else 0

/-- The members within one link more of a set of members. -/
def expandSet (s : State) (set : Nat) : Nat := (bitList 16 set).foldl (fun a m => a ||| linksOf s m) set

/-- The members within `n` links of a member. -/
def within (s : State) (m : Nat) : Nat → Nat
  | 0 => bitMap [m]
  | n + 1 => expandSet s (within s m n)

/-- The number of links between two members; 16 where there is no path. -/
def hopsBetween (s : State) (a b : Nat) : Nat :=
  ((List.range 16).find? (fun n => bit (within s a n) b)).getD 16

/-- A member is reachable in the graph of the HELLO link sets (R438). -/
def reachable (s : State) (m : Nat) : Bool := decide (hopsBetween s (memberId s) m < 16)

/-- The neighbour through which a message for `d` goes: on a shortest path, the lower member number
winning (R417). -/
def nextHop (s : State) (d : Nat) : Option Nat :=
  let h := hopsBetween s (memberId s) d
  if h = 0 ∨ 16 ≤ h then none
  else (bitList 16 (ownLinks s)).find? (fun n => hopsBetween s n d + 1 == h)

/-- The parent of a member in the shortest-path tree of a source (R417). -/
def treeParent (s : State) (src m : Nat) : Option Nat :=
  let h := hopsBetween s src m
  (List.range 16).find? (fun n => bit (linksOf s n) m && hopsBetween s src n + 1 == h)

/-- The neighbours to which a broadcast of `src` goes on from this chip. -/
def treeChildren (s : State) (src : Nat) : List Nat :=
  (bitList 16 (ownLinks s)).filter (fun m => m != src && treeParent s src m == some (memberId s))

/-! ### Messages -/

/-- The lane of a message class (Table 16.2). -/
def laneOf (cls : Nat) : Nat :=
  if cls < 0x10 then 0 else if cls < 0x20 then 1 else if cls = 0x20 then 2 else if cls = 0x30 then 3
  else if cls = 0x40 then 4 else if cls = 0x50 then 5 else 6

/-- The message classes in rising order (Table 16.2). -/
def chordClasses : List Nat :=
  [0x01, 0x02, 0x03, 0x04, 0x10, 0x11, 0x12, 0x20, 0x30, 0x40, 0x50, 0x60, 0x61]

/-- The place of a class among the message classes. -/
def classIndex (cls : Nat) : Nat := (chordClasses.filter (fun c => decide (c < cls))).length

/-- A replication class (R417, Table 16.5). -/
def replicationClass (cls : Nat) : Bool := [0x10, 0x12, 0x20, 0x30, 0x61].contains cls

/-- The bytes of a message: the header of Table 16.3, then the body. -/
def msgBytes (m : ChordMsg) : List Byte :=
  leBytes 16 (m.cls + m.src * 2 ^ 8 + m.dst * 2 ^ 12 + b2n m.bcast * 2 ^ 16 + m.hops * 2 ^ 17 + m.compat * 2 ^ 32
      + m.body.length * 2 ^ 48 + m.epoch * 2 ^ 64 + m.seq * 2 ^ 96)
    ++ m.body

/-- The header of a message (Table 16.3) and its body of LENGTH bytes. -/
def msgOfBytes (l : List Byte) : ChordMsg :=
  let h := fld l 0 16
  { cls := bits h 0 8, src := bits h 8 4, dst := bits h 12 4, bcast := bit h 16, hops := bits h 17 4, compat := bits h 32 16,
    epoch := bits h 64 32, seq := bits h 96 32, stream := 0, body := slice l 16 (bits h 48 16) }

/-! ### Lanes and link frames -/

/-- Messages of a lane that wait. -/
def laneWaiting (x : ChordLink) (n : Nat) : List LaneMsg := Sparse.get (fun _ => []) x.waiting n

/-- Write the messages of a lane. -/
def setLane (n : Nat) (l : List LaneMsg) (x : ChordLink) : ChordLink :=
  { x with waiting := Sparse.set (fun _ => []) x.waiting n l }

/-- The payload of the next link frame of a message: 2,048 bytes, or the rest padded to 32 (R414). -/
def nextPayload (m : LaneMsg) : List Byte :=
  let p := slice (msgBytes m.msg) m.sent 2048
  p ++ zeros (32 - p.length)

/-- The next frame is the message's last. -/
def nextIsLast (m : LaneMsg) : Bool := decide ((msgBytes m.msg).length ≤ m.sent + 2048)

/-- Credits that a payload spends (R415). -/
def creditsFor (payload : List Byte) : Nat := (payload.length + 255) / 256

/-- A lane may send its next frame: credits held, and the link up but for lane 0. -/
def laneReady (x : ChordLink) (n : Nat) : Bool :=
  match laneWaiting x n with
  | m :: _ => (x.up || n == 0) && decide (Sparse.get (fun _ => 0) x.spent n + creditsFor (nextPayload m) ≤ 64)
  | [] => false

/-- The weight of a lane (Table 16.2). -/
def laneWeight (n : Nat) : Nat := match n with | 2 => 4 | 3 => 4 | 4 => 2 | 5 => 6 | _ => 1

/-- The lane that sends next: 0, then 1, then the one of lanes 2 to 6 served least for its weight (R415). -/
def nextLane (x : ChordLink) : Option Nat :=
  let ready := (List.range 7).filter (laneReady x)
  match ready with
  | [] => none
  | n :: _ =>
    if n ≤ 1 then some n
    else
      let load := fun k => Sparse.get (fun _ => 0) x.served k
      some (ready.foldl (fun a k => if load k < load a then k else a) n)

/-- The link header (Table 16.10): SEQ, the acknowledgement, and up to 15 credits of each lane returned. -/
def linkHeader (x : ChordLink) (lane : Nat) (last : Bool) (seq : Nat) : Nat :=
  let cr := (List.range 7).foldl (fun a n => a + min 15 (Sparse.get (fun _ => 0) x.owed n) * 2 ^ (32 + 4 * n)) 0
  lane + b2n last * 8 + seq * 16 + (x.expectSeq + 4095) % 4096 * 2 ^ 16 + cr

/-- A link frame on the wire: header, payload, CRC-32C (R413). -/
def linkFrame (header : Nat) (payload : List Byte) : List Byte :=
  let b := leBytes 8 header ++ payload
  b ++ leBytes 4 (crc32c b)

/-- What a header returned is no longer owed. -/
def headerSent (x : ChordLink) : ChordLink :=
  { x with ackOwed := false,
           owed := (List.range 7).foldl (fun a n => Sparse.update (fun _ => 0) a n (fun v => v - min 15 v)) x.owed }

/-- Send the next frame of a lane. -/
def sendLane (l n : Nat) (s : State) : State :=
  let x := linkOf s l
  match laneWaiting x n with
  | [] => s
  | m :: rest =>
    let p := nextPayload m
    let last := nextIsLast m
    let f : SentFrame := { seq := x.nextSeq, lane := n, last, payload := p, msg := m.msg }
    let s := emit (.chord l (linkFrame (linkHeader x n last x.nextSeq) p)) s
    let x := headerSent (setLane n (if last then rest else { m with sent := m.sent + 2048 } :: rest) x)
    setLink l { x with nextSeq := (x.nextSeq + 1) % 4096, unacked := x.unacked ++ [f],
                       sentAt := if x.unacked.isEmpty then s.now else x.sentAt,
                       spent := Sparse.update (fun _ => 0) x.spent n (· + creditsFor p),
                       served := if n < 2 then x.served else Sparse.update (fun _ => 0) x.served n (· + p.length * 12 / laneWeight n) } s

/-- Frames that the waiting messages of a link take. -/
def framesWaiting (x : ChordLink) : Nat :=
  x.waiting.foldl (fun a p => p.2.foldl (fun a m => a + (msgBytes m.msg).length / 2048 + 1) a) 0

/-- Send what the credits of a link allow; `fuel` bounds the number of frames. -/
def pumpFuel (l : Nat) : Nat → State → State
  | 0, s => s
  | fuel + 1, s =>
    match nextLane (linkOf s l) with
    | some n => pumpFuel l fuel (sendLane l n s)
    | none => s

/-- Send what the credits of a link allow (R414, R415). -/
def pump (l : Nat) (s : State) : State := pumpFuel l (framesWaiting (linkOf s l)) s

/-- A control frame where an acknowledgement or credits are owed and no message frame can go (R414). -/
def sendControl (l : Nat) (s : State) : State :=
  let x := linkOf s l
  if (x.ackOwed || x.owed.any (fun p => p.2 != 0)) then
    setLink l (headerSent x) (emit (.chord l (linkFrame (linkHeader x 7 false 0) (zeros 32))) s)
  else s

/-- A message enters a lane of a link and is sent as the credits allow; it counts as sent (R440). -/
def queueMsg (l : Nat) (m : ChordMsg) (s : State) : State :=
  let n := laneOf m.cls
  let x := linkOf s l
  pump l (ctrInc .chord l (3 + classIndex m.cls) (setLink l (setLane n (laneWaiting x n ++ [{ msg := m, sent := 0 }]) x) s))

/-! ### Streams and routes -/

/-- The stream of a message (R417): class, destination (16 for a broadcast) and partition. -/
def streamKey (cls dst partition : Nat) : Nat := (cls * 32 + dst) * 2048 + partition

/-- The link that a stream uses: the one it uses already while that is up, else the lowest that leads on (R417). -/
def streamRoute (key hop : Nat) (s : State) : Option Nat :=
  let cand := linksTo s hop
  let cur := Sparse.get (fun _ => 0) s.chord.twin.streamLink key
  if cur ≠ 0 ∧ cand.contains (cur - 1) then some (cur - 1) else cand.head?

/-- A new message of this chip, with the next SRC_SEQ of its stream (R418). -/
def newMsg (cls dst partition : Nat) (bcast : Bool) (body : List Byte) (s : State) : ChordMsg × State :=
  let key := streamKey cls (if bcast then 16 else dst) partition
  let n := Sparse.get (fun _ => 0) s.chord.twin.txSeq key
  ({ cls, src := memberId s, dst, bcast, hops := 15, compat := s.fw.runCompat.toNat, epoch := s.cfg.epoch.toNat, seq := n,
     stream := key, body },
   modTwin (fun t => { t with txSeq := Sparse.set (fun _ => 0) t.txSeq key ((n + 1) % 2 ^ 32) }) s)

/-- A message leaves towards a neighbour, on its stream's link. -/
def forwardMsg (hop : Nat) (m : ChordMsg) (s : State) : State :=
  match streamRoute m.stream hop s with
  | some l => queueMsg l m (modTwin (fun t => { t with streamLink := Sparse.set (fun _ => 0) t.streamLink m.stream (l + 1) }) s)
  | none => s

/-- A member's FW_COMPAT differs from this chip's by more than 1 (R420). -/
def compatFar (s : State) (compat : Nat) : Bool :=
  decide (1 < (compat - s.fw.runCompat.toNat) + (s.fw.runCompat.toNat - compat))

/-- A message of `cls` may be exchanged with a member: lane 0 only where the firmware levels differ
by more than 1 (R420), and LEARN and FRAME not in QUIESCENT (R431). -/
def mayExchange (s : State) (cls m : Nat) : Bool :=
  (laneOf cls == 0 || !(memberOf s m).compatBad) && !(s.mode.mode == .quiescent && (cls == 0x40 || cls == 0x50))

/-- Send a message to one member (R417): between twins only on a direct link. -/
def chordSend (cls dst partition : Nat) (body : List Byte) (s : State) : State :=
  if mayExchange s cls dst then
    match (if dst = twinId s then some dst else nextHop s dst) with
    | some hop =>
      if (linksTo s hop).isEmpty then s
      else
        let (m, s) := newMsg cls dst partition false body s
        forwardMsg hop m s
    | none => s
  else s

/-- Send a message to every member along the tree of this chip (R417). -/
def chordBroadcast (cls : Nat) (body : List Byte) (s : State) : State :=
  if s.mode.mode == .quiescent && (cls == 0x40 || cls == 0x50) then s
  else
    let kids := treeChildren s (memberId s)
    if kids.isEmpty then s
    else
      let (m, s) := newMsg cls 0 0 true body s
      kids.foldl (fun s h => if mayExchange s cls h then forwardMsg h m s else s) s

/-- A message goes on from this chip with one hop less (R417); one that runs out of hops is counted. -/
def relay (m : ChordMsg) (s : State) : State :=
  let m' := { m with hops := m.hops - 1, stream := streamKey m.cls (if m.bcast then 16 else m.dst) (1024 + m.src) }
  if m.bcast then
    let kids := treeChildren s m.src
    if kids.isEmpty then s
    else if m.hops ≤ 1 then ctrInc .chip 0 0 s
    else kids.foldl (fun s h => forwardMsg h m' s) s
  else if m.dst = memberId s then s
  else if m.hops ≤ 1 then ctrInc .chip 0 0 s
  else match nextHop s m.dst with
    | some h => forwardMsg h m' s
    | none => s

/-! ### Link changes -/

/-- The messages that a link has not delivered whole, in order, without those of lane 0 (R417). -/
def undelivered (x : ChordLink) : List ChordMsg :=
  let sent := x.unacked.foldl (fun a f => if a.contains f.msg then a else a ++ [f.msg]) []
  let wait := (x.waiting.map (fun p => p.2.map (·.msg))).flatten
  (sent ++ wait.filter (fun m => !sent.contains m)).filter (fun m => laneOf m.cls != 0)

/-- A link goes down: CHORD_LINK_CHANGED, and the undelivered messages of its streams are sent again
whole on another link, in order (R413, R417). -/
def linkDown (l : Nat) (s : State) : State :=
  let x := linkOf s l
  let lost := undelivered x
  let fresh : ChordLink := { ChordLink.reset with lock := x.lock, mismatch := x.mismatch, conflict := x.conflict }
  let s := setLink l fresh s
  if x.up then
    let s := raise 0x0801 (leBytes 1 l ++ leBytes 1 0 ++ leBytes 1 ((linkPeer s l).getD 0xF0)) (ctrInc .chord l 2 s)
    lost.foldl (fun s m =>
      match (if m.bcast then linkPeer s l else if m.dst = twinId s then some m.dst else nextHop s m.dst) with
      | some h => forwardMsg h m s
      | none => s) s
  else s

/-- A link comes up (R416). -/
def linkUp (l : Nat) (s : State) : State :=
  if (linkOf s l).up then s
  else
    let s := modLink l (fun x => { x with up := true }) s
    raiseExit 0x0801 (leBytes 1 l ++ leBytes 1 1 ++ leBytes 1 ((linkPeer s l).getD 0xF0)) s

/-- The Chord links run (Table 2.6). -/
def chordRuns (s : State) : Bool := alive s && s.mode.mode.mailboxes

/-! ### Roles -/

/-- The modes in which a chip serves the mesh. -/
def servingMode (m : Mode) : Bool := oneOf [.activeN, .activeC, .island, .quiescent] m

/-- This chip is the active twin of its pair. -/
def activeTwin (s : State) : Bool := twinEnabled s && servingMode (datapath s)

/-- This chip is a standby. -/
def standby (s : State) : Bool := [Mode.standbyN, .standbyC].contains (datapath s)

/-- The active twin replicates: its standby is not lost, a twin link is up, and the firmware levels agree (R420, R423). -/
def replicates (s : State) : Bool :=
  activeTwin s && !s.chord.twin.peerLost && !(twinLinks s).isEmpty && !(memberOf s (twinId s)).compatBad

/-- Send a message of a replication class to the twin. -/
def replicate (cls partition : Nat) (body : List Byte) (s : State) : State :=
  if replicates s then chordSend cls (twinId s) partition body s else s

/-! ### SYNCED (R427) -/

/-- A standby is no longer SYNCED, and a bulk resynchronization under way cannot end in it. -/
def loseSync (s : State) : State :=
  modTwin (fun t => { t with synced := false, resync := t.resync.map (fun r => { r with failed := true }) }) s

/-- A standby begins a bulk resynchronization: it asks its active twin for its state (log 45). -/
def beginResync (job : Option Nat) (s : State) : State :=
  if standby s ∧ twinEnabled s then
    let r : Resync := { since := s.now, ended := [], marks := [], nodes := [], queues := [], failed := false }
    let s := modTwin (fun t => { t with synced := false, resync := some r, rxSeq := [], job := if job.isSome then job else t.job }) s
    chordSend 0x61 (twinId s) 0 (leBytes 4 1) s
  else s

end Sys2Proof.Machine
end

