-- ==== Sys2Proof/Machine/Health.lean ====
section
/-!
DEFINITION. The health report (R454 to R457).
-/
namespace Sys2Proof.Machine

/-- Entries of a locus and code become resolved (R457). -/
def healthResolve (p : HealthEntry → Bool) (s : State) : State :=
  modInteg (fun i => { i with health := i.health.map (fun e => if p e then { e with resolved := true } else e) }) s

/-- HEALTHY: no unresolved entry of severity 3 or above, and no failed step in the cycle (Table 17.5). -/
def healthy (s : State) : Bool :=
  s.integ.health.all (fun e => e.resolved || decide (e.severity < 3)) && s.integ.cycleFailed.isEmpty

/-- The bytes of a health entry (Table 17.6). -/
def HealthEntry.bytes (e : HealthEntry) : List Byte :=
  leBytes 16 (e.locus + e.code * 2 ^ 32 + e.severity * 2 ^ 48 + b2n e.resolved * 2 ^ 51 + e.count * 2 ^ 52
    + e.firstSec * 2 ^ 64 + e.lastSec * 2 ^ 96)

/-- The health report (Table 17.5). -/
def healthReport (s : State) : List Byte :=
  let i := s.integ
  leBytes 32 (1 + memberId s * 2 ^ 8 + b2n (healthy s) * 2 ^ 12 + b2n i.overflow * 2 ^ 13 + s.mode.mode.code * 2 ^ 16
    + min 16 i.spareFacets.length * 2 ^ 24 + i.health.length * 2 ^ 32 + i.reportSeq.toNat * 2 ^ 64 + nowSec s * 2 ^ 96
    + nowNanos s * 2 ^ 144 + i.cyclePct * 2 ^ 176)
    ++ (i.health.map HealthEntry.bytes).flatten

/-- A report is made: REPORT_SEQ rises by one. -/
def countReport (s : State) : State := modInteg (fun i => { i with reportSeq := i.reportSeq + 1 }) s

end Sys2Proof.Machine
end

