-- ==== Sys2Proof/Machine/Store.lean ====
section
/-!
DEFINITION. The drives, the array and the journal (R225 to R237, R243 to R255): labels, mounting, the
failure of a member, the writing of stripes, and the path of a record from its arrival to its block.
-/
namespace Sys2Proof.Machine

/-- Change the storage manager. -/
def modStore (f : StoreState → StoreState) (s : State) : State := { s with store := f s.store }

/-- Change the array. -/
def modArray (f : ArrayState → ArrayState) (s : State) : State := modStore (fun t => { t with array := f t.array }) s

/-- Change the journal. -/
def modJournal (f : JournalState → JournalState) (s : State) : State := modStore (fun t => { t with journal := f t.journal }) s

/-- The drive on a port. -/
def driveOf (s : State) (p : Nat) : Option Drive := Sparse.get (fun _ => none) s.store.drives p

/-- Write the drive of a port. -/
def setDrive (p : Nat) (d : Option Drive) (s : State) : State :=
  modStore (fun t => { t with drives := Sparse.set (fun _ => none) t.drives p d }) s

/-- Change the drive of a port, where there is one. -/
def modDrive (p : Nat) (f : Drive → Drive) (s : State) : State := setDrive p ((driveOf s p).map f) s

/-- A drive that was just fitted. -/
def Drive.fresh (i : DriveInfo) : Drive := { info := i, io := [], timeouts := [], resetAt := none, idled := false }

/-! ### The array -/

/-- Array states (Table 9.2). -/
def ArrayMode.code : ArrayMode → Nat
  | .absent => 0 | .normal => 1 | .degraded => 2 | .rebuilding => 3 | .failed => 4

/-- An array is mounted with at least three current members. -/
def arrayUp (s : State) : Bool := [ArrayMode.normal, .degraded, .rebuilding].contains s.store.array.mode

/-- The port of a position. -/
def positionPort (s : State) (pos : Nat) : Option Nat :=
  match Sparse.get (fun _ => 0) s.store.array.ports pos with
  | 0 => none
  | n + 1 => some n

/-- The position of a port. -/
def portPosition (s : State) (p : Nat) : Option Nat := (List.range 4).find? (fun pos => positionPort s pos == some p)

/-- Positions whose drives take part: those in PRESENT. -/
def presentPositions (a : ArrayState) : List Nat := bitList 4 a.present

/-- Bytes of data in a stripe (R226). -/
def stripeBytes : Nat := 393216

/-- The first stripe of the journal region (Table 9.3). -/
def journalBase : Nat := 91265

/-- The reason for which a drive cannot be used (R227): 1 version, 2 namespace, 3 LBA format, 4 capacity. -/
def unusable (need : Nat) (i : DriveInfo) : Option Nat :=
  if !i.nvme2 then some 1 else if !i.ns1 then some 2 else if !i.lba4096 then some 3
  else if i.capacity < need then some 4 else none

/-- The capacity that a member of `chunks` chunks needs (R227). -/
def needFor (chunks : Nat) : Nat := chunks * 131072 + 1048576

/-- One terabyte (R227). -/
def oneTB : Nat := 1000000000000

/-- The capacity that R227 asks of a drive: that of its array's members, or 1 TB for a new array. -/
def needOf (i : DriveInfo) : Nat := match i.label with | some l => needFor l.chunks | none => oneTB

/-- The label of a position (Table 9.1). -/
def labelFor (a : ArrayState) (pos : Nat) : DriveLabel :=
  { arrayId := a.arrayId, position := pos, generation := a.generation, chunks := a.chunks, present := a.present,
    rebuilding := a.rebuilding, rebuildPoint := a.rebuildPoint, highWater := a.highWater, histOrigin := a.histOrigin }

/-- Issue an I/O command to a port. -/
def issueIo (p : Nat) (write : Bool) (stripe : Nat) (retried : Bool) (block : Option Nat) (s : State) : State :=
  let io : DriveIo := { id := s.store.nextIo, write, stripe, since := s.now, retried, abortAt := none, block }
  let s := emit (.nvme p (if write then 1 else 2) stripe) (modDrive p (fun d => { d with io := d.io ++ [io] }) s)
  modStore (fun t => { t with nextIo := t.nextIo + 1 }) s

/-- Write the labels of every present member, GENERATION raised by one (R228). -/
def writeLabels (s : State) : State :=
  let s := modArray (fun a => { a with generation := (a.generation + 1) % 2 ^ 32 }) s
  (presentPositions s.store.array).foldl (fun s pos =>
    match positionPort s pos with
    | some p =>
      let l := labelFor s.store.array pos
      emit (.nvme p 1 0) (modDrive p (fun d => { d with info := { d.info with label := some l } }) s)
    | none => s) s

/-- HIGH_WATER after a write to stripe `k`: raised by 4,096 stripes at a time (R228). -/
def highWaterFor (hw k : Nat) : Nat := if k < hw then hw else hw + 4096 * ((k - hw) / 4096 + 1)

/-- A stripe at or above the rebuild's HIGH_WATER is noted as written (R236). -/
def noteWritten (k : Nat) (r : Rebuild) : Rebuild :=
  if r.highWater ≤ k ∧ !r.written.contains k then { r with written := r.written ++ [k] } else r

/-- Write a stripe on every present member, the labels first where it passes HIGH_WATER (R228, R236). -/
def writeStripe (k : Nat) (block : Option Nat) (s : State) : State :=
  let hw := s.store.array.highWater
  let s := if k < hw then s else writeLabels (modArray (fun a => { a with highWater := highWaterFor hw k }) s)
  let s := modArray (fun a => { a with rebuild := a.rebuild.map (noteWritten k) }) s
  (presentPositions s.store.array).foldl (fun s pos =>
    match positionPort s pos with
    | some p => issueIo p true k false block s
    | none => s) s

/-- Read a stripe from the members that hold its data. -/
def readStripe (k : Nat) (s : State) : State :=
  ((presentPositions s.store.array).filter (fun pos => pos != k % 4 && !bit s.store.array.rebuilding pos)).foldl (fun s pos =>
    match positionPort s pos with
    | some p => issueIo p false k false none s
    | none => s) s

/-! ### Journal records -/

/-- The bytes of a record: the header of Table 9.7, then its content. -/
def JRec.bytes (r : JRec) : List Byte :=
  leBytes 16 (r.type + (16 + r.body.length) * 2 ^ 16 + r.seconds % 2 ^ 48 * 2 ^ 32 + r.nanos * 2 ^ 80) ++ r.body

/-- LEN of a record. -/
def JRec.len (r : JRec) : Nat := 16 + r.body.length

/-- Record bytes of a block. -/
def rawLen (l : List JRec) : Nat := l.foldl (fun a r => a + r.len) 0

/-- The segments of a block's record bytes (R244). -/
def segments (l : List JRec) : List (List Byte) :=
  let b := (l.map JRec.bytes).flatten
  (List.range ((b.length + 16383) / 16384)).map (fun i => slice b (16384 * i) 16384)

/-- A segment as stored: RAW, and its bytes (R244). -/
def storedSegment (seg : List Byte) : Bool × List Byte :=
  let d := Config.deflate seg
  if d.length < seg.length then (false, d) else (true, seg)

/-- The word that describes a stored segment (Table 9.6, SEG0). -/
def segmentWord (x : Bool × List Byte) : Nat := b2n x.1 * 2 ^ 15 + x.2.length

/-- The segments as stored. -/
def storedSegments (l : List JRec) : List (Bool × List Byte) := (segments l).map storedSegment

/-- The stored length of a block with its header (R244, R245). -/
def storedLen (l : List JRec) : Nat :=
  let segs := storedSegments l
  16 + segs.foldl (fun a x => a + x.2.length) 0 + 2 * (segs.length - 1)

/-- The stored bytes of a block (R244, Table 9.6). -/
def blockBytes (b : JBlock) : List Byte :=
  match storedSegments b.recs with
  | [] => []
  | x :: rest =>
    let head := leBytes 12 (0xA5 + rawLen b.recs * 2 ^ 8 + b.recs.length * 2 ^ 25 + segmentWord x * 2 ^ 40 + b.seq % 2 ^ 40 * 2 ^ 56)
    let body := x.2 ++ (rest.map (fun y => leBytes 2 (segmentWord y) ++ y.2)).flatten
    head ++ leBytes 4 (crc32c (head ++ body)) ++ body

/-- The key of a record: its block and its index, plus one. -/
def recordKey (seq idx : Nat) : Nat := 4096 * seq + idx + 1

/-- The held records of a list of records of block `seq` with their keys. -/
def heldOf (seq : Nat) (l : List JRec) : List (Nat × JRec) :=
  (l.zipIdx.filter (fun p => p.1.type == 2)).map (fun p => (recordKey seq p.2, p.1))

/-- The unreleased held records, oldest first: of the blocks, then of the open block (R253, R254). -/
def heldRecords (j : JournalState) : List (Nat × JRec) :=
  ((j.blocks.map (fun b => heldOf b.seq b.recs)).flatten ++ heldOf j.nextSeq j.open_).filter (fun p => decide (j.released < p.1))

/-- H: the bytes of unreleased held records, with those on X08 (R253; the record bytes count, log 13). -/
def heldBytes (j : JournalState) : Nat :=
  (heldRecords j).foldl (fun a p => a + p.2.len) 0 + (j.x08.filter (fun r => r.type == 2)).foldl (fun a r => a + r.len) 0

/-- Bytes of the journal region. -/
def journalBytes (a : ArrayState) : Nat := (a.chunks - journalBase) * stripeBytes

/-- Stored bytes in the ring. -/
def ringUsed (j : JournalState) : Nat := j.blocks.foldl (fun a b => a + b.stored) 0

/-- The oldest block holds an unreleased held record (R251). -/
def oldestHeld (j : JournalState) (b : JBlock) : Bool := (heldOf b.seq b.recs).any (fun p => decide (j.released < p.1))

/-- Overwrite the oldest blocks until `need` bytes fit into `cap`: the blocks left and the number
overwritten; none where the oldest must stay (R251). -/
def makeRoom (j : JournalState) (cap need used : Nat) : List JBlock → Option (List JBlock × Nat)
  | [] => if need ≤ cap then some ([], 0) else none
  | b :: rest =>
    if used + need ≤ cap then some (b :: rest, 0)
    else if oldestHeld j b then none
    else (makeRoom j cap need (used - b.stored) rest).map (fun x => (x.1, x.2 + 1))

/-- JRNL_FULL_POLICY is STOP. -/
def policyStop (s : State) : Bool := cfgBit s 0x0A00 7

/-- Records that a full ring refuses (R251): counted, and JOURNAL_FULL raised once. -/
def refuseRecords (n : Nat) (s : State) : State :=
  let s := ctrAdd .store 0 7 n s
  if s.store.journal.stopped then s
  else
    let head := match s.store.journal.blocks with | b :: _ => b.seq | [] => s.store.journal.nextSeq
    raise 0x0909 (leBytes 5 head) (modJournal (fun j => { j with stopped := true }) s)

/-- The stripes that `len` bytes at ring position `pos` cover (R243: a block may cross a stripe boundary). -/
def ringStripes (a : ArrayState) (pos len : Nat) : List Nat :=
  let n := a.chunks - journalBase
  let first := pos / stripeBytes
  (List.range ((pos + len - 1) / stripeBytes - first + 1)).map (fun i => journalBase + (first + i) % n)

/-- The tail of the ring passes from the end of the region to its start. -/
def ringTurns (a : ArrayState) (pos len : Nat) : Bool := decide (journalBytes a ≤ pos + len)

/-- Put a block at the tail of the ring and write it with FUA (R248). -/
def putBlock (l : List JRec) (s : State) : State :=
  let j := s.store.journal
  let b : JBlock := { seq := j.nextSeq, pos := j.tail, recs := l, stored := storedLen l, durable := false, lost := false }
  let cap := journalBytes s.store.array
  let s := modJournal (fun j => { j with blocks := j.blocks ++ [b], tail := (j.tail + b.stored) % cap, nextSeq := (j.nextSeq + 1) % 2 ^ 40 }) s
  (ringStripes s.store.array b.pos b.stored).foldl (fun s k => writeStripe k (some b.seq) s) s

/-- The journal runs (Table 2.6). -/
def journalRuns (s : State) : Bool :=
  alive s && s.mode.mode.mailboxes && inModes [.activeN, .activeC, .island, .quiescent, .standbyN, .standbyC] s

/-- A record joins the open block. -/
def openAppend (r : JRec) (s : State) : State :=
  modJournal (fun j => { j with open_ := j.open_ ++ [r], openAt := if j.open_.isEmpty then s.now else j.openAt }) s

/-- A MARK record (R247). -/
def markRec (s : State) (code detail : Nat) : JRec :=
  { type := 4, seconds := nowSec s, nanos := nowNanos s, body := leBytes 4 code ++ leBytes 4 detail }

/-- Records of a closed block that find no room in the staging area are lost (R250). -/
def stagingBytes (j : JournalState) : Nat := j.staging.foldl (fun a l => a + storedLen l) 0

/-- A closed block is written to the ring, waits in staging, or is refused (R248, R250, R251). The
MARKs of a wrap and of a restart after a stop open the next block. -/
def writeBlock (l : List JRec) (s : State) : State :=
  let j := s.store.journal
  let a := s.store.array
  if arrayUp s then
    let room := if policyStop s then (if ringUsed j + storedLen l ≤ journalBytes a then some (j.blocks, 0) else none)
      else makeRoom j (journalBytes a) (storedLen l) (ringUsed j) j.blocks
    match room with
    | none => refuseRecords l.length s
    | some (kept, n) =>
      let turns := ringTurns a j.tail (storedLen l)
      let again := j.stopped
      let s := ctrAdd .store 0 6 n (modJournal (fun j => { j with blocks := kept, stopped := false }) s)
      let s := putBlock l s
      let s := if turns then openAppend (markRec s 4 0) s else s
      if again then openAppend (markRec s 6 0) s else s
  else if stagingBytes j + storedLen l ≤ 1048576 then modJournal (fun j => { j with staging := j.staging ++ [l] }) s
  else ctrAdd .store 0 5 l.length (modJournal (fun j => { j with lost := j.lost + l.length }) s)

/-- Close the open block (R248). -/
def closeBlock (s : State) : State :=
  let l := s.store.journal.open_
  if l.isEmpty then s else writeBlock l (modJournal (fun j => { j with open_ := [] }) s)

/-- The next record would take RAW_LEN past 65,536 or NREC past 4,095 (R248). -/
def blockFull (l : List JRec) (r : JRec) : Bool := decide (65536 < rawLen l + r.len) || decide (4095 ≤ l.length)

/-- The key that a RELEASE record names. -/
def releaseKey (r : JRec) : Nat :=
  let v := fld r.body 0 8
  recordKey (bits v 0 40) (bits v 40 12)

/-- The body of a JRNL_MIRROR: the record, and after a RELEASE the number of held records that it leaves (log 28). -/
def mirrorBody (s : State) (r : JRec) : List Byte :=
  if r.type = 3 then r.bytes ++ leBytes 4 (heldRecords { s.store.journal with released := releaseKey r }).length else r.bytes

/-- A record is added to the journal; HELD, RELEASE and MARK records are mirrored to a standby (R243, R428). -/
def journalAdd (r : JRec) (s : State) : State :=
  let s := if blockFull s.store.journal.open_ r then closeBlock s else s
  let s := openAppend r s
  if r.type = 1 then s else replicate 0x30 0 (mirrorBody s r) s

/-- A MARK of the storage manager, while the journal runs (R247). -/
def journalMark (code detail : Nat) (s : State) : State :=
  if journalRuns s then journalAdd (markRec s code detail) s else s

/-- A record is committed over X08 (R243). -/
def journalCommit (r : JRec) (s : State) : State := modJournal (fun j => { j with x08 := j.x08 ++ [r] }) s

/-! ### Held records (R42, R43, R253) -/

/-- A packet is not held: counted, and HELD_FULL raised once per ISLAND period (R253). -/
def heldDropped (s : State) : State :=
  let s := ctrInc .store 0 8 s
  if s.store.journal.heldFull then s
  else raise 0x090A (leBytes 8 (heldBytes s.store.journal)) (modJournal (fun j => { j with heldFull := true }) s)

/-- The HELD record of a packet for an egress port (R247). -/
def heldRec (s : State) (port : Nat) (frame : List Byte) : JRec :=
  { type := 2, seconds := nowSec s, nanos := nowNanos s, body := leBytes 1 port ++ zeros 7 ++ frame }

/-- A packet for a backhaul port is written to the journal as a held record, or dropped (R42, R253). -/
def holdPacket (port : Nat) (frame : List Byte) (s : State) : State :=
  let r := heldRec s port frame
  if arrayUp s && decide ((heldBytes s.store.journal + r.len) * 1000 ≤ cfgNat s 0x0A00 8 0 * journalBytes s.store.array) then
    journalCommit r s
  else heldDropped s

/-- A RELEASE record for the last held record released (R247). -/
def releaseRec (s : State) (key : Nat) : JRec :=
  { type := 3, seconds := nowSec s, nanos := nowNanos s,
    body := leBytes 8 ((key - 1) / 4096 % 2 ^ 40 + (key - 1) % 4096 * 2 ^ 40) }

/-- The last RELEASE record of the blocks that are on the drives (R254). -/
def lastRelease (l : List JBlock) : Nat :=
  l.foldl (fun a b => b.recs.foldl (fun a r => if r.type = 3 then releaseKey r else a) a) 0

/-! ### Array state changes -/

/-- The array's state changes: a MARK record says so (R247). -/
def setArrayMode (m : ArrayMode) (s : State) : State :=
  if s.store.array.mode = m then s else journalMark 2 m.code (modArray (fun a => { a with mode := m }) s)

/-- The state after the failure of a member (R233). -/
def afterFailure (a : ArrayState) (pos : Nat) : ArrayMode :=
  match a.mode with
  | .normal => .degraded
  | .rebuilding => if bit a.rebuilding pos then .degraded else .failed
  | .degraded => .failed
  | .absent => .absent
  | .failed => .failed

/-- A position leaves PRESENT and REBUILDING. -/
def removePosition (pos : Nat) (a : ArrayState) : ArrayState :=
  { a with present := bitMap ((bitList 4 a.present).filter (· != pos)),
           rebuilding := bitMap ((bitList 4 a.rebuilding).filter (· != pos)),
           ports := Sparse.set (fun _ => 0) a.ports pos 0,
           rebuild := a.rebuild.bind (fun r => if r.position = pos then none else some r) }

/-- The job of a rebuild that stops fails. -/
def failRebuildJob (r : Option Rebuild) (s : State) : State :=
  match r.bind (·.job) with
  | some h =>
    match s.jobs.running.find? (fun j => j.handle == h) with
    | some j => finishJob j .internal 0 [] s
    | none => s
  | none => s

/-- A position leaves the array and the array's state moves (R233, R237). -/
def dropMember (pos : Nat) (s : State) : State :=
  let a := s.store.array
  let next := afterFailure a pos
  let stops := bit a.rebuilding pos || next == .failed
  let s := modArray (removePosition pos) s
  let s := if stops then failRebuildJob a.rebuild (modArray (fun a => { a with rebuild := none }) s) else s
  writeLabels (setArrayMode next s)

/-- A member fails (R233): DRIVE_FAILED with its cause, which is also wake source 0x7. -/
def failMember (pos cause : Nat) (s : State) : State :=
  if bit s.store.array.present pos && arrayUp s then
    let port := (positionPort s pos).getD 0
    let s := healthAdd (pcieLocus (2 + port)) 0x30 3 (dropMember pos s)
    wake 7 (raise 0x0904 (leBytes 1 port ++ leBytes 1 pos ++ leBytes 1 cause) s)
  else s

/-- The drive on a port fails as a member. -/
def failPort (p cause : Nat) (s : State) : State :=
  match portPosition s p with
  | some pos => failMember pos cause s
  | none => s

/-! ### Rebuild (R235, R236) -/

/-- A rebuild of a position on a port begins. -/
def startRebuild (pos port : Nat) (job : Option Nat) (s : State) : State :=
  let r : Rebuild := { position := pos, highWater := s.store.array.highWater, next := 0, zeroNext := s.store.array.highWater,
                       written := [], since := s.now, done := 0, job }
  let s := modArray (fun a => { a with present := bitMap ((bitList 4 a.present).filter (· != pos) ++ [pos]),
                                       rebuilding := bitMap [pos], rebuildPoint := 0,
                                       ports := Sparse.set (fun _ => 0) a.ports pos (port + 1), rebuild := some r }) s
  writeLabels (setArrayMode .rebuilding s)

/-- The absent position of a DEGRADED array. -/
def absentPosition (a : ArrayState) : Option Nat := (List.range 4).find? (fun p => !bit a.present p)

/-! ### Mounting (R231, R249, R250) -/

/-- The four drive ports. -/
def drivePorts : List Nat := List.range 4

/-- The labels of the usable drives, by port. -/
def usableLabels (s : State) : List (Nat × DriveLabel) :=
  drivePorts.filterMap (fun p =>
    match driveOf s p with
    | some d => if (unusable (needOf d.info) d.info).isNone then d.info.label.map (fun l => (p, l)) else none
    | none => none)

/-- The label of highest GENERATION, whose array is mounted. -/
def topLabel : List (Nat × DriveLabel) → Option DriveLabel
  | [] => none
  | (_, l) :: r =>
    match topLabel r with
    | some t => if l.generation < t.generation then some t else some l
    | none => some l

/-- What a drive is to the array with the top label (R231). -/
inductive DriveRole where
  | current
  | target
  | stale
  | other
  deriving DecidableEq, Repr

/-- The role of a drive's label. -/
def driveRole (t l : DriveLabel) : DriveRole :=
  if l.arrayId ≠ t.arrayId then .other
  else if l.generation ≠ t.generation then .stale
  else if bit t.rebuilding l.position then .target
  else if bit t.present l.position then .current
  else .stale

/-- Report the drives that are left out: DRIVE_UNUSABLE, DRIVE_FOREIGN, DRIVE_BLANK (R227, R231). -/
def reportDrive (t : Option DriveLabel) (p : Nat) (s : State) : State :=
  match driveOf s p with
  | none => s
  | some d =>
    match unusable (needOf d.info) d.info with
    | some why => raise 0x0901 (leBytes 1 p ++ leBytes 1 why) s
    | none =>
      match d.info.label, t with
      | none, _ => raise 0x0903 (leBytes 1 p) s
      | some l, some t =>
        match driveRole t l with
        | .other => raise 0x0902 (leBytes 1 p ++ zeros 7 ++ leBytes 8 l.arrayId) s
        | .stale => raise 0x0903 (leBytes 1 p) s
        | .current => s
        | .target => s
      | some l, none => raise 0x0902 (leBytes 1 p ++ zeros 7 ++ leBytes 8 l.arrayId) s

/-- A write of the block is outstanding at a drive. -/
def blockWriting (s : State) (b : JBlock) : Bool :=
  drivePorts.any (fun p => match driveOf s p with | some d => d.io.any (fun x => x.block == some b.seq) | none => false)

/-- Drop the journal's blocks from the first that does not verify (R249): those whose write never
completed. The number of records dropped. -/
def repairTail (s : State) : JournalState × Nat :=
  let j := s.store.journal
  let good := j.blocks.takeWhile (fun b => b.durable || blockWriting s b)
  let bad := j.blocks.drop good.length
  match bad with
  | [] => (j, 0)
  | b :: _ => ({ j with blocks := good, tail := b.pos, nextSeq := b.seq }, bad.foldl (fun a b => a + b.recs.length) 0)

/-- The journal after an array is mounted: the tail repaired, the staged blocks written, and MARKs of
what was lost (R249, R250). -/
def journalMount (s : State) : State :=
  let (j, dropped) := repairTail s
  let staged := j.staging
  let lost := j.lost
  let s := modJournal (fun _ => { j with staging := [], lost := 0 }) s
  let s := if dropped = 0 then s else journalAdd (markRec s 3 dropped) s
  let s := staged.foldl (fun s l => writeBlock l s) s
  if staged.isEmpty ∧ lost = 0 then s else journalAdd (markRec s 3 lost) s

/-- The array as the labels describe it, with the drives that take part. -/
def arrayFrom (t : DriveLabel) (mode : ArrayMode) (present rebuilding : Nat) (ports : List (Nat × DriveLabel)) (now : Nat) : ArrayState :=
  { mode, arrayId := t.arrayId, generation := t.generation, chunks := t.chunks, present, rebuilding, rebuildPoint := t.rebuildPoint,
    highWater := t.highWater, histOrigin := t.histOrigin,
    ports := ports.foldl (fun a p => Sparse.set (fun _ => 0) a p.2.position (p.1 + 1)) [],
    rebuild := if rebuilding = 0 then none
      else (bitList 4 rebuilding).head?.map (fun pos =>
        { position := pos, highWater := t.highWater, next := t.rebuildPoint, zeroNext := t.highWater, written := [], since := now,
          done := 0, job := none }) }

/-- Mount the array from the labels of the drives (R231). -/
def mountDrives (s : State) : State :=
  let labels := usableLabels s
  match topLabel labels with
  | none => drivePorts.foldl (fun s p => reportDrive none p s) (modArray (fun _ => ArrayState.reset) s)
  | some t =>
    let cur := labels.filter (fun p => driveRole t p.2 == .current)
    let tgt := labels.filter (fun p => driveRole t p.2 == .target)
    let s := drivePorts.foldl (fun s p => reportDrive (some t) p s) s
    let here := bitMap (cur.map (fun p => p.2.position))
    if 4 ≤ cur.length then journalMount (modArray (fun _ => arrayFrom t .normal 15 0 cur s.now) s)
    else if 3 ≤ cur.length then
      match tgt with
      | x :: _ =>
        journalMount (modArray (fun _ => arrayFrom t .rebuilding (bitMap (bitList 4 here ++ [x.2.position])) (bitMap [x.2.position]) (cur ++ [x]) s.now) s)
      | [] => journalMount (writeLabels (modArray (fun _ => arrayFrom t .degraded here 0 cur s.now) s))
    else raise 0x0906 (leBytes 1 here) (modArray (fun _ => arrayFrom t .failed here 0 cur s.now) s)

/-- The stale drive of the absent position (R231, R235). -/
def staleFor (s : State) (pos : Nat) : Option Nat :=
  (usableLabels s).findSome? (fun p =>
    if p.2.arrayId = s.store.array.arrayId ∧ p.2.position = pos ∧ (portPosition s p.1).isNone then some p.1 else none)

/-- With AUTO_REPLACE = 1 the stale drive of the absent position is added by itself (R235). -/
def autoReplaceStale (s : State) : State :=
  if cfgBit s 0x0A00 11 ∧ s.store.array.mode = .degraded then
    match absentPosition s.store.array with
    | some pos =>
      match staleFor s pos with
      | some p => startRebuild pos p none s
      | none => s
    | none => s
  else s

/-- The storage manager on entry to CONFIG: the drives are identified and the array mounted (R231). -/
def mountArray (s : State) : State := autoReplaceStale (mountDrives s)

/-! ### Link histories (R255) -/

/-- Write an entry of a node's ring of 128. -/
def historyWrite (node entry : Nat) (s : State) : State :=
  let l := Sparse.get (fun _ => []) s.store.history node ++ [entry]
  modStore (fun t => { t with history := Sparse.set (fun _ => []) t.history node (l.drop (l.length - 128)) }) s

/-- A write to a region other than the journal: the stripe that holds byte `off` of it. -/
def regionStripe (first off : Nat) : Nat := first + off / stripeBytes

end Sys2Proof.Machine
end

