-- ==== Sys2Proof/Machine/Integ.lean ====
section
/-!
DEFINITION. Fatal errors and the entry to DUMP (R34, R50, R458 to R462).
-/
namespace Sys2Proof.Machine

/-! ### Fatal errors -/

/-- The bytes of a dump header (Table 17.10). -/
def DumpHead.bytes (h : DumpHead) : List Byte :=
  let b := leBytes 60 (1 + h.state * 2 ^ 16 + h.cause * 2 ^ 24 + h.locus * 2 ^ 32 + h.seconds * 2 ^ 64 + h.nanos * 2 ^ 112
    + h.mode * 2 ^ 144 + h.lifecycle * 2 ^ 152 + h.epoch * 2 ^ 160 + h.fwVersion * 2 ^ 192 + h.fwCompat * 2 ^ 224
    + h.nSections * 2 ^ 240 + h.seq * 2 ^ 256 + h.length * 2 ^ 288 + h.scope * 2 ^ 320)
  b ++ leBytes 4 (crc32c b)

/-- A dump slot. -/
def dumpOf (s : State) (k : Nat) : DumpHead := Sparse.get (fun _ => DumpHead.reset) s.integ.dumps k

/-- Write a dump slot. -/
def setDump (k : Nat) (h : DumpHead) (s : State) : State :=
  modInteg (fun i => { i with dumps := Sparse.set (fun _ => DumpHead.reset) i.dumps k h }) s

/-- A slot may be taken: EMPTY or READ. -/
def dumpFree (h : DumpHead) : Bool := h.state == 0 || h.state == 4

/-- The slot of the next dump (R461). -/
def dumpSlot (s : State) : Nat :=
  if dumpFree (dumpOf s 0) then 0 else if dumpFree (dumpOf s 1) then 1
  else if (dumpOf s 1).seq < (dumpOf s 0).seq then 1 else 0

/-- DUMP_SEQ of the next dump: one more than the highest. -/
def nextDumpSeq (s : State) : Nat := max (dumpOf s 0).seq (dumpOf s 1).seq + 1

/-- The sections that a scope writes (Table 17.11): one for each Prism of kinds 0x06 and 0x08. -/
def dumpSections (scope : Nat) : Nat := 40 + (if 1 ≤ scope then 2 else 0) + (if scope = 2 then 1 else 0)

/-- The header of a dump that begins now. -/
def dumpHeader (cause locus : Nat) (s : State) : DumpHead :=
  { state := 1, cause, locus, seconds := nowSec s, nanos := nowNanos s, mode := s.mode.mode.code, lifecycle := s.mode.lifecycle.code,
    epoch := s.cfg.epoch.toNat, fwVersion := s.fw.runVersion.toNat, fwCompat := s.fw.runCompat.toNat,
    nSections := dumpSections (cfgNat s 0x0C00 1 0), seq := nextDumpSeq s, length := 0, scope := cfgNat s 0x0C00 1 0 }

/-- The last-fatal record of a fatal error (R460). -/
def fatalRecord (cause locus slot state : Nat) (s : State) : LastFatal :=
  { cause, locus, seconds := nowSec s, nanos := nowNanos s, slot, state, reported := false }

/-- A reset of the chip's own begins (R525): it ends in RESET_RELEASE. -/
def internalReset (s : State) : State := { s with power := { s.power with phase := .inReset .internal } }

/-- One failed reset is counted; the boot ROM resets the chip, or halts on the third (R36). -/
def failedReset (s : State) : State :=
  let n := s.mode.failedResets + 1
  let s := { s with mode := { s.mode with failedResets := n } }
  if 3 ≤ n then { s with mode := { s.mode with mode := .boot, trans := none, bootHalt := true } } else internalReset s

/-- The transition in progress is aborted by a trigger of higher rank (R35). -/
def abortTransition (trigger : Nat) (s : State) : State :=
  match s.mode.trans with
  | some t => preempt trigger t { s with mode := { s.mode with trans := none } }
  | none => s

/-- A fatal error in BOOT or SELFTEST (R34): the last-fatal record, then one failed reset. -/
def fatalInBoot (cause locus : Nat) (s : State) : State :=
  failedReset (modInteg (fun i => { i with lastFatal := some (fatalRecord cause locus 0xFF 2 s), fatalDue := true }) s)

/-- The datapath halts (R50, R39): every partial item and every item of the crossings goes, transmitters are muted
and the SerDes idle; running jobs end (R474). What was in flight is not acknowledged. -/
def haltDatapath (s : State) : State :=
  let w := s.sw
  let r := s.radio
  let halted : SwState :=
    { w with ingress := [], queues := [], egress := [], slow := [], learnQ := [], flushes := [],
             ports := w.ports.map (fun p => (p.1, { p.2 with linkUp := false, hold := [], heldFrom := none, xoff := 0, xoffAt := [] })) }
  let quiet : RadioState :=
    { r with lanes := [], x05 := [], x11 := [],
             sectors := r.sectors.map (fun p => (p.1, { p.2 with jobs := [], seqAt := none, window := none })) }
  let s := { s with sw := halted, radio := quiet, chord := { s.chord with links := [] },
                    mesh := { s.mesh with rxQueue := [], joinQueue := [], waiters := [], due := [], sent := [] } }
  s.jobs.running.foldl (fun s j => finishJob j .modePreempted 0x09 [] s) s

/-- DUMP is entered (R50, R459 steps 2 to 5): transition 18 with trigger 0x09. -/
def enterDump (cause locus : Nat) (s : State) : State :=
  let s := abortTransition 0x09 s
  let old := s.mode.mode
  let slot := if arrayUp s then dumpSlot s else 0xFF
  let host := cfgBit s 0x0C00 2
  let rec_ := fatalRecord cause locus slot (if slot = 0xFF ∧ !host then 2 else 1) s
  let head := dumpHeader cause locus s
  let s := if arrayUp s then closeBlock s else s
  let s := if slot = 0xFF then s else setDump slot head s
  let s := modInteg (fun i => { i with lastFatal := some rec_, fatalDue := true, dumping := some (s.now, slot) }) s
  let s := haltDatapath { s with mode := { s.mode with mode := .dump, origin := none, enteredAt := s.now, held := [] } }
  raiseModeChanged old.code Mode.dump.code 0x09 none s

/-- A fatal error of a cause of Table 17.8: in DUMP it resets the chip at once, DUMP_INCOMPLETE to
read 1 at the next boot (R50). -/
def fatal (cause locus : Nat) (s : State) : State :=
  match s.mode.mode with
  | .boot => fatalInBoot cause locus s
  | .selftest => fatalInBoot cause locus s
  | .dump => internalReset s
  | .off => s
  | .config => enterDump cause locus s
  | .activeN => enterDump cause locus s
  | .standbyN => enterDump cause locus s
  | .activeC => enterDump cause locus s
  | .standbyC => enterDump cause locus s
  | .island => enterDump cause locus s
  | .quiescent => enterDump cause locus s
  | .service => enterDump cause locus s

/-- A Lattice parity error at a locus (Table 17.1, Table 17.7): severity 3 after 16 within 1 h. -/
def latticeParity (locus : Nat) (s : State) : State :=
  let l := ((Sparse.get (fun _ => []) s.integ.parity locus).filter (fun t => decide (s.now < t + 3600 * secTicks))) ++ [s.now]
  let s := modInteg (fun i => { i with parity := Sparse.set (fun _ => []) i.parity locus l }) s
  healthAdd locus 4 (if 16 < l.length then 3 else 2) (ctrInc .ecc 0 18 s)

end Sys2Proof.Machine
end

