-- ==== Sys2Proof/Machine/Keys.lean ====
section
/-!
DEFINITION. Operations of the security die (R381 to R409): slots and their tags, the root secret, random
values, tokens, destruction, contexts and engines, tamper and the Perimeter.
-/
namespace Sys2Proof.Machine

/-- Change the security die. -/
def modKeys (f : KeyState → KeyState) (s : State) : State := { s with keys := f s.keys }

/-! ### Slots -/

/-- A key slot. -/
def slotOf (s : State) (n : Nat) : KeySlot := Sparse.get (fun _ => KeySlot.reset) s.keys.slots n

/-- Write a key slot. -/
def setSlot (n : Nat) (k : KeySlot) (s : State) : State :=
  modKeys (fun x => { x with slots := Sparse.set (fun _ => KeySlot.reset) x.slots n k }) s

/-- State of a slot (R381). -/
def SlotState.code : SlotState → Nat
  | .empty => 0 | .valid => 1 | .bad => 2

/-- OWNER of a slot: 0 HOST, 1 FIRMWARE, 2 TWIN. -/
def slotOwner (k : KeySlot) : Nat := bits k.attr.toNat 24 3

/-- TYPE of an attribute word: 0 AES-128, 1 AES-256, 2 SECRET-256. -/
def attrType (a : Nat) : Nat := bits a 27 2

/-- The life-cycle bit of LC_BIND. -/
def lcBit : LifeCycle → Nat
  | .manufacture => 1 | .provisioned => 2 | .deployed => 4 | .returned => 8 | .decommissioned => 0

/-- LC_BIND of an attribute word includes the life-cycle state. -/
def lcBound (a : Nat) (l : LifeCycle) : Bool := bits a 20 4 &&& lcBit l != 0

/-- The bytes of a slot's key: 16 of AES-128, 32 of the other types (R381). -/
def slotKey (k : KeySlot) : List Byte := if attrType k.attr.toNat = 0 then k.key.take 16 else k.key

/-- The tag of a slot (R383). -/
def slotTag (tagKey : List Byte) (n : Nat) (attr : W32) (key : List Byte) : List Byte :=
  (hmac256 tagKey (leBytes 2 n ++ leBytes 4 attr.toNat ++ padTo 32 key)).take 8

/-- The tag of a slot matches. -/
def tagOk (s : State) (n : Nat) : Bool :=
  let k := slotOf s n
  k.tag == slotTag s.keys.tagKey n k.attr k.key

/-- A key is written into a slot with its tag (R383). -/
def writeSlot (n : Nat) (attr : Nat) (key : List Byte) (s : State) : State :=
  let a := BitVec.ofNat 32 attr
  let key := padTo 32 key
  setSlot n { key, attr := a, tag := slotTag s.keys.tagKey n a key, state := .valid } s

/-- The locus of a slot (R383). -/
def slotLocus (n : Nat) : Nat := locusCode 3 1 0 (n / 32) (n % 32) 1023

/-- A slot whose tag does not match becomes BAD (R383). -/
def markBad (n : Nat) (s : State) : State :=
  let s := setSlot n { slotOf s n with state := .bad } s
  healthAdd (slotLocus n) 0x0040 3 (raiseLocus 0x0601 (BitVec.ofNat 32 (slotLocus n)) (leBytes 2 n) s)

/-- The tag is checked where the slot is loaded: true where it holds (R383). -/
def checkTag (n : Nat) (s : State) : Bool × State := if tagOk s n then (true, s) else (false, markBad n s)

/-- Why a command of an owner domain may not use a slot with the USAGE bits `usage` (R382, R383). -/
def slotRefusal (s : State) (n owner usage : Nat) : Option Status :=
  let k := slotOf s n
  if 1024 ≤ n ∨ k.state = .empty then some .notFound
  else if slotOwner k ≠ owner ∨ bits k.attr.toNat 0 8 &&& usage ≠ usage ∨ !lcBound k.attr.toNat s.mode.lifecycle then some .authFail
  else if k.state = .bad then some .internal
  else none

/-- A slot is loaded for use: the refusal that stands against it, after the check of its tag. -/
def loadSlot (n owner usage : Nat) (s : State) : Option Status × State :=
  match slotRefusal s n owner usage with
  | some st => (some st, s)
  | none =>
    let (ok, s) := checkTag n s
    (if ok then none else some .internal, s)

/-- A slot is destroyed: zeros, EMPTY (R391). -/
def eraseSlot (n : Nat) (s : State) : State := setSlot n KeySlot.reset s

/-- A slot survives a change to a life-cycle state (R391). -/
def survives (target : LifeCycle) (k : KeySlot) : Bool :=
  bit k.attr.toNat 19 && bit k.attr.toNat 18 && lcBound k.attr.toNat target

/-! ### Random values and the root secret -/

/-- The DRBG is reseeded from the entropy source after 2^20 requests (R385). -/
def reseed (d : Drbg) (s : State) : Drbg × State :=
  if d.requests < 2 ^ 20 then (d, s)
  else
    let (e, s) := drawFree (2 ^ 384) s
    ({ drbgUpdate (leBytes 48 e) d with requests := 0 }, s)

/-- `len` random bytes: the output of the DRBG (R385). -/
def randomBytes (len : Nat) (s : State) : List Byte × State :=
  match s.keys.drbg with
  | none => (zeros len, s)
  | some d =>
    let (d, s) := reseed d s
    let (out, d) := drbgGenerate len d
    (out, modKeys (fun k => { k with drbg := some d }) s)

/-- The salt of the root derivations: "Gobaix root" in ASCII (R385). -/
def rootSalt : List Byte := [0x47, 0x6F, 0x62, 0x61, 0x69, 0x78, 0x20, 0x72, 0x6F, 0x6F, 0x74]
/-- "slot tag" in ASCII. -/
def infoSlotTag : List Byte := [0x73, 0x6C, 0x6F, 0x74, 0x20, 0x74, 0x61, 0x67]
/-- "drbg seed" in ASCII. -/
def infoDrbgSeed : List Byte := [0x64, 0x72, 0x62, 0x67, 0x20, 0x73, 0x65, 0x65, 0x64]

/-- K_TAG and the DRBG are derived from the root secret (R385). -/
def deriveRoot (s : State) : State :=
  modKeys (fun k => { k with tagKey := hkdf rootSalt k.root infoSlotTag 32, drbg := some (drbgSeed (hkdf rootSalt k.root infoDrbgSeed 48)) }) s

/-- What a life-cycle change to `to` destroys (Table 15.5). -/
def destroyFor (target : LifeCycle) (s : State) : State :=
  modKeys (fun k =>
    match target with
    | .provisioned => { k with slots := [], root := zeros 64, destroyedFor := target }
    | .decommissioned => { k with slots := [], root := zeros 64, destroyedFor := target }
    | .manufacture => { k with destroyedFor := target }
    | .deployed => { k with slots := k.slots.filter (fun p => survives target p.2), destroyedFor := target }
    | .returned => { k with slots := k.slots.filter (fun p => survives target p.2), destroyedFor := target }) s

/-- The root secret is filled where the state has one and it is zero: every slot becomes EMPTY, and
where it was lost the event is due (R385, R386). -/
def fillRoot (s : State) : State :=
  let lc := s.mode.lifecycle
  if [LifeCycle.provisioned, .deployed, .returned].contains lc && allZero s.keys.root then
    let (v, s) := drawFree (2 ^ 512) s
    modKeys (fun k => { k with root := leBytes 64 v, slots := [], rootFilled := true,
                               regenerated := k.regenerated || k.rootFilled || decide (lc ≠ .provisioned) }) s
  else s

/-- The listed slots that are VALID. -/
def validSlots (s : State) : List Nat := (s.keys.slots.filter (fun p => p.2.state == .valid)).map (·.1)

/-- Every VALID slot is checked; the slots of `faulty` fail by a fault of the store (R383). -/
def checkSlots (faulty : List Nat) (s : State) : State :=
  (validSlots s).foldl (fun s n => if tagOk s n && !faulty.contains n then s else markBad n s) s

/-- The security die at a boot, before any key is used (R383, R385, R386, R392). -/
def keyBoot (s : State) : State :=
  let s := if s.keys.destroyedFor = s.mode.lifecycle then s else destroyFor s.mode.lifecycle s
  checkSlots [] (modKeys (fun k => { k with sweptAt := s.now }) (deriveRoot (fillRoot s)))

/-! ### Contexts and engines -/

/-- A host context. -/
def ctxOf (s : State) (n : Nat) : Option KeyCtx := Sparse.get (fun _ => none) s.keys.contexts n

/-- Write a host context. -/
def setCtx (n : Nat) (c : Option KeyCtx) (s : State) : State :=
  modKeys (fun k => { k with contexts := Sparse.set (fun _ => none) k.contexts n c }) s

/-- What an engine works on. -/
def engineOf (s : State) (e : Nat) : Option Segment := Sparse.get (fun _ => none) s.keys.engines e

/-- Write what an engine works on. -/
def setEngine (e : Nat) (g : Option Segment) (s : State) : State :=
  modKeys (fun k => { k with engines := Sparse.set (fun _ => none) k.engines e g }) s

/-- The engines of a kind (Table 15.8). -/
def enginesOf : EngineKind → List Nat
  | .aes => [0, 1] | .sha => [2, 3] | .pka => [4]

/-- The kind of an engine. -/
def engineKind (e : Nat) : EngineKind := if e < 2 then .aes else if e < 4 then .sha else .pka

/-- The segment that an engine takes: the highest priority, then the longest wait (R400). -/
def pickSegment (kind : EngineKind) (l : List Segment) : Option Segment :=
  let mine := l.filter (fun g => g.kind == kind)
  let top := mine.foldl (fun a g => min a g.prio) 4
  mine.find? (fun g => g.prio == top)

/-- Remove the first segment equal to `g`. -/
def dropSegment (g : Segment) : List Segment → List Segment
  | [] => []
  | x :: r => if x = g then r else x :: dropSegment g r

/-- An idle engine takes the next segment of its kind (R400). -/
def engineTake (e : Nat) (s : State) : State :=
  match engineOf s e, pickSegment (engineKind e) s.keys.segments with
  | none, some g => setEngine e (some g) (modKeys (fun k => { k with segments := dropSegment g k.segments }) s)
  | _, _ => s

/-- A segment is ready: it waits, and idle engines of its kind take segments. -/
def submitSegment (g : Segment) (s : State) : State :=
  (enginesOf g.kind).foldl (fun s e => engineTake e s) (modKeys (fun k => { k with segments := k.segments ++ [g] }) s)

/-- The context's segment ends; a context of an erased slot closes (R401). -/
def endCtxSegment (n : Nat) (s : State) : State :=
  match ctxOf s n with
  | some x => setCtx n (if x.closing then none else some { x with inSegment := false }) s
  | none => s

/-- The host contexts that `p` selects close. -/
def closeContexts (p : KeyCtx → Bool) (s : State) : State :=
  modKeys (fun k => { k with contexts := k.contexts.filter (fun e => match e.2 with | some x => !p x | none => false) }) s

/-- A queue leaves RUNNING: its contexts close (R399). -/
def closeQueueContexts (q : Nat) (s : State) : State := closeContexts (fun x => x.queue == q) s

/-- A slot is erased: the contexts that use it close, after the segment they are in (R401). -/
def closeSlotContexts (n : Nat) (s : State) : State :=
  let s := closeContexts (fun x => x.slot == some n && !x.inSegment) s
  modKeys (fun k => { k with contexts := k.contexts.map (fun e => (e.1, match e.2 with | some x => some { x with closing := x.closing || x.slot == some n } | none => none)) }) s

/-! ### Tokens (R388, R389) -/

/-- The digest of an authority entry. -/
def authority (s : State) (n : Nat) : List Byte := Sparse.get (fun _ => unsetAuthority) s.keys.authorities n

/-- The authority entry of a token's AUTHORITY code. -/
def authorityOf (code : Nat) : Nat := if code = 1 then 0 else 1

/-- The signature of a token over its bytes 0 to 79 verifies. -/
def tokenSig (t : List Byte) : Bool :=
  let pub := slice t 80 97
  let sig := slice t 177 96
  if byteAt t 5 = 1 then ecdsaVerify p256 (pub.take 65) (sha256 (t.take 80)) (sig.take 64)
  else if byteAt t 5 = 2 then ecdsaVerify p384 pub (sha384 (t.take 80)) sig
  else false

/-- A token passes every check for an opcode and the authorities permitted (R389): 1 MFG, 2 OWNER. -/
def tokenValid (s : State) (opcode : Nat) (permitted : List Nat) (req : List Byte) : Bool :=
  let base := req.length - 280
  let t := req.drop base
  let entry := authority s (authorityOf (byteAt t 4))
  decide (280 ≤ req.length) && decide (fld t 0 2 = 1) && decide (fld t 2 2 = opcode)
    && decide (fld t 8 8 = s.fuses.deviceUid.toNat)
    && (match s.keys.nonce with | some (n, _) => slice t 16 16 == n | none => false)
    && slice t 32 48 == sha384 (req.take base)
    && permitted.contains (byteAt t 4)
    && entry != unsetAuthority && sha384 (slice t 80 97) == entry
    && tokenSig t

/-- Check the token of a guarded command: the nonce is consumed either way (R389). -/
def checkToken (opcode : Nat) (permitted : List Nat) (req : List Byte) (s : State) : Bool × State :=
  (tokenValid s opcode permitted req, modKeys (fun k => { k with nonce := none }) s)

/-! ### Tamper (R393 to R396) -/

/-- Slow-clock time: the battery-domain clock in periods of 32.768 kHz (R361, R396; log 24). -/
def slowTime (s : State) : Nat :=
  match s.time.mer.battery with
  | some (v, t) => v + (s.now - t) * 32768 / secTicks
  | none => s.now * 32768 / secTicks

/-- A declaration is latched. -/
def latchTamper (sensor : Nat) (zero : Bool) (s : State) : State :=
  modKeys (fun k =>
    let l := k.latch
    { k with latch := { causes := l.causes ||| 2 ^ sensor, zeroized := if zero then l.zeroized ||| 2 ^ sensor else l.zeroized,
                        time := if l.count = 0 then slowTime s else l.time, count := min 255 (l.count + 1) } }) s

/-- Steps 1 to 5 of Table 15.7: the root secret, every slot, context, the DRBG and every key cache are
zeroed, and the latch is written. -/
def zeroize (sensor : Nat) (s : State) : State :=
  let s := modKeys (fun k => { k with root := zeros 64, slots := [], contexts := [], tagKey := zeros 32, drbg := none, caches := [] }) s
  latchTamper sensor true s

/-- How a declaration is answered: 0 nothing, 1 a report, 2 zeroization (R394). -/
def tamperAnswer (s : State) (sensor : Nat) : Nat :=
  match s.mode.lifecycle with
  | .manufacture => 1
  | .decommissioned => 0
  | .provisioned => if sensor = 1 then s.keys.lidAction else 2
  | .deployed => if sensor = 1 then s.keys.lidAction else 2
  | .returned => if sensor = 1 then s.keys.lidAction else 2

/-- KEY_TAMPER, at each entry to CONFIG while the latch holds a zeroizing cause (R396); before it,
KEY_ROOT_REGENERATED where it is due (R386). -/
def keyConfigEntry (s : State) : State :=
  let l := s.keys.latch
  let s := if s.keys.regenerated then raise 0x0602 (leBytes 1 l.causes) (modKeys (fun k => { k with regenerated := false }) s) else s
  if l.zeroized = 0 then s
  else raise 0x0604 (leBytes 1 l.causes ++ leBytes 1 l.zeroized ++ leBytes 1 l.count ++ zeros 5 ++ leBytes 8 l.time) s

/-! ### The Perimeter (R405 to R408) -/

/-- A Perimeter descriptor as a number of 128 bits (Table 15.12). -/
def perimRegion (s : State) (i : Nat) : Nat := Sparse.get (fun _ => 0) s.keys.perim.regions i

/-- The boot code builds the Perimeter from the region table of the image and locks it (R406). -/
def lockPerimeter (table : List Nat) (s : State) : State :=
  modKeys (fun k =>
    { k with perim := { k.perim with regions := Sparse.setRun (fun _ => 0) [] 0 ((table.take 32).map (fun v => v % 2 ^ 105)), lock := true } }) s

/-! ### Reset -/

/-- What a reset does to the security die (R384, R399, R401, R406, R409). -/
def keyReset (s : State) : State :=
  modKeys (fun k =>
    { k with slots := k.slots.filter (fun p => bit p.2.attr.toNat 19), drbg := none, nonce := none, contexts := [], engines := [],
             segments := [], caches := [], unlocked := 0, perim := PerimState.reset, katFailed := false }) s

/-- The battery domain loses its supply: its contents are gone (R384, R385). -/
def keyBatteryLost (s : State) : State :=
  modKeys (fun k => { k with root := zeros 64, slots := [], lidAction := 1, lidFilter := 20, latch := TamperLatch.reset, destroyedFor := s.mode.lifecycle }) s

/-! ### Wrapped keys (R404) -/

/-- The wrapped blob of a key (Table 15.11). -/
def wrapBlob (wrapKey : List Byte) (attr : Nat) (key : List Byte) : List Byte :=
  leBytes 1 1 ++ zeros 3 ++ leBytes 4 attr ++ keyWrap wrapKey (padTo 32 key ++ leBytes 4 attr ++ zeros 4)

/-- The attribute word and key of a blob; none where the integrity check fails or the words differ. -/
def unwrapBlob (wrapKey blob : List Byte) : Option (Nat × List Byte) :=
  match keyUnwrap wrapKey (slice blob 8 48) with
  | some p => if fld p 32 4 = fld blob 4 4 then some (fld p 32 4, p.take 32) else none
  | none => none

/-- Why a slot may not wrap for an owner (R382, R404). -/
def wrapRefusal (s : State) (n owner : Nat) : Option Status :=
  match slotRefusal s n owner 0x40 with
  | some st => some st
  | none => if attrType (slotOf s n).attr.toNat = 1 then none else some .authFail

/-- A HOST slot that may leave is replicated to the twin under slot 1023 when it is created (R428, R430). -/
def replicateSlot (n : Nat) (s : State) : State :=
  let k := slotOf s n
  if slotOwner k = 0 ∧ k.state = .valid ∧ bit k.attr.toNat 17 ∧ (wrapRefusal s 1023 2).isNone then
    replicate 0x12 0 (leBytes 2 n ++ leBytes 2 1 ++ wrapBlob (slotOf s 1023).key k.attr.toNat k.key) s
  else s

/-- The erasure of such a slot is replicated too (Table 16.5). -/
def replicateErase (n : Nat) (k : KeySlot) (s : State) : State :=
  if slotOwner k = 0 ∧ bit k.attr.toNat 17 then replicate 0x12 0 (leBytes 2 n ++ leBytes 2 2) s else s

end Sys2Proof.Machine
end

