-- ==== Sys2Proof/Machine/KeyCmd.lean ====
section
/-!
DEFINITION. Meanings of the key commands (family 0x06, R402 to R404, R485) and of the events of the
security die.
-/
namespace Sys2Proof.Machine

/-- Every key command completes with INTERNAL after a failed known-answer test (R409). -/
def keyCmd (h : Cmd → State → Answer) (c : Cmd) (s : State) : Answer :=
  if s.keys.katFailed then .fail .internal 0 s else h c s

/-- The bits of an attribute word that are not reserved (Table 15.1). -/
def attrMask : Nat := 0x1FFE00FF

/-- The attribute word of a request at an offset. -/
def reqAttr (r : List Byte) (off : Nat) : Nat := fld r off 4 &&& attrMask

/-- The refusal of a target slot: it must be a slot, and EMPTY (R403). -/
def targetRefusal (s : State) (n : Nat) : Option (Status × Nat) :=
  if 1024 ≤ n then some (.notFound, 0) else if (slotOf s n).state = .empty then none else some (.modeRefused, 1)

/-- Host software creates HOST slots only (R403). -/
def hostAttr (a : Nat) : Bool := bits a 24 3 == 0

/-- Write a new slot and replicate it. -/
def createSlot (n a : Nat) (key : List Byte) (s : State) : State := replicateSlot n (writeSlot n a key s)

/-- The length of a key of a type. -/
def keyLen (a : Nat) : Nat := if attrType a = 0 then 16 else 32

/-! ### Slots -/

/-- KEY_SLOT_INFO (R381); a slot that is EMPTY, or that does not exist, is NOT_FOUND (R382). -/
def keySlotInfo (c : Cmd) (s : State) : Answer :=
  let n := fld c.req 0 2
  let k := slotOf s n
  if 1024 ≤ n ∨ k.state = .empty then .fail .notFound 0 s
  else
    .ok (leBytes 1 k.state.code ++ leBytes 1 (slotOwner k) ++ zeros 2 ++ leBytes 4 k.attr.toNat) s

/-- KEY_GENERATE (R402, R403). -/
def keyGenerate (c : Cmd) (s : State) : Answer :=
  let n := fld c.req 0 2
  let a := reqAttr c.req 4
  match targetRefusal s n with
  | some (st, d) => .fail st d s
  | none =>
    if attrType a = 3 then .bad 4 s
    else if !hostAttr a then .fail .authFail 0 s
    else
      let (k, s) := randomBytes (keyLen a) s
      .ok [] (createSlot n a k s)

/-- KEY_IMPORT_PLAIN (R403): with an OWNER token in DEPLOYED, refused in RETURNED. -/
def keyImportPlain (c : Cmd) (s : State) : Answer :=
  let n := fld c.req 0 2
  let a := reqAttr c.req 4
  if s.mode.lifecycle = .returned then .fail .modeRefused 0 s
  else
    match targetRefusal s n with
    | some (st, d) => .fail st d s
    | none =>
      if attrType a = 3 then .bad 4 s
      else if !hostAttr a then .fail .authFail 0 s
      else
        let (ok, s) := if s.mode.lifecycle = .deployed then checkToken c.opcode [2] c.req s else (true, s)
        if ok then .ok [] (createSlot n a ((slice c.req 8 32).take (keyLen a)) s) else .fail .authFail 0 s

/-- The narrowing mask of an import clears bits of USAGE, LC_BIND, PERSIST, SURVIVE and EXPORT_WRAPPED (R404). -/
def narrow (a mask : Nat) : Nat := a &&& (mask ||| (attrMask - 0xFE00FF))

/-- KEY_IMPORT_WRAPPED (R404). -/
def keyImportWrapped (c : Cmd) (s : State) : Answer :=
  let n := fld c.req 0 2
  let w := fld c.req 2 2
  match targetRefusal s n with
  | some (st, d) => .fail st d s
  | none =>
    match loadSlot w 0 0x80 s with
    | (some st, s) => .fail st 0 s
    | (none, s) =>
      if byteAt c.req 8 ≠ 1 then .bad 8 s
      else if attrType (slotOf s w).attr.toNat ≠ 1 then .fail .authFail 0 s
      else
        match unwrapBlob (slotOf s w).key (slice c.req 8 56) with
        | none => .fail .authFail 0 s
        | some (a, k) =>
          let a := a &&& attrMask
          if attrType a = 3 ∨ !hostAttr a then .fail .authFail 0 s
          else .ok [] (createSlot n (narrow a (fld c.req 4 4)) (k.take (keyLen a)) s)

/-- KEY_EXPORT_WRAPPED (R404). -/
def keyExportWrapped (c : Cmd) (s : State) : Answer :=
  let n := fld c.req 0 2
  let w := fld c.req 2 2
  match loadSlot n 0 0 s with
  | (some st, s) => .fail st 0 s
  | (none, s) =>
    match wrapRefusal s w 0 with
    | some st => .fail st 0 s
    | none =>
      if !bit (slotOf s n).attr.toNat 17 then .fail .authFail 0 s
      else
        match checkTag w s with
        | (false, s) => .fail .internal 0 s
        | (true, s) => .ok (wrapBlob (slotOf s w).key (slotOf s n).attr.toNat (slotOf s n).key) s

/-- The attributes of a derived key do not widen the source's (R403). -/
def narrower (a src : Nat) : Bool :=
  let m := bits a 0 8 + bits a 20 4 * 2 ^ 20 + bits a 17 2 * 2 ^ 17
  m &&& src == m

/-- KEY_DERIVE (R403). -/
def keyDerive (c : Cmd) (s : State) : Answer :=
  let r := c.req
  let src := fld r 0 2
  let n := fld r 2 2
  let a := reqAttr r 4
  let len := byteAt r 8
  if len ≠ 16 ∧ len ≠ 32 then .bad 8 s
  else if 64 < byteAt r 9 then .bad 9 s
  else if 64 < byteAt r 10 then .bad 10 s
  else if attrType a = 3 ∨ keyLen a ≠ len then .bad 4 s
  else
    match targetRefusal s n with
    | some (st, d) => .fail st d s
    | none =>
      if !hostAttr a then .fail .authFail 0 s
      else
        match loadSlot src 0 0x10 s with
        | (some st, s) => .fail st 0 s
        | (none, s) =>
          let k := slotOf s src
          if !narrower a k.attr.toNat then .fail .authFail 0 s
          else .ok [] (createSlot n a (hkdf (slice r 12 (byteAt r 9)) (slotKey k) (slice r (12 + byteAt r 9) (byteAt r 10)) len) s)

/-- A slot is named as a master slot by the live MESH_SECURITY (R206, R401). -/
def masterSlot (s : State) (n : Nat) : Bool := cfgNat s 0x0822 1 0 == n || cfgNat s 0x0822 2 0 == n

/-- KEY_ERASE (R401). -/
def keyErase (c : Cmd) (s : State) : Answer :=
  let n := fld c.req 0 2
  let k := slotOf s n
  if 1024 ≤ n ∨ k.state = .empty then .fail .notFound 0 s
  else if slotOwner k ≠ 0 then .fail .authFail 0 s
  else if masterSlot s n then .fail .modeRefused 1 s
  else .ok [] (replicateErase n k (closeSlotContexts n (eraseSlot n s)))

/-! ### Contexts -/

/-- The USAGE bits of an operation (R485); none for digests and verifications. -/
def opUsage (op : Nat) : Option Nat :=
  match op with
  | 3 => some 8 | 4 => some 8 | 5 => some 1 | 6 => some 2 | 7 => some 2 | 8 => some 4 | _ => none

/-- The engines that take an operation's message. -/
def opKind (op : Nat) : EngineKind := if 5 ≤ op ∧ op ≤ 8 then .aes else .sha

/-- The operation is CCM. -/
def opCcm (op : Nat) : Bool := op == 6 || op == 7

/-- The lengths of CCM: the tag 0 or an even number from 4 to 16, the nonce 7 to 13 (RFC 3610, CCM*). -/
def ccmTagLen (m : Nat) : Bool := m == 0 || (decide (4 ≤ m) && decide (m ≤ 16) && m % 2 == 0)

/-- The lowest free context of 2 to 7. -/
def freeContext (s : State) : Option Nat := [2, 3, 4, 5, 6, 7].find? (fun n => (ctxOf s n).isNone)

/-- The context of a KEY_CTX_OPEN. -/
def newContext (c : Cmd) (slot : Option Nat) (key : List Byte) (s : State) : KeyCtx :=
  { queue := c.queue, op := byteAt c.req 0, slot, key, prio := byteAt c.req 1, tagLen := byteAt c.req 4,
    nonce := if opCcm (byteAt c.req 0) then slice c.req 8 (byteAt c.req 5) else slice c.req 8 16, message := [], inSegment := false,
    closing := false, lastAt := s.now }

/-- A context is opened on a key, or BUSY (R399). -/
def openContext (c : Cmd) (slot : Option Nat) (key : List Byte) (s : State) : Answer :=
  match freeContext s with
  | some n => .ok (leBytes 4 n) (setCtx n (some (newContext c slot key s)) s)
  | none => .fail .busy 0 s

/-- KEY_CTX_OPEN (R399, R485). -/
def keyCtxOpen (c : Cmd) (s : State) : Answer :=
  let op := byteAt c.req 0
  let n := fld c.req 2 2
  if op = 0 ∨ 10 < op then .bad 0 s
  else if byteAt c.req 1 ≠ 2 ∧ byteAt c.req 1 ≠ 3 then .bad 1 s
  else if opCcm op ∧ !ccmTagLen (byteAt c.req 4) then .bad 4 s
  else if opCcm op ∧ (byteAt c.req 5 < 7 ∨ 13 < byteAt c.req 5) then .bad 5 s
  else
    match opUsage op with
    | none => if n = 0xFFFF then openContext c none [] s else .bad 2 s
    | some u =>
      match loadSlot n 0 u s with
      | (some st, s) => .fail st 0 s
      | (none, s) =>
        if opKind op = .aes ∧ attrType (slotOf s n).attr.toNat = 2 then .fail .authFail 0 s
        else openContext c (some n) (slotKey (slotOf s n)) s

/-- The open context that a command of a queue names (R399). -/
def namedContext (c : Cmd) (s : State) : Option KeyCtx :=
  match ctxOf s (byteAt c.req 0) with
  | some x => if x.queue = c.queue ∧ !x.closing then some x else none
  | none => none

/-- The output of an UPDATE, and the message with it: CCM decryption keeps the plaintext. -/
def ctxOutput (x : KeyCtx) (data : List Byte) : List Byte × List Byte :=
  if x.op = 5 then
    (aesCtr x.key x.nonce x.message.length data, x.message ++ data)
  else if x.op = 6 then
    (aesCtr x.key (ccmCounter x.nonce 1) x.message.length data, x.message ++ data)
  else if x.op = 7 then
    let plain := aesCtr x.key (ccmCounter x.nonce 1) x.message.length data
    (plain, x.message ++ plain)
  else ([], x.message ++ data)

/-- The message that CCM can still take: its length field has 15 - N bytes. -/
def ccmRoom (x : KeyCtx) (n : Nat) : Bool := !opCcm x.op || decide (x.message.length + n < 2 ^ (8 * (15 - x.nonce.length)))

/-- KEY_CTX_UPDATE (R400): one segment, at whose end the command completes. -/
def keyCtxUpdate (c : Cmd) (s : State) : Answer :=
  match namedContext c s with
  | none => .fail .notFound 0 s
  | some x =>
    let data := c.req.drop 4
    if !ccmRoom x data.length then .bad 4 s
    else
      let (out, msg) := ctxOutput x data
      let n := byteAt c.req 0
      let s := setCtx n (some { x with message := msg, inSegment := true, lastAt := s.now }) s
      .wait (submitSegment { kind := opKind x.op, prio := x.prio, ctx := n, cmd := some (c, out), derive := none } s)

/-- The encrypted MAC of a CCM message. -/
def ctxTag (x : KeyCtx) : List Byte := (ccmEncrypt x.key x.nonce [] x.message x.tagLen).2

/-- The reply of KEY_CTX_FINAL but for verifications (R485). -/
def ctxResult (x : KeyCtx) (expected : List Byte) : List Byte :=
  match x.op with
  | 1 => sha256 x.message
  | 2 => sha384 x.message
  | 3 => hmac256 x.key x.message
  | 4 => hmac384 x.key x.message
  | 5 => []
  | 6 => ctxTag x
  | 7 => leBytes 4 (b2n (ctxTag x == expected))
  | 8 => aesCmac x.key x.message
  | 9 => leBytes 4 (b2n (ecdsaVerify p256 (slice expected 64 65) (sha256 x.message) (expected.take 64)))
  | _ => leBytes 4 (b2n (ecdsaVerify p384 (slice expected 96 97) (sha384 x.message) (expected.take 96)))

/-- The bytes that follow the context number in KEY_CTX_FINAL. -/
def finalLen (x : KeyCtx) : Nat := match x.op with | 7 => x.tagLen | 9 => 129 | 10 => 193 | _ => 0

/-- KEY_CTX_FINAL (R399): the context closes. A verification is one segment of the PKA (R400). -/
def keyCtxFinal (c : Cmd) (s : State) : Answer :=
  match namedContext c s with
  | none => .fail .notFound 0 s
  | some x =>
    if c.req.length ≠ 4 + finalLen x then .fail .lenError 0 s
    else
      let r := ctxResult x (c.req.drop 4)
      let s := setCtx (byteAt c.req 0) none s
      if 9 ≤ x.op then
        .wait (submitSegment { kind := .pka, prio := x.prio, ctx := byteAt c.req 0, cmd := some (c, r), derive := none } s)
      else .ok r s

/-- KEY_CTX_CLOSE (R399). -/
def keyCtxClose (c : Cmd) (s : State) : Answer :=
  match namedContext c s with
  | none => .fail .notFound 0 s
  | some _ => .ok [] (setCtx (byteAt c.req 0) none s)

/-! ### Authorization -/

/-- KEY_AUTH_NONCE (R389). -/
def keyAuthNonce (_ : Cmd) (s : State) : Answer :=
  let (n, s) := randomBytes 16 s
  .ok (leBytes 8 s.fuses.deviceUid.toNat ++ n) (modKeys (fun k => { k with nonce := some (n, s.now) }) s)

/-- The IMG entries that are set and not revoked, as a map. -/
def usableImages (s : State) (revoked : Nat) : Nat :=
  bitMap ((List.range 4).filter (fun i => authority s (16 + i) != unsetAuthority && !bit revoked i))

/-- Burn an authority entry from a public key field. -/
def burn (entry : Nat) (pub : List Byte) (s : State) : State :=
  modKeys (fun k => { k with authorities := Sparse.set (fun _ => unsetAuthority) k.authorities entry (sha384 pub) }) s

/-- KEY_AUTHORITY_SET (R387). -/
def keyAuthoritySet (c : Cmd) (s : State) : Answer :=
  let e := byteAt c.req 0
  let pub := slice c.req 8 97
  if e = 0x10 then
    if s.mode.lifecycle ≠ .manufacture ∨ authority s 1 ≠ unsetAuthority then .fail .modeRefused 0 s else .ok [] (burn 1 pub s)
  else if e = 0x11 then
    if s.mode.lifecycle ≠ .provisioned ∨ authority s 2 ≠ unsetAuthority then .fail .modeRefused 0 s
    else
      match checkToken c.opcode [2] c.req s with
      | (true, s) => .ok [] (burn 2 pub s)
      | (false, s) => .fail .authFail 0 s
  else if 0x20 ≤ e ∧ e < 0x24 then
    let revoked := s.keys.revoked ||| 2 ^ (e - 0x20)
    if usableImages s revoked = 0 then .fail .modeRefused 0 s
    else
      match checkToken c.opcode [1, 2] c.req s with
      | (true, s) => .ok [] (modKeys (fun k => { k with revoked }) s)
      | (false, s) => .fail .authFail 0 s
  else .bad 0 s

/-- The authorities that may unlock debug in a life-cycle state (Table 15.4, Table 15.14). -/
def unlockAuthorities : LifeCycle → Option (List Nat)
  | .provisioned => some [2] | .returned => some [1, 2] | .manufacture => none | .deployed => none | .decommissioned => none

/-- KEY_DEBUG_UNLOCK (R409). -/
def keyDebugUnlock (c : Cmd) (s : State) : Answer :=
  match unlockAuthorities s.mode.lifecycle with
  | none => .fail .modeRefused 0 s
  | some l =>
    match checkToken c.opcode l c.req s with
    | (true, s) => .ok [] (modKeys (fun k => { k with unlocked := k.unlocked ||| (byteAt c.req 0 % 4) }) s)
    | (false, s) => .fail .authFail 0 s

/-! ### Tamper and the Perimeter -/

/-- KEY_TAMPER_CFG_SET (R394). -/
def keyTamperCfgSet (c : Cmd) (s : State) : Answer :=
  let a := byteAt c.req 0
  let f := byteAt c.req 1
  if 2 < a then .bad 0 s
  else if 100 < f then .bad 1 s
  else
    let (ok, s) := if a < s.keys.lidAction ∨ s.keys.lidFilter < f then checkToken c.opcode [2] c.req s else (true, s)
    if ok then .ok [] (modKeys (fun k => { k with lidAction := a, lidFilter := f }) s) else .fail .authFail 0 s

/-- KEY_TAMPER_STATUS (R396). -/
def keyTamperStatus (c : Cmd) (s : State) : Answer :=
  let l := s.keys.latch
  .ok (leBytes 1 l.causes ++ leBytes 1 l.zeroized ++ leBytes 1 l.count ++ leBytes 1 s.keys.sensors ++ zeros 4 ++ leBytes 8 l.time)
    (if bit (byteAt c.req 0) 0 then modKeys (fun k => { k with latch := TamperLatch.reset }) s else s)

/-- The bytes of a logged violation (log 25). -/
def PerimRec.bytes (r : PerimRec) : List Byte :=
  leBytes 1 r.cls ++ leBytes 1 (b2n r.write) ++ zeros 2 ++ leBytes 4 r.nanos ++ leBytes 6 r.seconds ++ zeros 2 ++ leBytes 8 r.addr

/-- KEY_PERIMETER_GET (R406). -/
def perimBytes (s : State) : List Byte :=
  let p := s.keys.perim
  ((List.range 32).map (fun i => leBytes 16 (perimRegion s i))).flatten
    ++ leBytes 1 (b2n p.lock) ++ zeros 1 ++ leBytes 2 p.lockedWrite ++ leBytes 4 p.violations
    ++ padTo 384 (p.log.map PerimRec.bytes).flatten

/-! ### Rows of the table -/

/-- The length of a request that may end in a token. -/
def lenToken (n : Nat) (r : List Byte) : Bool := decide (r.length = n) || decide (r.length = n + 280)

/-- An opcode accepted in ALL with the length rule given. -/
def opLen (code : Nat) (len : List Byte → Bool) : Op := { code, modes := modesAll, len, read := false }

/-- KEY_SLOT_INFO -/
def execKeySlotInfo (e : Entry) : State → Host.Outcome State Fault Refusal := mailbox (opAll 0x0601 2) (keyCmd keySlotInfo) e
/-- KEY_GENERATE -/
def execKeyGenerate (e : Entry) : State → Host.Outcome State Fault Refusal := mailbox (opAll 0x0602 8) (keyCmd keyGenerate) e
/-- KEY_IMPORT_PLAIN -/
def execKeyImportPlain (e : Entry) : State → Host.Outcome State Fault Refusal :=
  mailbox (opLen 0x0603 (lenToken 40)) (keyCmd keyImportPlain) e
/-- KEY_IMPORT_WRAPPED -/
def execKeyImportWrapped (e : Entry) : State → Host.Outcome State Fault Refusal :=
  mailbox (opAll 0x0604 64) (keyCmd keyImportWrapped) e
/-- KEY_EXPORT_WRAPPED -/
def execKeyExportWrapped (e : Entry) : State → Host.Outcome State Fault Refusal :=
  mailbox (opAll 0x0605 4) (keyCmd keyExportWrapped) e
/-- KEY_DERIVE -/
def execKeyDerive (e : Entry) : State → Host.Outcome State Fault Refusal :=
  mailbox (opLen 0x0606 (fun r => decide (12 ≤ r.length) && decide (r.length = 12 + byteAt r 9 + byteAt r 10))) (keyCmd keyDerive) e
/-- KEY_ERASE -/
def execKeyErase (e : Entry) : State → Host.Outcome State Fault Refusal := mailbox (opAll 0x0607 2) (keyCmd keyErase) e
/-- KEY_CTX_OPEN -/
def execKeyCtxOpen (e : Entry) : State → Host.Outcome State Fault Refusal := mailbox (opAll 0x0608 24) (keyCmd keyCtxOpen) e
/-- KEY_CTX_UPDATE -/
def execKeyCtxUpdate (e : Entry) : State → Host.Outcome State Fault Refusal :=
  mailbox (opLen 0x0609 (fun r => decide (4 ≤ r.length))) (keyCmd keyCtxUpdate) e
/-- KEY_CTX_FINAL -/
def execKeyCtxFinal (e : Entry) : State → Host.Outcome State Fault Refusal :=
  mailbox (opLen 0x060A (fun r => decide (4 ≤ r.length))) (keyCmd keyCtxFinal) e
/-- KEY_CTX_CLOSE -/
def execKeyCtxClose (e : Entry) : State → Host.Outcome State Fault Refusal := mailbox (opAll 0x060B 1) (keyCmd keyCtxClose) e
/-- KEY_AUTH_NONCE -/
def execKeyAuthNonce (e : Entry) : State → Host.Outcome State Fault Refusal := mailbox (opAll 0x060C 0) (keyCmd keyAuthNonce) e
/-- KEY_AUTHORITY_SET -/
def execKeyAuthoritySet (e : Entry) : State → Host.Outcome State Fault Refusal :=
  mailbox (opLen 0x060D (lenToken 105)) (keyCmd keyAuthoritySet) e
/-- KEY_TAMPER_CFG_SET -/
def execKeyTamperCfgSet (e : Entry) : State → Host.Outcome State Fault Refusal :=
  mailbox (opLen 0x060E (lenToken 8)) (keyCmd keyTamperCfgSet) e
/-- KEY_TAMPER_STATUS -/
def execKeyTamperStatus (e : Entry) : State → Host.Outcome State Fault Refusal :=
  mailbox { opAll 0x060F 1 with read := true } (keyCmd keyTamperStatus) e
/-- KEY_PERIMETER_GET -/
def execKeyPerimeterGet (e : Entry) : State → Host.Outcome State Fault Refusal :=
  mailbox (opRead 0x0610 0) (keyCmd (fun _ s => .ok (perimBytes s) s)) e
/-- KEY_DEBUG_UNLOCK -/
def execKeyDebugUnlock (e : Entry) : State → Host.Outcome State Fault Refusal :=
  mailbox (opAll 0x0611 288) (keyCmd keyDebugUnlock) e

/-! ### Events -/

/-- KEY_SLOT_SWEEP (R383): every VALID slot is checked once every 24 h; `faulty` are the slots whose
contents a fault of the key store has changed. -/
def keySlotSweep (faulty : List Nat) (s : State) : State :=
  if s.keys.sweptAt + 86400 * secTicks ≤ s.now then checkSlots faulty (modKeys (fun k => { k with sweptAt := s.now }) s) else s

/-- KEY_SLOT_SWEEP -/
def execKeySlotSweep (dt : Nat) (faulty : List Nat) : State → Host.Outcome State Fault Refusal := event dt (keySlotSweep faulty)

/-- TAMPER_DECLARATION (R394, R395): `live` is the map of the sensors whose condition holds. -/
def tamperDeclaration (sensor live : Nat) (s : State) : State :=
  let s := modKeys (fun k => { k with sensors := live % 32 }) s
  if 5 ≤ sensor ∨ !(s.power.vddIo || s.power.vbat) then s
  else
    match tamperAnswer s sensor with
    | 0 => s
    | 1 => raise 0x0603 (leBytes 1 sensor) (latchTamper sensor false s)
    | _ =>
      let s := zeroize sensor s
      if alive s then fatal 0x04 noLocus.toNat s else s

/-- TAMPER_DECLARATION: the sensors run on VBAT too. -/
def execTamperDeclaration (dt sensor live : Nat) : State → Host.Outcome State Fault Refusal :=
  occur dt (tamperDeclaration sensor live)

/-- KEY_CTX_TIMEOUT (R399): a context with no command for 10 s closes. -/
def keyCtxTimeout (n : Nat) (s : State) : State :=
  match ctxOf s n with
  | some x =>
    if !x.inSegment ∧ x.lastAt + 10 * secTicks ≤ s.now then raise 0x0605 (leBytes 1 n ++ leBytes 1 x.queue) (setCtx n none s) else s
  | none => s

/-- KEY_CTX_TIMEOUT -/
def execKeyCtxTimeout (dt n : Nat) : State → Host.Outcome State Fault Refusal := event dt (keyCtxTimeout n)

/-- AUTH_NONCE_EXPIRY (R389): the nonce lapses after 600 s. -/
def authNonceExpiry (s : State) : State :=
  match s.keys.nonce with
  | some (_, t) => if t + 600 * secTicks ≤ s.now then modKeys (fun k => { k with nonce := none }) s else s
  | none => s

/-- AUTH_NONCE_EXPIRY -/
def execAuthNonceExpiry (dt : Nat) : State → Host.Outcome State Fault Refusal := event dt authNonceExpiry

/-- The command of a segment completes at its end. -/
def completeSegment (g : Segment) (s : State) : State :=
  match g.cmd with
  | some (c, r) => if s.mode.mode.mailboxes then complete c .ok 0 r (endCtxSegment g.ctx s) else s
  | none => s

/-- ENGINE_SEGMENT_END (R400): the segment of a host context ends on engine `e`, which takes the next one. -/
def engineSegmentEnd (e : Nat) (s : State) : State :=
  match engineOf s e with
  | some g => if g.derive.isNone then engineTake e (completeSegment g (setEngine e none s)) else s
  | none => s

/-- ENGINE_SEGMENT_END -/
def execEngineSegmentEnd (dt engine : Nat) : State → Host.Outcome State Fault Refusal := event dt (engineSegmentEnd engine)

end Sys2Proof.Machine
end

