-- ==== Sys2Proof/Machine/Node.lean ====
section
/-!
DEFINITION. The node table: records and their CHECK (R201 to R204), addresses, the owning Facet (R12),
node keys and their caches (R207 to R209), outgoing counters and leases (R218 to R221), and the
restoration of a record (R203).
-/
namespace Sys2Proof.Machine

/-- Change the mesh. -/
def modMesh (f : MeshState → MeshState) (s : State) : State := { s with mesh := f s.mesh }

/-! ### The layout of a record -/

/-- A sum of fields, each at its lowest bit. -/
def packFields (l : List (Nat × Nat)) : Nat := l.foldl (fun a p => a + p.2 * 2 ^ p.1) 0

/-- The drift state as a number of 224 bits (Table 7.4). -/
def Drift.word (d : Drift) : Nat :=
  packFields [(0, ofSigned 40 d.x), (40, ofSigned 32 d.rate), (72, ofSigned 32 d.accel), (104, d.tLast % 2 ^ 40), (144, d.spread % 2 ^ 16),
    (160, d.rspread % 2 ^ 16), (176, d.n % 16), (180, d.outliers % 4), (182, d.misses % 8), (185, b2n d.tcPending), (186, b2n d.sync),
    (187, ofSigned 12 d.pendTc), (199, d.best % 8), (202, d.alt % 8)]

/-- The drift state that a number spells. -/
def driftOfWord (v : Nat) : Drift :=
  { x := toSigned 40 (bits v 0 40), rate := toSigned 32 (bits v 40 32), accel := toSigned 32 (bits v 72 32), tLast := bits v 104 40,
    spread := bits v 144 16, rspread := bits v 160 16, n := bits v 176 4, outliers := bits v 180 2, misses := bits v 182 3,
    tcPending := bit v 185, sync := bit v 186, pendTc := toSigned 12 (bits v 187 12), best := bits v 199 3, alt := bits v 202 3 }

/-- A record as a number of 512 bits (Table 8.1). -/
def NodeRec.word (r : NodeRec) : Nat :=
  packFields [(0, r.eui.toNat), (64, r.rxFc.toNat), (96, r.rxBitmap.toNat), (160, r.txFc.toNat), (192, r.txLease % 2 ^ 20),
    (212, r.keyGen.toNat), (220, b2n r.rekey), (221, b2n r.gobaix), (222, r.secMin % 8), (225, r.state % 8), (228, ofSigned 8 r.rssi),
    (236, r.evm % 128), (243, r.rxFrames.toNat), (259, r.secFails % 256), (272, r.check.toNat), (288, r.drift.word)]

/-- The 64 bytes of a record. -/
def NodeRec.bytes (r : NodeRec) : List Byte := leBytes 64 r.word

/-- The record that 64 bytes spell. -/
def recordOf (l : List Byte) : NodeRec :=
  let v := leNat l
  { eui := BitVec.ofNat 64 (bits v 0 64), rxFc := BitVec.ofNat 32 (bits v 64 32), rxBitmap := BitVec.ofNat 64 (bits v 96 64),
    txFc := BitVec.ofNat 32 (bits v 160 32), txLease := bits v 192 20, keyGen := BitVec.ofNat 8 (bits v 212 8), rekey := bit v 220,
    gobaix := bit v 221, secMin := bits v 222 3, state := bits v 225 3, rssi := toSigned 8 (bits v 228 8), evm := bits v 236 7,
    rxFrames := BitVec.ofNat 16 (bits v 243 16), secFails := bits v 259 8, check := BitVec.ofNat 16 (bits v 272 16),
    drift := driftOfWord (bits v 288 224) }

/-- One bit of the CRC-16 of R203. -/
def checkBit (reg : W16) (b : Bool) : W16 :=
  if reg.getLsbD 15 != b then (reg <<< 1) ^^^ 0x1021 else reg <<< 1

/-- One byte, least significant bit first. -/
def checkByte (reg : W16) (b : Byte) : W16 := (List.range 8).foldl (fun r i => checkBit r (b.getLsbD i)) reg

/-- CHECK over record bytes 0 to 33 and 36 to 63 (R203). -/
def recordCheck (r : NodeRec) : W16 :=
  let l := r.bytes
  (l.take 34 ++ l.drop 36).foldl checkByte 0xFFFF

/-! ### Reading and writing -/

/-- The node record of an index. -/
def nodeOf (s : State) (n : Nat) : NodeRec := Sparse.get (fun _ => NodeRec.reset) s.mesh.nodes n

/-- A record reads correctly: its CHECK matches (R203). -/
def recordOk? (r : NodeRec) : Bool := r.check == recordCheck r

/-- The state of a node as the Facet takes it: RECORD_BAD where CHECK does not match (R203). -/
def nodeState (s : State) (n : Nat) : Nat :=
  let r := nodeOf s n
  if r.state = 0 then 0 else if recordOk? r then r.state else 4

/-- Write a record: CHECK is computed, and the next checkpoint takes it (R203, R219). -/
def putNode (n : Nat) (r : NodeRec) (s : State) : State :=
  modMesh (fun m => { m with nodes := Sparse.set (fun _ => NodeRec.reset) m.nodes n { r with check := recordCheck r },
                             dirty := Sparse.set (fun _ => false) m.dirty n true }) s

/-- The short address of a node; 0xFFFF where it has none. -/
def shortOf (s : State) (n : Nat) : Nat :=
  let v := Sparse.get (fun _ => 0) s.mesh.shorts n
  if v = 0 then 0xFFFF else v - 1

/-- Write the short address of a node. -/
def setShort (n short : Nat) (s : State) : State :=
  modMesh (fun m => { m with shorts := Sparse.set (fun _ => 0) m.shorts n (if short = 0xFFFF then 0 else short + 1) }) s

/-- The index that an EUI-64 belongs to. -/
def nodeOfEui (s : State) (eui : W64) : Option Nat :=
  (s.mesh.nodes.find? (fun p => p.2.state != 0 && p.2.eui == eui)).map (·.1)

/-- The index that a short address belongs to. -/
def nodeOfShort (s : State) (short : Nat) : Option Nat :=
  (s.mesh.shorts.find? (fun p => p.2 == short + 1)).map (·.1)

/-- The body of a REPL_NODE: index, short address, record (log 28). -/
def replNodeBody (s : State) (n : Nat) : List Byte := leBytes 4 n ++ leBytes 2 (shortOf s n) ++ zeros 2 ++ (nodeOf s n).bytes

/-- A record changes, and a standby twin is told (Table 16.5). -/
def saveNode (n : Nat) (r : NodeRec) (s : State) : State :=
  let s := putNode n r s
  replicate 0x10 (n / 256) (replNodeBody s n) s

/-- What a Facet keeps of a node. -/
def workOf (s : State) (n : Nat) : NodeWork := Sparse.get (fun _ => NodeWork.reset) s.mesh.work n

/-! ### Ownership (R12) -/

/-- The partition map in use: the committed one, or the QUIESCENT overlay (R45, log 29). -/
def facetOfPartition (s : State) (p : Nat) : Nat := if s.cfg.overlay then p % 32 else cfgNat s 0x0824 1 p

/-- The owning Facet of a node, which alone decides on its frames (R213). -/
def facetOf (s : State) (n : Nat) : Nat := facetOfPartition s (n / 256)

/-! ### Keys (R207 to R209) -/

/-- "Gobaix node key" in ASCII. -/
def nodeKeySalt : List Byte := [0x47, 0x6F, 0x62, 0x61, 0x69, 0x78, 0x20, 0x6E, 0x6F, 0x64, 0x65, 0x20, 0x6B, 0x65, 0x79]

/-- The master slot of a generation's parity. -/
def masterOf (s : State) (gen : Nat) : Nat := cfgNat s 0x0822 (if gen % 2 = 0 then 1 else 2) 0

/-- The key of an EUI-64 at a generation (R207). -/
def nodeKeyOf (s : State) (eui gen : Nat) : List Byte :=
  hkdf nodeKeySalt (slotOf s (masterOf s gen)).key (beBytes 8 eui ++ leBytes 1 gen) 16

/-- The master slot of a generation can yield a key: VALID, with DERIVE_NODE, bound to the life cycle. -/
def masterUsable (s : State) (gen : Nat) : Bool :=
  let k := slotOf s (masterOf s gen)
  decide (k.state = .valid) && bit k.attr.toNat 5 && lcBound k.attr.toNat s.mode.lifecycle

/-- The key cache of a Facet. -/
def cacheOf (s : State) (facet : Nat) : List CachedKey := Sparse.get (fun _ => []) s.keys.caches facet

/-- Write the key cache of a Facet. -/
def setCache (facet : Nat) (l : List CachedKey) (s : State) : State :=
  modKeys (fun k => { k with caches := Sparse.set (fun _ => []) k.caches facet (l.take 512) }) s

/-- A cached key. -/
def cachedKey (s : State) (facet node gen : Nat) : Option CachedKey :=
  (cacheOf s facet).find? (fun c => c.node == node && c.gen == gen)

/-- A key is used, or enters the cache: it is then the most recently used. -/
def touchKey (facet : Nat) (c : CachedKey) (s : State) : State :=
  setCache facet (c :: (cacheOf s facet).filter (fun x => !(x.node == c.node && x.gen == c.gen))) s

/-- Cached keys that `p` selects are discarded in every Facet. -/
def dropKeys (p : CachedKey → Bool) (s : State) : State :=
  modKeys (fun k => { k with caches := (k.caches.map (fun e => (e.1, e.2.filter (fun c => !p c)))).filter (fun e => !e.2.isEmpty) }) s

/-- Every cached key of a node is discarded (R208). -/
def dropNodeKeys (n : Nat) (s : State) : State := dropKeys (fun c => c.node == n) s

/-- The segment of a derivation. -/
def deriveSegment (facet node gen : Nat) : Segment :=
  { kind := .sha, prio := 0, ctx := 0, cmd := none, derive := some (facet, node, gen) }

/-- The derivation is queued or under way. -/
def deriving? (s : State) (facet node gen : Nat) : Bool :=
  let g := deriveSegment facet node gen
  s.keys.segments.contains g || s.keys.engines.any (fun e => e.2 == some g)

/-- A derivation is queued on context 0 (R209). -/
def deriveKey (facet node gen : Nat) (s : State) : State :=
  if deriving? s facet node gen then s else submitSegment (deriveSegment facet node gen) s

/-! ### Counters towards a node (R212, R218, R221) -/

/-- NODE_FC_HIGH, once per generation and direction (R221, log 30). -/
def warnFc (n dir value : Nat) (s : State) : State :=
  let w := Sparse.get (fun _ => 0) s.mesh.fcWarned n
  if cfgNat s 0x0822 8 0 < value ∧ !bit w dir then
    let s := modMesh (fun m => { m with fcWarned := Sparse.set (fun _ => 0) m.fcWarned n (w + 2 ^ dir) }) s
    raise 0x0403 (leBytes 4 n ++ leBytes 1 dir ++ leBytes 1 (nodeOf s n).keyGen.toNat ++ zeros 2 ++ leBytes 4 value) s
  else s

/-- The extension or first value of TX_LEASE that waits to be recorded. -/
def leasePending (s : State) (n : Nat) : Option Nat :=
  let v := Sparse.get (fun _ => 0) s.mesh.leasing n
  if v = 0 then none else some v

/-- Set what waits to be recorded; none when nothing does. -/
def setLeasePending (n : Nat) (v : Option Nat) (s : State) : State :=
  modMesh (fun m => { m with leasing := Sparse.set (fun _ => 0) m.leasing n (v.getD 0) }) s

/-- A twin is in standby to which a lease can be recorded (R218, R423). -/
def twinRecords (s : State) : Bool := replicates s && s.chord.twin.synced

/-- Extensions are suspended by ISOLATION_HOLD (R426). -/
def isolated (s : State) : Bool := s.chord.twin.isolatedUntil.isSome

/-- A TX_LEASE value is recorded: in force, and held by the drives where they are mounted (R218). An extension
that ISOLATION_HOLD overtook waits for its end (R426). -/
def leaseRecorded (n : Nat) (s : State) : State :=
  match leasePending s n with
  | some v =>
    if isolated s ∧ v ≠ (nodeOf s n).txLease then s
    else
      let s := setLeasePending n none s
      let s := if arrayUp s then modStore (fun t => { t with leases := Sparse.set (fun _ => 0) t.leases n v }) s else s
      saveNode n { nodeOf s n with txLease := v } s
  | none => s

/-- A value of TX_LEASE is to be recorded. With neither a twin nor drives there is nothing to record it on. -/
def recordLease (n v : Nat) (s : State) : State :=
  let s := setLeasePending n (some v) s
  if twinRecords s || arrayUp s then
    let s := replicate 0x10 (n / 256) (leBytes 4 n ++ leBytes 2 (shortOf s n) ++ zeros 2 ++ ({ nodeOf s n with txLease := v }).bytes) s
    if arrayUp s then writeStripe (regionStripe 128 (64 * n)) none s else s
  else leaseRecorded n s

/-- The extension of R218 is requested where it is due, and TX_EXHAUSTED entered where it is (R221). -/
def checkTxFc (n : Nat) (s : State) : State :=
  let s := warnFc n 1 (nodeOf s n).txFc.toNat s
  let r := nodeOf s n
  let s := if 0xFFFFF000 ≤ r.txFc.toNat ∧ r.state = 1 then saveNode n { r with state := 3 } s else s
  let r := nodeOf s n
  if (leasePending s n).isNone ∧ (r.txLease - 1) * 4096 ≤ r.txFc.toNat ∧ r.txLease < 2 ^ 20 - 1 ∧ !isolated s then recordLease n (r.txLease + 1) s
  else s

/-- A counter may be used: below the recorded lease (R218). -/
def counterReady (s : State) (n : Nat) : Bool :=
  let r := nodeOf s n
  decide (r.txFc.toNat < r.txLease * 4096) && decide (leasePending s n ≠ some r.txLease)

/-- Why no counter is to be had: 0 none, 1 the lease (counted), 2 exhaustion. -/
def counterRefusal (s : State) (n : Nat) : Nat :=
  if nodeState s n = 3 then 2 else if counterReady s n then 0 else 1

/-- A fresh counter is taken (R212). -/
def takeCounter (n : Nat) (s : State) : Nat × State :=
  let r := nodeOf s n
  (r.txFc.toNat, checkTxFc n (saveNode n { r with txFc := r.txFc + 1 } s))

/-- TX_FC and TX_LEASE of a record that another run of the machine used (R220), recorded before first use. -/
def leaseStep (n : Nat) (s : State) : State :=
  let r := nodeOf s n
  let lease := min (r.txLease + 1) (2 ^ 20 - 1)
  let s := putNode n { r with txFc := BitVec.ofNat 32 (min (r.txLease * 4096) 0xFFFFFFFF), txLease := lease } s
  checkTxFc n (recordLease n lease s)

/-! ### Restoration (R203) -/

/-- The locus of table memory: subsystem 7 of the logic die (Table 1.3). -/
def tableLocus : W32 := BitVec.ofNat 32 (subsysLocus 0 7)

/-- What is being restored: none where nothing is, else the command that waits, if any. -/
def restoring (s : State) (n : Nat) : Option (Option Cmd) := Sparse.get (fun _ => none) s.mesh.restoring n

/-- Note a restoration. -/
def setRestoring (n : Nat) (c : Option (Option Cmd)) (s : State) : State :=
  modMesh (fun m => { m with restoring := Sparse.set (fun _ => none) m.restoring n c }) s

/-- A record was read whose CHECK does not match: the event, once until it is restored, and the restoration begins (R203). -/
def recordBad (n : Nat) (s : State) : State :=
  if (restoring s n).isSome then s
  else raiseLocus 0x0401 tableLocus (leBytes 4 n) (setRestoring n (some none) s)

/-- A record and the short address are restored, with the counter step of R220, so that no counter repeats (R211, log 31). -/
def restoreRecord (n : Nat) (r : NodeRec) (s : State) : State :=
  let r := { r with txLease := max r.txLease (Sparse.get (fun _ => 0) s.store.leases n) }
  leaseStep n (dropNodeKeys n (putNode n r s))

/-- A restoration ends: from the twin's replica, else from the last checkpoint, else it fails and the record
stays bad (R203). -/
def restoreDone (n : Nat) (twin : List Byte) (s : State) : State :=
  match restoring s n with
  | none => s
  | some waiting =>
    let t := recordOf twin
    let fromTwin := twinRecords s && decide (twin.length = 64) && recordOk? t && t.state != 0
    let saved := match Sparse.get (fun _ => none) s.store.checkpoint n with
      | some c => if arrayUp s && recordOk? c && c.state != 0 then some c else none
      | none => none
    let s := setRestoring n none s
    let (source, s) := match fromTwin, saved with
      | true, _ => (1, restoreRecord n t s)
      | false, some c => (2, restoreRecord n c s)
      | false, none => (0, saveNode n { nodeOf s n with state := 4 } s)
    let s := raise 0x0402 (leBytes 4 n ++ leBytes 1 source) s
    match waiting with
    | some c => if source = 0 then complete c .internal 0 [] s else complete c .ok 0 (leBytes 4 source) s
    | none => s

/-- NODE_RECORD_RESTORE_DONE (R203): `twin` is the record that the standby twin's replica holds. -/
def execNodeRecordRestoreDone (dt node : Nat) (twin : List Byte) : State → Host.Outcome State Fault Refusal :=
  event dt (restoreDone node twin)

/-- TX_LEASE_EXTENSION_RECORDED (R218) -/
def execTxLeaseExtensionRecorded (dt node : Nat) : State → Host.Outcome State Fault Refusal := event dt (leaseRecorded node)

/-! ### Checkpoints (R219) -/

/-- Records go to the counter region; with no array, none is written. -/
def startCheckpoint (all : Bool) (s : State) : State :=
  if arrayUp s ∧ s.mesh.checkpoint.isNone then
    let nodes := s.mesh.nodes.filter (fun p => all || Sparse.get (fun _ => false) s.mesh.dirty p.1)
    let gone := (s.mesh.dirty.map (·.1)).filter (fun n => (nodeOf s n).state == 0 && !(nodes.map (·.1)).contains n)
    let recs := nodes ++ gone.map (fun n => (n, nodeOf s n))
    let s := modMesh (fun m => { m with checkpoint := some (recs, nowNs s), dirty := [], checkpointAt := s.now }) s
    ((recs.map (fun p => regionStripe 128 (64 * p.1))).eraseDups).foldl (fun s k => writeStripe k none s) s
  else s

/-- CHECKPOINT: every CKPT_PERIOD (R219). -/
def checkpoint (s : State) : State :=
  if cfgNat s 0x0822 7 0 * msTicks ≤ since s s.mesh.checkpointAt then startCheckpoint false s else s

/-- CHECKPOINT -/
def execCheckpoint (dt : Nat) : State → Host.Outcome State Fault Refusal := event dt checkpoint

/-- CHECKPOINT_WRITTEN: the checkpoint is complete (R219). -/
def checkpointWritten (s : State) : State :=
  match s.mesh.checkpoint with
  | some (recs, t) =>
    let s := modMesh (fun m => { m with checkpoint := none }) s
    modStore (fun x =>
      { x with checkpoint := Sparse.setAll (fun _ => none) x.checkpoint (recs.map (fun p => (p.1, if p.2.state = 0 then none else some p.2))),
               checkpointAt := some t }) s
  | none => s

/-- CHECKPOINT_WRITTEN -/
def execCheckpointWritten (dt : Nat) : State → Host.Outcome State Fault Refusal := event dt checkpointWritten

/-- Entry to CONFIG after a reset: the records of the last complete checkpoint (R220). -/
def loadCheckpoint (s : State) : State :=
  if arrayUp s then s.store.checkpoint.foldl (fun s p => match p.2 with | some r => leaseStep p.1 (putNode p.1 { r with txLease := max r.txLease (Sparse.get (fun _ => 0) s.store.leases p.1) } s) | none => s) s
  else s

/-! ### Drift model resets (R195) -/

/-- A model resets. -/
def resetDrift (n : Nat) (s : State) : State :=
  let r := nodeOf s n
  saveNode n { r with drift := r.drift.cleared } (ctrInc .mac 0 18 s)

/-- The age of a model at mesh time `t`, in units of T_LAST. -/
def modelAge (s : State) (d : Drift) : Nat := ((meshTime s / lastUnits - d.tLast) % (2 ^ 40 : Nat)).toNat

/-- DRIFT_AGE_SWEEP: a Facet sweeps its nodes once per mesh-time day (R195). -/
def driftAgeSweep (facet : Nat) (s : State) : State :=
  let day := (meshTime s / (86400 * 1000000000 * 65536)).toNat + 1
  if Sparse.get (fun _ => 0) s.mesh.ageSwept facet = day then s
  else
    let s := modMesh (fun m => { m with ageSwept := Sparse.set (fun _ => 0) m.ageSwept facet day }) s
    let old := s.mesh.nodes.filter (fun p => p.2.state != 0 && facetOf s p.1 == facet && p.2.drift.n != 0
      && decide (cfgNat s 0x0821 4 0 * 86400 * 65536 < modelAge s p.2.drift))
    old.foldl (fun s p => resetDrift p.1 s) s

/-- DRIFT_AGE_SWEEP -/
def execDriftAgeSweep (dt facet : Nat) : State → Host.Outcome State Fault Refusal := event dt (driftAgeSweep facet)

end Sys2Proof.Machine
end

