-- ==== Sys2Proof/Machine/Switch.lean ====
section
/-!
DEFINITION. The switch's named operations: ports and their settings, the shared buffer's cells, token
buckets, VLAN tags and the frame that an egress port sends (chapters "Ethernet ports and management
ports" and "Shared buffer, queues, scheduling, policing and mirroring"). Ports carry the numbers of
Table 11.4.
-/
namespace Sys2Proof.Machine

/-- Change the switch's state. -/
def modSw (f : SwState → SwState) (s : State) : State := { s with sw := f s.sw }

/-! ### Ports -/

/-- The host port, the Chord port, and mesh port M(s) (Table 11.4). -/
def hostPort : Nat := 0x50
def chordPort : Nat := 0x51
def meshPort (sector : Nat) : Nat := 0x48 + sector

/-- An Ethernet or management port. -/
def isMac (p : Nat) : Bool := decide (p ≤ 0x41)

/-- A mesh port. -/
def isMesh (p : Nat) : Bool := decide (0x48 ≤ p) && decide (p ≤ 0x4F)

/-- A field of PORT_p (Table 10.1). -/
def portCfg (s : State) (p row : Nat) : Nat := cfgNat s (0x0200 + p) row 0

/-- A field of QOS_p with an index (Table 13.3). -/
def qosCfg (s : State) (p row idx : Nat) : Nat := cfgNat s (0x0400 + p) row idx

/-- State of an Ethernet or management port. -/
def swPort (s : State) (p : Nat) : SwPort := Sparse.get (fun _ => SwPort.reset) s.sw.ports p

/-- Write the state of a port. -/
def setSwPort (p : Nat) (x : SwPort) (s : State) : State :=
  modSw (fun w => { w with ports := Sparse.set (fun _ => SwPort.reset) w.ports p x }) s

/-- Change the state of a port. -/
def modSwPort (p : Nat) (f : SwPort → SwPort) (s : State) : State := setSwPort p (f (swPort s p)) s

/-- A member port of a lane group: E(4k + 1) to E(4k + 3) while E(4k) runs at 100 Gb/s (R263). -/
def laneMember (s : State) (p : Nat) : Bool := decide (p < 64) && decide (p % 4 ≠ 0) && decide (portCfg s (p / 4 * 4) 1 = 6)

/-- A port exists (Table 11.4). -/
def portExists (p : Nat) : Bool := isMac p || (decide (0x48 ≤ p) && decide (p ≤ 0x51))

/-- A port can be named as an egress: it exists and is no member of a lane group (R263). -/
def egressOk (s : State) (p : Nat) : Bool := portExists p && !laneMember s p

/-- A port is disabled: SPEED = 0x0 (Table 10.2); ports inside the chip never are. -/
def portDisabled (s : State) (p : Nat) : Bool := isMac p && decide (portCfg s p 1 = 0)

/-- Rate of a port in Mb/s (Table 10.2). -/
def portRate (s : State) (p : Nat) : Nat :=
  match portCfg s p 1 with
  | 1 => 1000 | 2 => 2500 | 3 => 5000 | 4 => 10000 | 5 => 25000 | 6 => 100000 | 7 => (swPort s p).sgmii | _ => 0

/-- The switch forwards: an active mode, ISLAND or QUIESCENT (Table 2.6). -/
def forwards (s : State) : Bool := inModes [.activeN, .activeC, .island, .quiescent] s

/-- The datapath stands by (R353). -/
def standsBy (s : State) : Bool := inModes [.standbyN, .standbyC] s

/-- The MAC of a port runs: powered, past SELFTEST, not marked failed, not stopped by QUIESCENT (R279, R446, R45). -/
def macRuns (s : State) (p : Nat) : Bool :=
  alive s && s.mode.mode.mailboxes && !portDisabled s p && !portFailed s p
    && !(decide (datapath s = .quiescent) && decide (p < 64) && !bit (cfgNat s 0x0101 1 0) p)

/-- A port is in BACKHAUL_PORTS (Table 2.7a). -/
def backhaulPort (s : State) (p : Nat) : Bool := bit (cfgNat s 0x0100 2 0) p

/-- R43 applies to a replica for a port: ISLAND_ENABLE, a port of BACKHAUL_PORTS, ACTIVE_N or ISLAND. -/
def holdsFor (s : State) (p : Nat) : Bool := cfgBit s 0x0100 1 && backhaulPort s p && inModes [.activeN, .island] s

/-- Uplink is held under R42: in ISLAND, and in QUIESCENT whose origin is ISLAND (R44). -/
def islandHolds (s : State) : Bool :=
  decide (datapath s = .island) || (decide (s.mode.mode = .quiescent) && decide (s.mode.origin = some .island))

/-- A port's link is up; the ports inside the chip always are. -/
def egressUp (s : State) (p : Nat) : Bool := !isMac p || (swPort s p).linkUp

/-! ### PRP pairs (R350) -/

/-- The ports of a valid PRP pair. -/
def prpPair (s : State) (i : Nat) : Option (Nat × Nat) :=
  let v := cfgNat s 0x0502 1 i
  if bit v 0 then some (bits v 1 7, bits v 8 7) else none

/-- The valid pair that a port belongs to. -/
def pairOf (s : State) (p : Nat) : Option Nat :=
  (List.range 16).find? (fun i => match prpPair s i with
    | some (a, b) => decide (a = p) || decide (b = p)
    | none => false)

/-! ### Counters -/

/-- Count on a port (Table 10.6). -/
def portCount (p n : Nat) (s : State) : State := ctrInc .port p n s

/-- The counters of RX_UCAST (2) or TX_UCAST (26) onward by destination. -/
def countDest (p base : Nat) (f : List Byte) (s : State) : State :=
  if f.take 6 = List.replicate 6 0xFF then portCount p (base + 2) s
  else if bit (byteAt f 0) 0 then portCount p (base + 1) s
  else portCount p base s

/-- Count on a queue: number `n` of Table 13.9. -/
def queueAdd (p q n k : Nat) (s : State) : State := ctrAdd .queue p (15 * q + n) k s

/-! ### The shared buffer (R334, R337) -/

/-- Cells of a body of `n` bytes. -/
def cellsFor (n : Nat) : Nat := (n + 255) / 256

/-- Replicas of an egress queue. -/
def queueList (s : State) (p q : Nat) : List Replica := Sparse.get (fun _ => []) s.sw.queues (8 * p + q)

/-- Write an egress queue. -/
def setQueueList (p q : Nat) (l : List Replica) (s : State) : State :=
  modSw (fun w => { w with queues := Sparse.set (fun _ => []) w.queues (8 * p + q) l }) s

/-- Items on the crossing of an egress port. -/
def egressList (s : State) (p : Nat) : List Replica := Sparse.get (fun _ => []) s.sw.egress p

/-- Write the crossing of an egress port. -/
def setEgressList (p : Nat) (l : List Replica) (s : State) : State :=
  modSw (fun w => { w with egress := Sparse.set (fun _ => []) w.egress p l }) s

/-- Committed packets of a source that no pipeline has taken. -/
def ingressList (s : State) (p : Nat) : List Packet := Sparse.get (fun _ => []) s.sw.ingress p

/-- Write the committed packets of a source. -/
def setIngressList (p : Nat) (l : List Packet) (s : State) : State :=
  modSw (fun w => { w with ingress := Sparse.set (fun _ => []) w.ingress p l }) s

/-- Every queued replica. -/
def queuedReplicas (s : State) : List Replica := (s.sw.queues.map (·.2)).flatten

/-- Packets not yet admitted or refused: on the ingress crossings and on the slow path. -/
def waitingPackets (s : State) : List Packet :=
  (s.sw.ingress.map (·.2)).flatten ++ ((s.sw.slow.map (·.2)).flatten.map (·.pkt))

/-- Every packet that holds cells. -/
def heldPackets (s : State) : List Packet :=
  waitingPackets s ++ (queuedReplicas s).map (·.pkt) ++ ((s.sw.egress.map (·.2)).flatten.map (·.pkt))

/-- Cells of a list of packets, each packet once. -/
def cellsOf (l : List Packet) : Nat :=
  (l.foldl (fun (a : List Nat × Nat) p => if a.1.contains p.id then a else (p.id :: a.1, a.2 + p.cells)) ([], 0)).2

/-- CAPTURE_CELLS (R337). -/
def captureCells (s : State) : Nat := if s.radio.capture.isSome then 16384 else 0

/-- Free cells of the shared buffer (R334). -/
def freeCells (s : State) : Nat := 393216 - s.integ.cellsRetired - cellsOf (heldPackets s) - captureCells s

/-- Free descriptors (R334). -/
def freeDescs (s : State) : Nat :=
  196608 - (queuedReplicas s).length - ((s.sw.egress.map (·.2)).flatten).length

/-- Cells charged to a part of a queue. -/
def chargeOf (part : Part) (l : List Replica) : Nat := (l.filter (fun r => r.part == part)).foldl (fun a r => a + r.charge) 0

/-- The egress ports, each with eight queues (R333, Table 13.1). -/
def egressPorts : List Nat := List.range 0x42 ++ (List.range 10).map (0x48 + ·)

/-- The sum of every MIN_CELLS and HEADROOM_CELLS that `read` gives, lane-group members excluded (R336, R337). -/
def reservedCells (s : State) (read : Nat → Nat → Nat → Nat) : Nat :=
  ((egressPorts.filter (fun p => !laneMember s p)).map (fun p =>
    ((List.range 8).map (fun q => read (0x0400 + p) 1 q)).sum + read (0x0400 + p) 11 0)).sum

/-- S (R337). -/
def sharedCells (s : State) : Nat := 393216 - s.integ.cellsRetired - reservedCells s (cfgNat s) - cfgNat s 0x0500 1 0 - captureCells s

/-- I (R337). -/
def pendingCells (s : State) : Nat := cellsOf (waitingPackets s)

/-- F (R337). -/
def freeShared (s : State) : Nat :=
  sharedCells s - chargeOf .shared (queuedReplicas s) - (pendingCells s - cfgNat s 0x0500 1 0)

/-- Cells that a port admitted and has not released, of every priority or of one (R276). -/
def portCells (s : State) (p : Nat) (prio : Option Nat) : Nat :=
  cellsOf ((heldPackets s).filter (fun k => k.md.src == p && (match prio with
    | some i => k.md.ipri == i
    | none => true)))

/-- Headroom cells in use by an ingress port (R338). -/
def headroomUsed (s : State) (p : Nat) : Nat := chargeOf .headroom ((queuedReplicas s).filter (fun r => r.pkt.md.src == p))

/-! ### Token buckets (R299, R343, R345) -/

/-- Units of a token bucket in a byte. -/
def bucketUnit : Nat := 6400000

/-- Keys of the buckets: queue shapers, port shapers, policers, meters (committed 0, peak 1). -/
def queueBucket (p q : Nat) : Nat := 8 * p + q
def portBucket (p : Nat) : Nat := 1024 + p
def policerBucket (i : Nat) : Nat := 2 ^ 20 + i
def meterBucket (i k : Nat) : Nat := 2 ^ 21 + 2 * i + k

/-- What a bucket of a rate lacks to be full. -/
def bucketDebt (s : State) (key rate : Nat) : Nat :=
  let b := Sparse.get (fun _ => Bucket.full) s.sw.buckets key
  b.debt - rate * (s.now - b.since)

/-- Write what a bucket lacks. -/
def setBucketDebt (key debt : Nat) (s : State) : State :=
  let b : Bucket := if debt = 0 then Bucket.full else { debt, since := s.now }
  modSw (fun w => { w with buckets := Sparse.set (fun _ => Bucket.full) w.buckets key b }) s

/-- Take bytes from a bucket. -/
def chargeBucket (key rate bytes : Nat) (s : State) : State := setBucketDebt key (bucketDebt s key rate + bytes * bucketUnit) s

/-- The bucket holds at least `bytes`. -/
def bucketHas (s : State) (key rate burst bytes : Nat) : Bool :=
  decide (bucketDebt s key rate + bytes * bucketUnit ≤ burst * bucketUnit)

/-- The level of a bucket in whole bytes, rounded down. -/
def bucketLevel (s : State) (key rate burst : Nat) : Int :=
  ((burst * bucketUnit : Nat) - (bucketDebt s key rate : Int)) / (bucketUnit : Nat)

/-! ### VLAN tags (R268, R269) -/

/-- TPID of the tags that a port recognizes (R268). -/
def portTpid (s : State) (p : Nat) : Nat := if portCfg s p 6 = 1 then portCfg s p 7 else 0x8100

/-- What the ingress tag rule finds in a frame. -/
structure TagInfo where
  vid : Nat
  pcp : Nat
  /-- The frame has a tag of the port's kind with a VID other than 0. -/
  tagged : Bool
  /-- An S-tag and a C-tag directly after it. -/
  double : Bool
  /-- The EtherType after the tags that the port recognizes. -/
  etype : Nat
  /-- Bytes of those tags. -/
  tagBytes : Nat
  deriving DecidableEq, Repr

/-- VID and PCP of a received frame (R268). -/
def tagInfo (tpid : Nat) (provider : Bool) (pvid dpcp : Nat) (f : List Byte) : TagInfo :=
  if fldBE f 12 2 = tpid ∧ 18 ≤ f.length then
    let tci := fldBE f 14 2
    let v := tci % 4096
    let double := provider && decide (fldBE f 16 2 = 0x8100) && decide (22 ≤ f.length)
    { vid := if v = 0 then pvid else v, pcp := tci / 8192, tagged := decide (v ≠ 0), double,
      etype := if double then fldBE f 20 2 else fldBE f 16 2, tagBytes := if double then 8 else 4 }
  else { vid := pvid, pcp := dpcp, tagged := false, double := false, etype := fldBE f 12 2, tagBytes := 0 }

/-- The tag rule of a port for a frame that it receives (R268). -/
def portTag (s : State) (p : Nat) (f : List Byte) : TagInfo :=
  tagInfo (portTpid s p) (portCfg s p 6 == 1) (portCfg s p 8) (portCfg s p 9) f

/-- The tag rule of the host and Chord ports: a CUSTOMER port with INT_PVID and INT_PCP (Table 11.1). -/
def innerTag (s : State) (f : List Byte) : TagInfo := tagInfo 0x8100 false (cfgNat s 0x0608 8 0) (cfgNat s 0x0608 9 0) f

/-- The offset of the outermost tag of a TPID among the tags of a frame (R269; DEDUCED, log 17). -/
def tagAt (tpid sTpid : Nat) (f : List Byte) : Nat → Nat → Option Nat
  | 0, _ => none
  | n + 1, off =>
    let t := fldBE f off 2
    if f.length < off + 6 then none
    else if t = tpid then some off
    else if [0x8100, 0x88A8, sTpid].contains t then tagAt tpid sTpid f n (off + 4)
    else none

/-- A tag with DEI 0. -/
def tagWord (tpid vid pcp : Nat) : List Byte := beBytes 2 tpid ++ beBytes 2 (pcp * 8192 + vid)

/-- EGRESS_TAG applied to a frame: 0 TAG_ALL, 1 UNTAG_PVID, 2 UNTAG_ALL (R269). -/
def applyTag (tpid sTpid mode pvid vid pcp : Nat) (f : List Byte) : List Byte :=
  let put := decide (mode = 0) || (decide (mode = 1) && decide (vid ≠ pvid))
  match tagAt tpid sTpid f 8 12 with
  | some o => f.take o ++ (if put then tagWord tpid vid pcp else []) ++ f.drop (o + 4)
  | none => if put then f.take 12 ++ tagWord tpid vid pcp ++ f.drop 12 else f

/-- A frame as a CUSTOMER port with TAG_ALL would send it (R419). -/
def tagAll (vid pcp : Nat) (f : List Byte) : List Byte := applyTag 0x8100 0x88A8 0 0 vid pcp f

/-! ### The egress rewrite (R305) -/

/-- Replace bytes at an offset. -/
def putBytes (f : List Byte) (off : Nat) (b : List Byte) : List Byte := f.take off ++ b ++ f.drop (off + b.length)

/-- One's complement sum of two 16-bit words. -/
def onesAdd (a b : Nat) : Nat := let t := a + b; if 0xFFFF < t then t - 0xFFFF else t

/-- The one's complement sum of the 16-bit words of a byte string, the last padded with zero. -/
def onesSum : List Byte → Nat
  | [] => 0
  | [a] => a.toNat * 256
  | a :: b :: r => onesAdd (a.toNat * 256 + b.toNat) (onesSum r)

/-- The first IP header of a packet: type and offset. -/
def firstIp (md : PktMeta) : Option (Nat × Nat) :=
  (md.hdrs.find? (fun h => h.1 == 4 || h.1 == 5)).map (fun h => (h.1, h.2.1))

/-- TTL or Hop Limit falls by one, the IPv4 header checksum corrected (R305). -/
def lowerHop (t off : Nat) (f : List Byte) : List Byte :=
  if t = 4 then
    let f := putBytes f (off + 8) [BitVec.ofNat 8 (byteAt f (off + 8) - 1)]
    putBytes f (off + 10) (beBytes 2 (onesAdd (fldBE f (off + 10) 2) 0x0100))
  else putBytes f (off + 7) [BitVec.ofNat 8 (byteAt f (off + 7) - 1)]

/-- The bytes of a packet after the egress rewrite (R305): a packet routed to a mesh node loses its
layer-2 header, one from a mesh port routed to an ETHERNET next hop gains one (DEDUCED, log 18). -/
def rewritten (k : Packet) : List Byte :=
  match firstIp k.md, k.rewrite with
  | some (t, off), .mesh => (lowerHop t off k.bytes).drop off
  | some (t, off), .ethernet dmac sa =>
    let f := lowerHop t off k.bytes
    if isMesh k.md.src then beBytes 6 dmac ++ beBytes 6 sa ++ beBytes 2 0x86DD ++ f
    else beBytes 6 dmac ++ beBytes 6 sa ++ f.drop 12
  | _, _ => k.bytes

/-! ### The frame of an egress port (R269, R351) -/

/-- The redundancy control trailer of a frame (Table 13.7). -/
def prpTrailer (s : State) (p pair seq : Nat) (f : List Byte) : List Byte :=
  let lan := match prpPair s pair with
    | some (a, _) => if a = p then 0xA else 0xB
    | none => 0xA
  let size := f.length + 6 - 12 - (portTag s p f).tagBytes
  beBytes 2 seq ++ beBytes 2 (lan * 4096 + size % 4096) ++ beBytes 2 0x88FB

/-- A frame with tag rules, padding and trailer applied, for an Ethernet or management port. -/
def dressed (s : State) (p : Nat) (vid pcp : Nat) (prp : Option (Nat × Nat)) (f : List Byte) : List Byte :=
  let f := applyTag (portTpid s p) (portCfg s p 7) (portCfg s p 10) (portCfg s p 8) vid pcp f
  let f := if f.length < 60 then padTo 60 f else f
  match prp with
  | some (pair, seq) => f ++ prpTrailer s p pair seq f
  | none => f

/-- The frame that an egress port sends for a replica, FCS excluded, before the PTP correction; the
packet as held on the ports inside the chip (R269, R340, R348). -/
def egressFrame (s : State) (r : Replica) : List Byte :=
  let f := rewritten r.pkt
  if isMac r.port then
    match r.kind with
    | .mirror _ => if f.length < 60 then padTo 60 f else f
    | .data => dressed s r.port r.pkt.md.vid r.pkt.md.pcp r.prp f
    | .hostCopy => dressed s r.port r.pkt.md.vid r.pkt.md.pcp r.prp f
  else f

/-- OVERHEAD of an Ethernet port; the other ports have none (R340). -/
def overhead (s : State) (p : Nat) : Int := if p < 64 then cfgGet s (0x0400 + p) 10 0 else 0

/-- Accounted length of a frame of `n` bytes without FCS (R340). -/
def accounted (s : State) (p n : Nat) : Nat := if isMac p then ((n : Int) + 4 + overhead s p).toNat else n

/-- Accounted length of a replica at its egress (R340). -/
def egressLength (s : State) (r : Replica) : Nat := accounted s r.port (egressFrame s r).length

/-! ### Packets enter the switch -/

/-- A packet number and its advance. -/
def newPacketId (s : State) : Nat × State := (s.sw.nextId, modSw (fun w => { w with nextId := w.nextId + 1 }) s)

/-- Metadata at entry (Table 11.4, Table 11.1). -/
def entryMeta (s : State) (src queue ipri pcp vid len : Nat) (node : Option Nat) (time : Nat) : PktMeta :=
  { src, queue, ipri, pcp, vid, colour := 0, epoch := s.cfg.epoch.toNat, flags := 0, hdrs := [], frameLen := len, l3Len := 0, trap := 0,
    disp := 0, copyHost := false, mirror := 0, egress := none, stageHit := 0, label := 0, node, fwdKind := 0, flood := false,
    slow := false, prefixLen := 0, probes := 0, nexthop := 0, tsNs := time / 65536 % 1000000000, tsSec := time / secUnits }

/-- A packet at entry. -/
def mkPacket (id : Nat) (md : PktMeta) (bytes : List Byte) (extra : Nat) (rawC : W64) : Packet :=
  { id, md, bytes, cells := cellsFor (bytes.length + extra), rawC, rewrite := .none, remote := none, dest := none, tsReq := false,
    tsInsert := false, tsId := 0, toApex := false }

/-- Depth of the crossing by which a source enters the switch (Table 1.4). -/
def ingressDepth (p : Nat) : Nat := if isMac p then 64 else 1024

/-- Depth of the crossing of an egress port (Table 1.4). -/
def egressDepth (p : Nat) : Nat := if isMac p then 32 else 1024

/-- The crossing by which a source enters: X12, X06, X13 or X14, and its instance. -/
def ingressCrossing (p : Nat) : Nat × Nat :=
  if isMac p then (12, p) else if isMesh p then (6, p - 0x48) else if p = hostPort then (13, 0) else (14, 0)

/-- NOCREDIT of a crossing (R16, R334). -/
def noCredit (p : Nat) (s : State) : State := ctrInc .lattice ((ingressCrossing p).1 * 1024 + (ingressCrossing p).2) 0 s

/-- A packet is committed to the switch, if the crossing has a credit and the buffer the cells; else it
is rewound and counted in NOCREDIT (R16, R17, R334). -/
def commitPacket (k : Packet) (s : State) : State × Bool :=
  let p := k.md.src
  if ingressDepth p ≤ (ingressList s p).length ∨ freeCells s < k.cells then (noCredit p s, false)
  else (setIngressList p (ingressList s p ++ [k]) s, true)

/-- A frame from the host or Chord port, given from DA to the last byte before the FCS, enters the switch. -/
def innerPacket (src : Nat) (f : List Byte) (s : State) : Packet × State :=
  let t := innerTag s f
  let (id, s) := newPacketId s
  let md := entryMeta s src t.pcp t.pcp t.pcp t.vid f.length none (merTime s.time.mer)
  (mkPacket id md f 0 s.time.mer.c, s)

/-- An IPv6 packet of a node enters mesh port M(s) over X06 (R281). -/
def meshPacket (sector node : Nat) (f : List Byte) (s : State) : State × Bool :=
  let pcp := cfgNat s 0x0608 9 0
  let (id, s) := newPacketId s
  let md := entryMeta s (meshPort sector) pcp pcp pcp (cfgNat s 0x0608 8 0) f.length (some node) (merTime s.time.mer)
  commitPacket (mkPacket id md f 0 s.time.mer.c) s

end Sys2Proof.Machine
end

