-- ==== Sys2Proof/Machine/Parser.lean ====
section
/-!
DEFINITION. The parser (R283 to R290): the header graph, the length rules, the exception flags and
their actions.
-/
namespace Sys2Proof.Machine

/-- What the parser holds while it walks the headers. -/
structure ParseState where
  hdrs : List (Nat × Nat × Nat)
  /-- The exception flags, Table 11.4 bits [71:64]. -/
  flags : Nat
  /-- The end of the current IP packet. -/
  ipEnd : Nat
  /-- Offset and length of the outermost IP packet. -/
  l3 : Option (Nat × Nat)
  deriving DecidableEq, Repr

/-- Set a flag by its bit number in [71:64]. -/
def ParseState.flag (i : Nat) (p : ParseState) : ParseState := if bit p.flags i then p else { p with flags := p.flags + 2 ^ i }

/-- Set a flag where a condition holds. -/
def ParseState.flagIf (c : Bool) (i : Nat) (p : ParseState) : ParseState := if c then p.flag i else p

/-- The header after a type field (Table 11.2, ETH). -/
def nextOfType (sTpid t : Nat) : Option Nat :=
  if t = 0x8100 then some 3 else if t = 0x88A8 ∨ t = sTpid then some 2 else if t = 0x0800 then some 4
  else if t = 0x86DD then some 5 else if t = 0x0806 then some 0x0F else if t = 0x88F7 then some 0x10
  else if t = 0x88CC then some 0x11 else none

/-- The header after an IPv4 Protocol value (Table 11.2). -/
def nextOfV4 (p : Nat) : Option Nat :=
  match p with
  | 1 => some 0x0D | 4 => some 4 | 6 => some 0x0C | 17 => some 0x0B | 41 => some 5 | 50 => some 0x12 | 51 => some 0x0A | _ => none

/-- The header after an IPv6 Next Header value (Table 11.2). -/
def nextOfV6 (p : Nat) : Option Nat :=
  match p with
  | 0 => some 6 | 43 => some 7 | 44 => some 8 | 60 => some 9 | 51 => some 0x0A | 50 => some 0x12 | 4 => some 4 | 41 => some 5
  | 6 => some 0x0C | 17 => some 0x0B | 58 => some 0x0E | _ => none

/-- The bytes from which a header's length is known: offset of its length byte plus one; 0 for a fixed length. -/
def lengthByte (t : Nat) : Nat :=
  match t with
  | 4 => 1 | 6 => 2 | 7 => 2 | 9 => 2 | 0x0A => 2 | 0x0C => 13 | _ => 0

/-- Length of a header at an offset (Table 11.2). -/
def headerLen (f : List Byte) (t off : Nat) : Nat :=
  match t with
  | 1 => 14 | 2 => 4 | 3 => 4
  | 4 => byteAt f off % 16 * 4
  | 5 => 40
  | 6 => (byteAt f (off + 1) + 1) * 8 | 7 => (byteAt f (off + 1) + 1) * 8 | 8 => 8 | 9 => (byteAt f (off + 1) + 1) * 8
  | 0x0A => (byteAt f (off + 1) + 2) * 4
  | 0x0B => 8
  | 0x0C => byteAt f (off + 12) / 16 * 4
  | 0x0D => 8 | 0x0E => 8 | 0x0F => 28 | 0x10 => 34 | 0x12 => 8
  | _ => 0

/-- The header that follows a parsed header (R283, R285). -/
def nextHeader (sTpid : Nat) (f : List Byte) (t off : Nat) : Option Nat :=
  match t with
  | 1 => nextOfType sTpid (fldBE f (off + 12) 2)
  | 2 => nextOfType sTpid (fldBE f (off + 2) 2)
  | 3 => nextOfType sTpid (fldBE f (off + 2) 2)
  | 4 => if fldBE f (off + 6) 2 % 16384 ≠ 0 then none else nextOfV4 (byteAt f (off + 9))
  | 5 => nextOfV6 (byteAt f (off + 6))
  | 6 => nextOfV6 (byteAt f off) | 7 => nextOfV6 (byteAt f off) | 9 => nextOfV6 (byteAt f off) | 0x0A => nextOfV6 (byteAt f off)
  | 0x0B => if [319, 320].contains (fldBE f (off + 2) 2) then some 0x10 else none
  | _ => none

/-- The flags of an IP packet of stated length `n` at an offset, and its end (R287, R288). -/
def ipLength (frameLen off low n : Nat) (p : ParseState) : ParseState :=
  let a := frameLen - off
  let bad := decide (n < low) || decide (a < n) || (decide (n < a) && decide (60 < frameLen))
  let len := if bad then a else n
  { (p.flagIf bad 1) with ipEnd := off + len, l3 := some (p.l3.getD (off, len)) }

/-- The flags that a parsed header sets (R285, R287, Table 11.3). -/
def headerFlags (f : List Byte) (t off : Nat) (p : ParseState) : ParseState :=
  match t with
  | 1 =>
    let sa := fldBE f (off + 6) 6
    p.flagIf (bit (byteAt f (off + 6)) 0 || decide (sa = 0)) 6
  | 4 =>
    let ihl := byteAt f off % 16
    let fo := fldBE f (off + 6) 2
    let p := p.flagIf (decide (ihl < 5) || decide (byteAt f off / 16 ≠ 4) || decide (onesSum (slice f off (ihl * 4)) ≠ 0xFFFF)) 2
    let p := p.flagIf (decide (5 < ihl)) 5
    let p := p.flagIf (decide (fo % 16384 ≠ 0)) 3
    let p := p.flagIf (decide (fo % 8192 ≠ 0)) 4
    ipLength f.length off (ihl * 4) (fldBE f (off + 2) 2) p
  | 5 =>
    let p := p.flagIf (decide (byteAt f off / 16 ≠ 6)) 2
    ipLength f.length off 0 (40 + fldBE f (off + 4) 2) p
  | 6 => p.flag 5
  | 8 => (p.flag 3).flagIf (decide (8 ≤ fldBE f (off + 2) 2)) 4
  | 0x0B => p.flagIf (decide (fldBE f (off + 4) 2 ≠ p.ipEnd - off)) 1
  | 0x0C => p.flagIf (decide (byteAt f (off + 12) / 16 < 5)) 1
  | _ => p

/-- After a length conflict the end of the IP packet is the end of the packet (R288). -/
def settleEnd (f : List Byte) (p : ParseState) : ParseState := if bit p.flags 1 then { p with ipEnd := f.length } else p

/-- Walk the headers from one of type `t` at `off`; at most `n` more are parsed (R283, R284, R286). -/
def parseHeaders (sTpid : Nat) (f : List Byte) : Nat → Nat → Nat → ParseState → ParseState
  | 0, _, _, p => (p.flag 0).flag 7
  | n + 1, t, off, p =>
    if 256 < off + lengthByte t then p.flag 0
    else if f.length < off + lengthByte t then p
    else
      let len := headerLen f t off
      let own := decide (lengthByte t ≠ 0)
      let past := own && decide (min p.ipEnd f.length < off + len)
      let p := settleEnd f (p.flagIf past 1)
      if 256 < off + len then p.flag 0
      else if past || decide (f.length < off + len) then p
      else
        let p := settleEnd f (headerFlags f t off { p with hdrs := p.hdrs ++ [(t, off, len)] })
        match nextHeader sTpid f t off with
        | some t' => parseHeaders sTpid f n t' (off + len) p
        | none => p

/-- The parse of a packet (R283 to R288); mesh packets start at IPV6, the others at ETH (Table 11.1). -/
def parsePacket (sTpid : Nat) (mesh : Bool) (f : List Byte) : ParseState :=
  parseHeaders sTpid f 10 (if mesh then 5 else 1) 0 { hdrs := [], flags := 0, ipEnd := f.length, l3 := none }

/-- L3_LEN: the outermost IP packet, from FRAME_LEN on a length conflict (R288). -/
def parsedL3 (f : List Byte) (p : ParseState) : Nat :=
  match p.l3 with
  | some (off, len) => if bit p.flags 1 then f.length - off else len
  | none => 0

/-- The flag bits in the order of Table 11.3: PARSE_TRUNC, LEN_CONFLICT, IP_HDR_ERR, FRAG, OPTIONS, SA_BAD. -/
def exceptionBits : List Nat := [0, 1, 2, 3, 5, 6]

/-- Severity of an exception action: DROP above TO_HOST above COPY_TO_HOST above CONTINUE (R290). -/
def actionRank (a : Nat) : Nat := match a with | 1 => 3 | 2 => 2 | 3 => 1 | _ => 0

/-- A live value in a configuration view: `cfgNat` of a classification epoch. -/
def viewNat (v : Sparse Int) (g row idx : Nat) : Nat := (Sparse.get cfgDefault v (cfgKey g row idx)).toNat

/-- The flags set, each with its action and trap code, in the order of Table 11.3. -/
def exceptions (v : Sparse Int) (flags : Nat) : List (Nat × Nat × Nat) :=
  (List.range 6).filterMap (fun i =>
    if bit flags (exceptionBits.getD i 0) then some (i, viewNat v 0x0608 (i + 1) 0, viewNat v 0x0608 7 i) else none)

/-- The resolved action and its trap code (R290). -/
def resolveException (l : List (Nat × Nat × Nat)) : Nat × Nat :=
  l.foldl (fun a e => if actionRank a.1 < actionRank e.2.1 then (e.2.1, e.2.2) else a) (0, 0)

/-- The sources of each pipeline in their order (Table 11.1). -/
def pipeSources (i : Nat) : List Nat :=
  match i with
  | 0 => List.range 16 ++ [0x40, 0x41, 0x50]
  | 1 => (List.range 16).map (16 + ·) ++ [0x48, 0x49, 0x4A, 0x4B]
  | 2 => (List.range 16).map (32 + ·) ++ [0x4C, 0x4D, 0x4E, 0x4F]
  | 3 => (List.range 16).map (48 + ·) ++ [0x51]
  | _ => []

/-- The pipeline of a source. -/
def pipeOf (src : Nat) : Nat := ((List.range 4).find? (fun i => (pipeSources i).contains src)).getD 0

/-- Count on a pipeline (Table 11.9). -/
def pipeCount (pipe n : Nat) (s : State) : State := ctrInc .pipe pipe n s

/-- Parse a packet and write its metadata (R284, R288). -/
def parseInto (s : State) (k : Packet) : Packet :=
  let src := k.md.src
  let sTpid := if isMac src then portCfg s src 7 else 0x88A8
  let p := parsePacket sTpid (isMesh src) k.bytes
  { k with md := { k.md with hdrs := p.hdrs, flags := p.flags, l3Len := parsedL3 k.bytes p } }

/-- The parser's exception actions (R290): counters, then the resolved action on the metadata. -/
def applyExceptions (v : Sparse Int) (pipe : Nat) (k : Packet) (s : State) : Packet × State :=
  let l := exceptions v k.md.flags
  let s := l.foldl (fun s e => pipeCount pipe (1 + e.1) s) s
  let (act, trap) := resolveException l
  match act with
  | 1 => ({ k with md := { k.md with disp := 1 } }, pipeCount pipe 7 s)
  | 2 => ({ k with md := { k.md with disp := 2, trap } }, pipeCount pipe 8 s)
  | 3 => ({ k with md := { k.md with copyHost := true, trap } }, pipeCount pipe 8 s)
  | _ => (k, s)

end Sys2Proof.Machine
end

