-- ==== Sys2Proof/Machine/Classify.lean ====
section
/-!
DEFINITION. The classification stages (R291 to R299) and policers (R345): metadata bits, keys, the
three kinds of table, and the action word. `v` is the live configuration of the packet's epoch (R282).
-/
namespace Sys2Proof.Machine

/-- Place a field in a wide word. -/
def at' (lo v : Nat) : Nat := v * 2 ^ lo

/-- FWD_RESULT (Table 12.1). -/
def fwdResult (m : PktMeta) : Nat :=
  m.fwdKind + at' 2 (b2n m.flood) + at' 3 (b2n m.slow) + at' 4 m.prefixLen + at' 12 m.probes + at' 16 m.nexthop

/-- The 512 bits of the metadata (Table 11.4). -/
def metaBits (m : PktMeta) : Nat :=
  let idx := List.range m.hdrs.length
  let h := fun i => m.hdrs.getD i (0, 0, 0)
  m.src + at' 8 m.queue + at' 11 m.ipri + at' 14 m.pcp + at' 17 m.vid + at' 29 m.colour + at' 32 m.epoch + at' 64 m.flags
    + at' 80 m.hdrs.length + at' 96 (bitMap (m.hdrs.map (·.1)))
    + (idx.map (fun i => at' (128 + 8 * i) (h i).2.1 + at' (208 + 5 * i) (h i).1)).sum
    + at' 272 (m.frameLen % 65536) + at' 288 (m.l3Len % 65536) + at' 304 m.trap + at' 312 m.disp + at' 315 (b2n m.copyHost)
    + at' 316 m.mirror + at' 320 (m.egress.getD 0) + at' 327 (b2n m.egress.isSome) + at' 328 m.stageHit + at' 352 m.label
    + at' 384 (m.node.getD 0) + at' 402 (b2n m.node.isSome) + at' 416 (fwdResult m) + at' 448 m.tsNs + at' 480 (m.tsSec % 2 ^ 32)

/-! ### Keys (R293, R294) -/

/-- The header that a key field names: the (n + 1)-th of its TYPE, or the innermost (Table 11.6). -/
def keyHeader (m : PktMeta) (type inst : Nat) : Option (Nat × Nat × Nat) :=
  let l := m.hdrs.filter (fun h => h.1 == type)
  if inst = 7 then l.getLast? else l[inst]?

/-- `w` bits of a byte string from bit `o` in transmission order. -/
def bitsAt (f : List Byte) (o w : Nat) : Nat :=
  let first := o / 8
  let n := (o + w + 7) / 8 - first
  fldBE f first n / 2 ^ (8 * n - (o % 8 + w)) % 2 ^ w

/-- A key field: none where it is absent (R294). -/
def keyField (k : Packet) (d : Nat) : Option Nat :=
  let off := bits d 10 11
  let w := bits d 21 8
  if bits d 0 2 = 1 then some (bits (metaBits k.md) off w)
  else match keyHeader k.md (bits d 2 5) (bits d 7 3) with
    | some (_, o, len) => if off + w ≤ 8 * len then some (bitsAt k.bytes (8 * o + off) w) else none
    | none => none

/-- The key field descriptors of a stage that are in use, with their place. -/
def stageKeys (v : Sparse Int) (n : Nat) : List (Nat × Nat) :=
  (List.range 8).filterMap (fun i => let d := viewNat v (0x0600 + n) 2 i; if bits d 0 2 = 0 then none else some (i, d))

/-- The bits of a key: fields in order, absent ones as zeros. -/
def keyBits (k : Packet) (l : List (Nat × Nat)) : Nat × Nat :=
  l.foldl (fun a p => let w := bits p.2 21 8; (a.1 * 2 ^ w + (keyField k p.2).getD 0, a.2 + w)) (0, 0)

/-- The presence byte (R294). -/
def presence (k : Packet) (l : List (Nat × Nat)) : Nat := bitMap ((l.filter (fun p => (keyField k p.2).isSome)).map (·.1))

/-- The 320-bit key of a HASH or TERNARY stage (R294). -/
def wideKey (k : Packet) (l : List (Nat × Nat)) : Nat :=
  let (x, w) := keyBits k l
  presence k l * 2 ^ 312 + x * 2 ^ (312 - w)

/-- The two buckets of a 320-bit key in a HASH table of `n` buckets (R295). -/
def hashBuckets (n key : Nat) : List Nat :=
  let b := beBytes 40 key
  let x := crc32cFrom 0xFFFFFFFF b % n
  let y := crc32cFrom 0x5A5A5A5A b % n
  if x = y then [x] else [x, y]

/-- An entry of a stage as its table holds it: action word, key or value, mask. -/
def entryAction (e : Nat) : Nat := bits e 0 128
def entryKey (e : Nat) : Nat := bits e 128 320
def entryMask (e : Nat) : Nat := bits e 448 320
def entryWord (action key mask : Nat) : Nat := action + at' 128 key + at' 448 mask

/-- The entry of a stage at a place. -/
def stageEntry (v : Sparse Int) (n place : Nat) : Nat := viewNat v (0x0600 + n) 5 place

/-- The listed places of a stage's entries, in rising order. -/
def stagePlaces (v : Sparse Int) (n : Nat) : List Nat :=
  v.filterMap (fun p => if keyGroup p.1 = 0x0600 + n ∧ keyRow p.1 = 5 then some (keyIdx p.1) else none)

/-- The action word that a stage's lookup hits; none on a miss (R292 to R295). -/
def stageLookup (v : Sparse Int) (n : Nat) (k : Packet) : Option Nat :=
  let keys := stageKeys v n
  let valid := fun e => bit e 127
  match viewNat v (0x0600 + n) 1 0 with
  | 1 =>
    if keys.all (fun p => (keyField k p.2).isSome) then
      let e := stageEntry v n (keyBits k keys).1
      if valid e then some (entryAction e) else none
    else none
  | 2 =>
    let key := wideKey k keys
    let places := ((hashBuckets (viewNat v (0x0600 + n) 3 0 / 4) key).map (fun b => (List.range 4).map (4 * b + ·))).flatten
    ((places.map (stageEntry v n)).find? (fun e => valid e && entryKey e == key)).map entryAction
  | 3 =>
    let key := wideKey k keys
    (((stagePlaces v n).map (stageEntry v n)).find? (fun e => valid e && ((key ^^^ entryKey e) &&& entryMask e) == 0)).map entryAction
  | _ => none

/-! ### Meters and policers (R299, R345) -/

/-- A meter colours a packet of `len` bytes (R299, RFC 2698): the colour and the buckets after. -/
def meter (v : Sparse Int) (i len colour : Nat) (s : State) : Nat × State :=
  let cir := viewNat v 0x0606 1 i
  let cbs := viewNat v 0x0606 2 i
  let pir := viewNat v 0x0606 3 i
  let pbs := viewNat v 0x0606 4 i
  let aware := viewNat v 0x0606 5 i = 1
  let peak := fun s => chargeBucket (meterBucket i 1) pir len s
  if (aware ∧ colour = 2) ∨ !bucketHas s (meterBucket i 1) pir pbs len then (2, s)
  else if (aware ∧ colour = 1) ∨ !bucketHas s (meterBucket i 0) cir cbs len then (1, peak s)
  else (0, chargeBucket (meterBucket i 0) cir len (peak s))

/-- A policer passes a packet of accounted length `len`, or drops it (R345). -/
def police (v : Sparse Int) (i len bytes : Nat) (s : State) : Bool × State :=
  let rate := viewNat v 0x0607 1 i
  if bucketHas s (policerBucket i) rate (viewNat v 0x0607 2 i) len then
    (true, ctrAdd .policer i 1 bytes (ctrInc .policer i 0 (chargeBucket (policerBucket i) rate len s)))
  else (false, ctrAdd .policer i 3 bytes (ctrInc .policer i 2 s))

/-! ### Actions (R296 to R298) -/

/-- Write a metadata field where its enable bit is set. -/
def whenBit (a i : Nat) (f : PktMeta → PktMeta) (m : PktMeta) : PktMeta := if bit a i then f m else m

/-- DISP of an action word (Table 11.7). -/
def applyDisp (a : Nat) (m : PktMeta) : PktMeta :=
  match bits a 80 3 with
  | 1 => { m with disp := 1 }
  | 2 => { m with disp := 2, trap := bits a 92 8 }
  | 3 => { m with disp := 3, egress := some (bits a 84 7) }
  | _ => m

/-- Step 4 of R297: the set fields, then DISP. -/
def setFields (a : Nat) (m : PktMeta) : PktMeta :=
  let m := whenBit a 55 (fun m => { m with queue := bits a 56 3 }) m
  let m := whenBit a 59 (fun m => { m with vid := bits a 60 12 }) m
  let m := whenBit a 72 (fun m => { m with pcp := bits a 73 3 }) m
  let m := whenBit a 100 (fun m => { m with label := bits a 101 16 }) m
  let m := { m with mirror := m.mirror ||| bits a 76 4 }
  let m := whenBit a 83 (fun m => { m with copyHost := true, trap := bits a 92 8 }) m
  applyDisp a m

/-- A stage applies one action word in the order of R297. -/
def applyAction (v : Sparse Int) (a : Nat) (k : Packet) (s : State) : Packet × State :=
  let len := k.md.frameLen
  let s := if bit a 0 then ctrAdd .cls (bits a 1 20) 1 len (ctrInc .cls (bits a 1 20) 0 s) else s
  let (colour, s) := if bit a 21 then meter v (bits a 22 16) len k.md.colour s else (k.md.colour, s)
  let m := { k.md with colour }
  let (pass, s) := if bit a 38 then police v (bits a 39 16) (accounted s m.src len) len s else (true, s)
  let m := if pass then setFields a m else { m with disp := 1, mirror := m.mirror ||| bits a 76 4 }
  ({ k with md := m }, s)

/-- One stage (R292, R296): its lookup, its counters, and the word of the hit or of DEFAULT. -/
def runStage (v : Sparse Int) (pipe n : Nat) (k : Packet) (s : State) : Packet × State :=
  if k.md.disp = 1 ∨ viewNat v (0x0600 + n) 1 0 = 0 then (k, s)
  else match stageLookup v n k with
    | some a => applyAction v a { k with md := { k.md with stageHit := k.md.stageHit ||| 2 ^ n } } (pipeCount pipe (9 + n) s)
    | none =>
      let d := viewNat v (0x0600 + n) 4 0
      let s := pipeCount pipe (15 + n) s
      if bit d 127 then applyAction v d k s else (k, s)

/-- Stages `l` in order. -/
def runStages (v : Sparse Int) (pipe : Nat) (l : List Nat) (k : Packet) (s : State) : Packet × State :=
  l.foldl (fun a n => runStage v pipe n a.1 a.2) (k, s)

end Sys2Proof.Machine
end

