-- ==== Sys2Proof/Machine/Forward.lean ====
section
/-!
DEFINITION. Forwarding (R303 to R332): the hash tables, the length filter, the lookup with its probe
cap, the learning engine, ageing and learning messages.
-/
namespace Sys2Proof.Machine

/-- Count a forwarding counter (Table 12.10). -/
def fwdCount (n : Nat) (s : State) : State := ctrInc .fwd 0 n s

/-! ### Hash tables (R306) -/

/-- A forwarding table: 3 L2, 4 V6, 5 V4 as the entry commands number them. -/
def tableBuckets (t : Nat) : Nat := match t with | 3 => 131072 | 4 => 262144 | _ => 65536

/-- The key bytes of an L2 entry. -/
def l2Key (vid mac : Nat) : List Byte := beBytes 2 vid ++ beBytes 6 mac

/-- Address bits of a family. -/
def addrBits (v6 : Bool) : Nat := if v6 then 128 else 32

/-- An address with the bits beyond `len` zero. -/
def maskTo (v6 : Bool) (len addr : Nat) : Nat := addr / 2 ^ (addrBits v6 - len) * 2 ^ (addrBits v6 - len)

/-- The key bytes of an L3 entry. -/
def l3Key (v6 : Bool) (len addr : Nat) : List Byte := BitVec.ofNat 8 len :: beBytes (addrBits v6 / 8) addr

/-- The buckets of a key in a table of `n` buckets. -/
def keyBuckets (n : Nat) (key : List Byte) : List Nat :=
  let x := crc32cFrom 0xFFFFFFFF key % n
  let y := crc32cFrom 0x5A5A5A5A key % n
  if x = y then [x] else [x, y]

/-- The places of a key in a table of `n` buckets. -/
def keyPlaces (n : Nat) (key : List Byte) : List Nat := ((keyBuckets n key).map (fun b => (List.range 4).map (4 * b + ·))).flatten

/-- The entry of a table of optional entries at a place. -/
def entryAt {α : Type} (m : Sparse (Option α)) (place : Nat) : Option α := Sparse.get (fun _ => none) m place

/-- The place and value of the entry among `places` that satisfies `p`. -/
def findEntry {α : Type} (m : Sparse (Option α)) (p : α → Bool) : List Nat → Option (Nat × α)
  | [] => none
  | i :: r => match entryAt m i with
    | some e => if p e then some (i, e) else findEntry m p r
    | none => findEntry m p r

/-- The first free place. -/
def freePlace {α : Type} (m : Sparse (Option α)) (l : List Nat) : Option Nat := l.find? (fun i => (entryAt m i).isNone)

/-- Write an entry. -/
def setEntry {α : Type} [DecidableEq α] (i : Nat) (e : Option α) (m : Sparse (Option α)) : Sparse (Option α) :=
  Sparse.set (fun _ => none) m i e

/-- Move entries between their buckets until one of the places `l` is free: each round the entry of the
lowest place whose other bucket has room moves there; without one, the first entry changes place with
the first of its other bucket. At most `n` moves (R301, R327). -/
def relocate {α : Type} [DecidableEq α] (key : α → List Byte) (buckets : Nat) : Nat → List Nat → Sparse (Option α) → Option (Nat × Sparse (Option α))
  | 0, l, m => (freePlace m l).map (fun i => (i, m))
  | n + 1, l, m =>
    match freePlace m l with
    | some i => some (i, m)
    | none =>
      match l.find? (fun i => match entryAt m i with
          | some e => (freePlace m (keyPlaces buckets (key e))).isSome
          | none => false) with
      | some i =>
        match entryAt m i with
        | some e =>
          match freePlace m (keyPlaces buckets (key e)) with
          | some j => some (i, setEntry i none (setEntry j (some e) m))
          | none => none
        | none => none
      | none =>
        match l.head? with
        | some i =>
          match entryAt m i with
          | some e =>
            let other := (keyPlaces buckets (key e)).filter (fun j => !l.contains j)
            match relocate key buckets n other m with
            | some (j, m') => if entryAt m' i = some e then some (i, setEntry i none (setEntry j (some e) m')) else (freePlace m' l).map (fun k => (k, m'))
            | none => none
          | none => none
        | none => none

/-! ### The L2 table -/

/-- Places of an address and VID. -/
def l2Places (vid mac : Nat) : List Nat := keyPlaces 131072 (l2Key vid mac)

/-- The L2 entry of an address and VID. -/
def l2Find (s : State) (vid mac : Nat) : Option (Nat × L2Entry) :=
  findEntry s.sw.l2 (fun e => e.vid == vid && e.mac == mac) (l2Places vid mac)

/-- Write an L2 entry. -/
def l2Set (place : Nat) (e : Option L2Entry) (s : State) : State := modSw (fun w => { w with l2 := setEntry place e w.l2 }) s

/-! ### The length filter (R307 to R309) -/

/-- Anchor lengths of a family in a view. -/
def anchors (v : Sparse Int) (v6 : Bool) : List Nat :=
  if v6 then (List.range 8).map (viewNat v 0x0700 2) else (List.range 4).map (viewNat v 0x0700 3)

/-- Words of a filter bank. -/
def bankWords (v6 : Bool) : Nat := if v6 then 65536 else 16384

/-- The bank of a length: the last whose anchor is not above it (R307). -/
def bankOf (a : List Nat) (len : Nat) : Nat := (a.filter (fun x => decide (x ≤ len))).length - 1

/-- Index of the filter word of an address in bank `j` (R307). -/
def filterWord (v6 : Bool) (j anchor addr : Nat) : Nat :=
  65536 * j + crc32cFrom 0x0F0F0F0F (BitVec.ofNat 8 j :: beBytes (addrBits v6 / 8) (maskTo v6 anchor addr)) % bankWords v6

/-- Set the filter bit of an entry (R307); length 0 has none. -/
def filterAdd (a : List Nat) (v6 : Bool) (e : L3Entry) (f : Sparse Nat) : Sparse Nat :=
  if e.len = 0 then f
  else
    let j := bankOf a e.len
    let anchor := a.getD j 0
    Sparse.update (fun _ => 0) f (filterWord v6 j anchor e.prefx) (fun w => w ||| 2 ^ (e.len - anchor))

/-- The filter of a family. -/
def filterOf (s : State) (v6 : Bool) : Sparse Nat := if v6 then s.sw.filter6 else s.sw.filter4

/-- Write the filter of a family. -/
def setFilter (v6 : Bool) (f : Sparse Nat) (s : State) : State :=
  modSw (fun w => if v6 then { w with filter6 := f } else { w with filter4 := f }) s

/-- The L3 table of a family. -/
def l3Table (s : State) (v6 : Bool) : Sparse (Option L3Entry) := if v6 then s.sw.v6 else s.sw.v4

/-- Write the L3 table of a family. -/
def setL3Table (v6 : Bool) (m : Sparse (Option L3Entry)) (s : State) : State :=
  modSw (fun w => if v6 then { w with v6 := m } else { w with v4 := m }) s

/-- The entries of a table. -/
def l3Entries (m : Sparse (Option L3Entry)) : List L3Entry := m.filterMap (·.2)

/-- Number of the family among the ageing tables: 1 V6, 2 V4. -/
def familyNum (v6 : Bool) : Nat := if v6 then 1 else 2

/-- A deletion from an L3 table counts against its bank (R309). -/
def countDeletion (v6 : Bool) (len : Nat) (s : State) : State :=
  modSw (fun w => { w with deletions := Sparse.update (fun _ => 0) w.deletions (8 * familyNum v6 + bankOf (anchors s.cfg.live v6) len) (· + 1) }) s

/-- The entries of a bank. -/
def bankEntries (s : State) (v6 : Bool) (j : Nat) : List L3Entry :=
  (l3Entries (l3Table s v6)).filter (fun e => e.len ≠ 0 && bankOf (anchors s.cfg.live v6) e.len == j)

/-- Rebuild one bank of the filter from the entries in force (R309). -/
def rebuildBank (v6 : Bool) (j : Nat) (s : State) : State :=
  let a := anchors s.cfg.live v6
  let f := Sparse.drop (fun k => k / 65536 == j) (filterOf s v6)
  let s := setFilter v6 ((bankEntries s v6 j).foldl (fun f e => filterAdd a v6 e f) f) s
  fwdCount 12 (modSw (fun w => { w with deletions := Sparse.set (fun _ => 0) w.deletions (8 * familyNum v6 + j) 0 }) s)

/-- Rebuild every bank whose deletions exceed one eighth of its entries (R309). -/
def rebuildBanks (s : State) : State :=
  [true, false].foldl (fun s v6 => (List.range 8).foldl (fun s j =>
    if (bankEntries s v6 j).length < 8 * Sparse.get (fun _ => 0) s.sw.deletions (8 * familyNum v6 + j) then rebuildBank v6 j s else s) s) s

/-- Rebuild the whole filter of a family for new anchors. -/
def rebuildFilter (v6 : Bool) (s : State) : State :=
  setFilter v6 ((l3Entries (l3Table s v6)).foldl (fun f e => filterAdd (anchors s.cfg.live v6) v6 e f) []) s

/-! ### The L3 lookup (R308, R311) -/

/-- The places of a prefix. -/
def l3Places (v6 : Bool) (len addr : Nat) : List Nat := keyPlaces (if v6 then 262144 else 65536) (l3Key v6 len addr)

/-- The L3 entry of a prefix in a table. -/
def l3Find (m : Sparse (Option L3Entry)) (v6 : Bool) (len addr : Nat) : Option (Nat × L3Entry) :=
  let p := maskTo v6 len addr
  findEntry m (fun e => e.len == len && e.prefx == p) (l3Places v6 len p)

/-- The candidate lengths of a destination, longest first (R308, R311). -/
def candidates (a : List Nat) (f : Sparse Nat) (m : Sparse (Option L3Entry)) (v6 : Bool) (addr : Nat) : List Nat :=
  let fromBank := fun j =>
    let anchor := a.getD j 0
    let w := Sparse.get (fun _ => 0) f (filterWord v6 j anchor addr)
    ((bitList 64 w).map (anchor + ·)).filter (fun l => decide (l ≤ addrBits v6))
  let l := ((List.range a.length).map fromBank).flatten.reverse
  if (l3Entries m).any (fun e => e.len == 0) then l ++ [0] else l

/-- Probe candidates in order: the hit with the candidates not probed, and the number of probes. -/
def probe (m : Sparse (Option L3Entry)) (v6 : Bool) (addr : Nat) : List Nat → Option (Nat × L3Entry) × Nat
  | [] => (none, 0)
  | l :: r => match l3Find m v6 l addr with
    | some x => (some x, 1)
    | none => let (x, n) := probe m v6 addr r; (x, n + 1)

/-! ### Ageing marks (R318 to R320) -/

/-- AGE_MODE of a table: 0 L2, 1 V6, 2 V4. -/
def ageMode (s : State) (t : Nat) : Nat := cfgNat s 0x0700 4 t

/-- The current stamp (R319). -/
def ageStamp (s : State) : Nat := nowSec s / cfgNat s 0x0700 5 0 % 65536

/-- An L2 entry is seen. -/
def l2Seen (s : State) (e : L2Entry) : L2Entry :=
  match ageMode s 0 with
  | 1 => { e with stamp := ageStamp s }
  | 2 => { e with hit := true }
  | _ => e

/-- An L3 entry of a table is seen. -/
def l3Seen (s : State) (t : Nat) (e : L3Entry) : L3Entry :=
  match ageMode s t with
  | 1 => { e with stamp := ageStamp s }
  | 2 => { e with hit := true }
  | _ => e

/-- Mark the live entry at a place of an L3 table seen, if it is still the one hit. -/
def markSeen (v6 : Bool) (place : Nat) (e : L3Entry) (s : State) : State :=
  match entryAt (l3Table s v6) place with
  | some x => if x.len = e.len ∧ x.prefx = e.prefx then setL3Table v6 (setEntry place (some (l3Seen s (familyNum v6) x)) (l3Table s v6)) s else s
  | none => s

/-! ### Routing and bridging (R303 to R305) -/

/-- A valid ROUTER_MAC of a view. -/
def routerMac (v : Sparse Int) (i : Nat) : Option Nat :=
  let x := viewNat v 0x0700 1 i
  if x / 2 ^ 48 = 1 then some (x % 2 ^ 48) else none

/-- The VLAN entry of a VID in a view: LEARN, ROUTE, members. -/
def vlanLearn (v : Sparse Int) (vid : Nat) : Bool := bit (viewNat v 0x0701 1 vid) 0
def vlanRoute (v : Sparse Int) (vid : Nat) : Bool := bit (viewNat v 0x0701 1 vid) 1
def vlanMembers (v : Sparse Int) (vid : Nat) : Nat := viewNat v 0x0701 1 vid / 4

/-- DA and SA of an Ethernet frame. -/
def frameDa (f : List Byte) : Nat := fldBE f 0 6
def frameSa (f : List Byte) : Nat := fldBE f 6 6

/-- The first header after the tags. -/
def afterTags (m : PktMeta) : Option (Nat × Nat × Nat) := (m.hdrs.dropWhile (fun h => [1, 2, 3].contains h.1)).head?

/-- The header on whose destination a packet is routed: V6, its offset; none where it is bridged (R303). -/
def routeHeader (v : Sparse Int) (k : Packet) : Option (Bool × Nat) :=
  if isMesh k.md.src then (k.md.hdrs.find? (fun h => h.1 == 5)).map (fun h => (true, h.2.1))
  else if (List.range 16).any (fun i => routerMac v i == some (frameDa k.bytes)) ∧ vlanRoute v k.md.vid then
    match afterTags k.md with
    | some (4, o, _) => some (false, o)
    | some (5, o, _) => some (true, o)
    | _ => none
  else none

/-- TTL or Hop Limit. -/
def hopLimit (v6 : Bool) (o : Nat) (f : List Byte) : Nat := if v6 then byteAt f (o + 7) else byteAt f (o + 8)

/-- The destination address. -/
def dstAddr (v6 : Bool) (o : Nat) (f : List Byte) : Nat := if v6 then fldBE f (o + 24) 16 else fldBE f (o + 16) 4

/-- ACT_L3_MISS or ACT_HOP_LIMIT with its trap code: DROP or TO_HOST (Table 12.9). -/
def missAction (act trap : Nat) (k : Packet) : Packet :=
  if act = 2 then { k with md := { k.md with disp := 2, trap } } else { k with md := { k.md with disp := 1 } }

/-- Change a packet's metadata. -/
def modMd (f : PktMeta → PktMeta) (k : Packet) : Packet := { k with md := f k.md }

/-- A hit applies the next hop (Table 12.2). An entry whose next hop is not valid cannot be live (R328). -/
def applyNexthop (v : Sparse Int) (e : L3Entry) (k : Packet) : Packet :=
  let h := viewNat v 0x0702 1 e.nexthop
  let k := modMd (fun m => { m with fwdKind := 2, prefixLen := e.len, nexthop := e.nexthop }) k
  match bits h 0 2 with
  | 0 => { modMd (fun m => { m with egress := some (bits h 3 7), vid := bits h 10 12 }) k with
             rewrite := .ethernet (bits h 40 48) (viewNat v 0x0700 1 0 % 2 ^ 48) }
  | 1 => { modMd (fun m => { m with egress := some (bits h 3 7), vid := bits h 10 12 }) k with rewrite := .mesh, dest := some (bits h 22 18) }
  | 2 => modMd (fun m => { m with disp := 2, trap := bits h 88 8 }) k
  | _ => modMd (fun m => { m with disp := 1 }) k

/-- The packet goes to the slow path of its pipeline, or is dropped when the queue is full (R312). -/
def toSlowPath (pipe : Nat) (cands : List Nat) (k : Packet) (s : State) : State :=
  let q := Sparse.get (fun _ => []) s.sw.slow pipe
  if 1024 ≤ q.length then fwdCount 10 s
  else
    let x : SlowPkt := { pkt := k, left := s.now, cands }
    fwdCount 9 (modSw (fun w => { w with slow := Sparse.set (fun _ => []) w.slow pipe (q ++ [x]) }) s)

/-- An L3 miss (R305). -/
def l3Miss (v : Sparse Int) (k : Packet) (s : State) : Packet × State :=
  (missAction (viewNat v 0x0700 12 0) 0xF8 (modMd (fun m => { m with fwdKind := 3 }) k), fwdCount 5 s)

/-- The routed lookup (R303, R305, R311); none where the packet went to the slow path. -/
def lookupL3 (v : Sparse Int) (pipe : Nat) (v6 : Bool) (o : Nat) (k : Packet) (s : State) : Option Packet × State :=
  if hopLimit v6 o k.bytes ≤ 1 then (some (missAction (viewNat v 0x0700 13 0) 0xF9 k), fwdCount 6 s)
  else
    let addr := dstAddr v6 o k.bytes
    let m := l3Table s v6
    let cands := candidates (anchors v v6) (filterOf s v6) m v6 addr
    let (hit, n) := probe m v6 addr (cands.take 8)
    let k := modMd (fun x => { x with probes := n }) k
    let s := ctrAdd .fwd 0 7 n s
    match hit with
    | some (place, e) =>
      let s := ctrAdd .fwd 0 8 (n - 1) s
      (some (applyNexthop v e k), fwdCount 4 (markSeen v6 place e s))
    | none =>
      let s := ctrAdd .fwd 0 8 n s
      if 8 < cands.length then (none, toSlowPath pipe (cands.drop 8) k s)
      else let (k, s) := l3Miss v k s; (some k, s)

/-- A learn request of a bridged frame (R314). -/
def learnFrame (v : Sparse Int) (k : Packet) (s : State) : State :=
  if bit (viewNat v 0x0700 8 0) k.md.src ∧ vlanLearn v k.md.vid ∧ !bit k.md.flags 6 then
    if 4096 ≤ s.sw.learnQ.length then fwdCount 14 s
    else
      let r : LearnReq := { mac := frameSa k.bytes, vid := k.md.vid, port := k.md.src, timeUs := nowNs s / 1000 }
      modSw (fun w => { w with learnQ := w.learnQ ++ [r] }) s
  else s

/-- The bridged lookup (R305). -/
def lookupL2 (v : Sparse Int) (k : Packet) (s : State) : Packet × State :=
  let src := k.md.src
  if !isMesh src && !bit (vlanMembers v k.md.vid) src then (modMd (fun m => { m with disp := 1 }) k, fwdCount 3 s)
  else
    let s := learnFrame v k s
    let flood := fun s => (modMd (fun m => { m with fwdKind := 3, flood := true, egress := none }) k, fwdCount 1 s)
    if bit (byteAt k.bytes 0) 0 then flood s
    else match l2Find s k.md.vid (frameDa k.bytes) with
      | some (_, e) =>
        let out := if e.remote then chordPort else e.port
        let k := modMd (fun m => { m with fwdKind := 1, egress := some out }) k
        let s := fwdCount 0 s
        if out = src then (modMd (fun m => { m with disp := 1 }) k, fwdCount 2 s)
        else ({ k with remote := if e.remote then some e.origin else none }, s)
      | none => flood s

/-- The forwarding lookup between stages S2 and S3 (R303): none where the packet went to the slow path. -/
def forwardLookup (v : Sparse Int) (pipe : Nat) (k : Packet) (s : State) : Option Packet × State :=
  if k.md.disp = 1 ∨ k.md.egress.isSome then (some k, s)
  else match routeHeader v k with
    | some (v6, o) => lookupL3 v pipe v6 o k s
    | none =>
      if isMesh k.md.src then (some k, s)
      else let (k, s) := lookupL2 v k s; (some k, s)

/-! ### Learning messages (R322 to R325) -/

/-- A learning message body (Table 12.8). -/
def learnBody (type origin vid seq mac port timeUs : Nat) : List Byte :=
  leBytes 32 (type + at' 8 origin + at' 16 vid + at' 32 seq + at' 64 mac + at' 112 port + at' 128 timeUs)

/-- Number a learning message of this chip (R323). -/
def nextOriginSeq (s : State) : Nat × State :=
  (s.sw.originSeq, modSw (fun w => { w with originSeq := (w.originSeq + 1) % 2 ^ 32 }) s)

/-- Send a learning message to every member (R322). -/
def learnSend (type : Nat) (e : L2Entry) (s : State) : State :=
  if cfgNat s 0x0700 11 0 = 1 then
    let (seq, s) := nextOriginSeq s
    chordBroadcast 0x40 (learnBody type (memberId s) e.vid seq e.mac e.port e.timeUs) (fwdCount 23 s)
  else s

/-- Send a learning message to one member (R323). -/
def learnSendTo (dst type vid mac port timeUs : Nat) (s : State) : State :=
  let (seq, s) := nextOriginSeq s
  chordSend 0x40 dst 0 (learnBody type (memberId s) vid seq mac port timeUs) (fwdCount 23 s)

/-- A local learned entry: not STATIC and not REMOTE. -/
def L2Entry.local (e : L2Entry) : Bool := !e.static && !e.remote

/-! ### The learning engine (R314 to R317) -/

/-- A learned entry for a request (R324: its own time). -/
def newLearned (s : State) (r : LearnReq) : L2Entry :=
  l2Seen s { mac := r.mac, vid := r.vid, port := r.port, static := false, remote := false, origin := memberId s, hit := false, stamp := 0,
             damped := false, timeUs := r.timeUs, missed := false, moves := [], dampedAt := 0, refreshed := false }

/-- The table holds as many entries as the UR-340 does (R500). -/
def urTableFull (s : State) : Bool := inModes [.activeC, .standbyC] s && decide (8192 ≤ s.sw.l2.length)

/-- A move of an entry to a port (R315, R316): ignored while DAMPED, else made; the move that exceeds
MOVE_LIMIT within one second sets DAMPED. -/
def learnMove (place : Nat) (e : L2Entry) (r : LearnReq) (s : State) : State :=
  if e.damped then fwdCount 18 s
  else
    let moves := (s.now :: e.moves).filter (fun t => decide (s.now < t + secTicks))
    let storm := decide (cfgNat s 0x0700 9 0 < moves.length)
    let m : L2Entry := { e with port := r.port, remote := false, origin := memberId s, timeUs := max r.timeUs (e.timeUs + 1) }
    let m := l2Seen s { m with moves := if storm then [] else moves, damped := storm, dampedAt := if storm then s.now else 0 }
    let s := learnSend 1 m (fwdCount 16 (l2Set place (some m) s))
    if storm then raise 0x0301 (leBytes 6 e.mac ++ leBytes 2 e.vid ++ leBytes 1 r.port) s else s

/-- The learning engine takes one request (R314 to R317, R500). -/
def learn (r : LearnReq) (s : State) : State :=
  match l2Find s r.vid r.mac with
  | some (place, e) =>
    if e.static then (if e.port = r.port then s else fwdCount 17 s)
    else if e.port = r.port ∧ !e.remote then l2Set place (some (l2Seen s e)) s
    else learnMove place e r s
  | none =>
    if urTableFull s then fwdCount 15 s
    else match freePlace s.sw.l2 (l2Places r.vid r.mac) with
      | some place => let e := newLearned s r; learnSend 1 e (fwdCount 13 (l2Set place (some e) s))
      | none => fwdCount 15 s

/-- LEARN_REQUEST: the learning engine takes the head of its queue (R314). -/
def execLearnRequest (dt : Nat) (s : State) : Host.Outcome State Fault Refusal :=
  event dt (fun s =>
    match s.sw.learnQ with
    | r :: rest => learn r (modSw (fun w => { w with learnQ := rest }) s)
    | [] => s) s

/-- MOVE_HOLD_EXPIRY: DAMPED clears MOVE_HOLD after it was set (R316). -/
def execMoveHoldExpiry (dt vid mac : Nat) (s : State) : Host.Outcome State Fault Refusal :=
  event dt (fun s =>
    match l2Find s vid mac with
    | some (place, e) =>
      if e.damped ∧ cfgNat s 0x0700 10 0 * secTicks ≤ since s e.dampedAt then l2Set place (some { e with damped := false, dampedAt := 0 }) s
      else s
    | none => s) s

/-! ### Ageing (R318 to R321) -/

/-- The marks of an ageable entry at the change of AGE_MODE (R321): HIT_BIT to TIME_STAMP stamps,
TIME_STAMP to HIT_BIT sets HIT. -/
def ageChange (s : State) (old new : Nat) (hit : Bool) (stamp : Nat) : Bool × Nat :=
  if old = 2 ∧ new = 1 then (hit, ageStamp s) else if old = 1 ∧ new = 2 then (true, stamp) else (hit, stamp)

/-- The sweeper's visit to an entry: the marks that stay, or none where it is removed (R319, R320). -/
def sweepVisit (s : State) (t : Nat) (hit : Bool) (stamp : Nat) (missed : Bool) : Option (Bool × Nat × Bool) :=
  let mode := ageMode s t
  let seen := Sparse.get (fun _ => 0) s.sw.ageSeen t
  let (hit, stamp) := ageChange s (seen - 1) mode hit stamp
  match mode with
  | 1 => if cfgNat s 0x0700 6 t ≤ (ageStamp s + 65536 - stamp) % 65536 then none else some (hit, stamp, missed)
  | 2 => if hit then some (false, stamp, false) else if missed then none else some (false, stamp, true)
  | _ => some (hit, stamp, missed)

/-- Sweep one L2 place. -/
def sweepL2 (s : State) (place : Nat) : State :=
  match entryAt s.sw.l2 place with
  | some e =>
    if e.local then
      match sweepVisit s 0 e.hit e.stamp e.missed with
      | some (hit, stamp, missed) => l2Set place (some { e with hit, stamp, missed }) s
      | none => learnSend 2 e (fwdCount 20 (l2Set place none s))
    else s
  | none => s

/-- Sweep one L3 place; a removal also leaves the banks of older epochs (R331). -/
def sweepL3 (v6 : Bool) (s : State) (place : Nat) : State :=
  match entryAt (l3Table s v6) place with
  | some e =>
    if e.ageable then
      match sweepVisit s (familyNum v6) e.hit e.stamp e.missed with
      | some (hit, stamp, missed) => setL3Table v6 (setEntry place (some { e with hit, stamp, missed }) (l3Table s v6)) s
      | none =>
        let gone := fun (m : Sparse (Option L3Entry)) => m.filter (fun p => match p.2 with
          | some x => !(x.len == e.len && x.prefx == e.prefx)
          | none => true)
        let s := setL3Table v6 (setEntry place none (l3Table s v6)) s
        let s := modSw (fun w => { w with banks := w.banks.map (fun b => if v6 then { b with v6 := gone b.v6 } else { b with v4 := gone b.v4 }) }) s
        countDeletion v6 e.len (fwdCount (if v6 then 21 else 22) s)
    else s
  | none => s

/-- Report ageing removals: at most one FWD_AGED per table per second (R321). -/
def reportAged (t n : Nat) (s : State) : State :=
  let total := Sparse.get (fun _ => 0) s.sw.aged t + n
  let at? := Sparse.get (fun _ => 0) s.sw.agedAt t
  if total = 0 then s
  else if at? = 0 ∨ at? - 1 + secTicks ≤ s.now then
    raise 0x0302 (leBytes 1 t ++ zeros 3 ++ leBytes 4 total)
      (modSw (fun w => { w with aged := Sparse.set (fun _ => 0) w.aged t 0, agedAt := Sparse.set (fun _ => 0) w.agedAt t (s.now + 1) }) s)
  else modSw (fun w => { w with aged := Sparse.set (fun _ => 0) w.aged t total }) s

/-- AGEING_SWEEP: the sweeper visits every entry of a table once (0 L2, 1 V6, 2 V4), reports the
removals and rebuilds the filter banks that need it (R309, R319 to R321). -/
def execAgeingSweep (dt t : Nat) (s : State) : Host.Outcome State Fault Refusal :=
  event dt (fun s =>
    let was := match t with | 0 => s.sw.l2.length | 1 => s.sw.v6.length | _ => s.sw.v4.length
    let s := match t with
      | 0 => (Sparse.keys s.sw.l2).foldl sweepL2 s
      | 1 => (Sparse.keys s.sw.v6).foldl (sweepL3 true) s
      | 2 => (Sparse.keys s.sw.v4).foldl (sweepL3 false) s
      | _ => s
    let now := match t with | 0 => s.sw.l2.length | 1 => s.sw.v6.length | _ => s.sw.v4.length
    let s := modSw (fun w => { w with ageSeen := Sparse.set (fun _ => 0) w.ageSeen t (ageMode s t + 1) }) s
    if 2 < t then s else rebuildBanks (reportAged t (was - now) s)) s

/-! ### Messages received -/

/-- The pair of a message is newer than the entry's (R325). -/
def newerPair (timeUs origin : Nat) (e : L2Entry) : Bool :=
  decide (e.timeUs < timeUs) || (decide (timeUs = e.timeUs) && decide (origin < e.origin))

/-- A LEARN or REFRESH is applied when its pair is newer (R325). -/
def importLearn (origin vid mac port timeUs : Nat) (refresh : Bool) (s : State) : State :=
  match l2Find s vid mac with
  | some (place, e) =>
    if e.static then fwdCount 25 s
    else if newerPair timeUs origin e then
      fwdCount 24 (l2Set place (some { e with port, origin, timeUs, remote := true, refreshed := refresh }) s)
    else
      let mine := refresh && e.remote && e.origin == origin && e.timeUs == timeUs
      fwdCount 25 (if mine then l2Set place (some { e with refreshed := true }) s else s)
  | none =>
    match freePlace s.sw.l2 (l2Places vid mac) with
    | some place =>
      let e : L2Entry := { mac, vid, port, static := false, remote := true, origin, hit := false, stamp := 0, damped := false, timeUs, missed := false, moves := [], dampedAt := 0, refreshed := refresh }
      fwdCount 24 (l2Set place (some e) s)
    | none => fwdCount 15 s

/-- A WITHDRAW removes the entry whose pair it names (R325). -/
def importWithdraw (origin vid mac timeUs : Nat) (s : State) : State :=
  match l2Find s vid mac with
  | some (place, e) =>
    if e.remote ∧ !e.static ∧ e.timeUs = timeUs ∧ e.origin = origin then fwdCount 24 (l2Set place none s) else fwdCount 25 s
  | none => fwdCount 25 s

/-- Change every REMOTE entry of an origin. -/
def mapRemote (origin : Nat) (f : L2Entry → Option L2Entry) (s : State) : State :=
  (Sparse.keys s.sw.l2).foldl (fun s place =>
    match entryAt s.sw.l2 place with
    | some e => if e.remote ∧ e.origin = origin then l2Set place (f e) s else s
    | none => s) s

/-- Remove every REMOTE entry of an origin that left the cluster (R323, R438). -/
def dropRemote (origin : Nat) (s : State) : State := mapRemote origin (fun _ => none) s

/-- Send RESYNC_REQ to an origin: the entries that the answer does not refresh will go (R323). -/
def requestResync (origin : Nat) (s : State) : State :=
  let s := mapRemote origin (fun e => some { e with refreshed := false }) s
  learnSendTo origin 4 0 0 0 0 (modSw (fun w => { w with resync := Sparse.set (fun _ => 0) w.resync origin 1 }) s)

/-- The sequence number of a learning message (R323): a larger one than expected, modulo 2^32, counts
the gap and sends RESYNC_REQ; a smaller one changes nothing. -/
def checkSeq (origin seq : Nat) (s : State) : State :=
  let exp := Sparse.get (fun _ => 0) s.sw.expected origin
  let ahead := (seq + 2 ^ 32 - exp) % 2 ^ 32
  if ahead < 2 ^ 31 then
    let s := modSw (fun w => { w with expected := Sparse.set (fun _ => 0) w.expected origin ((seq + 1) % 2 ^ 32) }) s
    if ahead = 0 then s else requestResync origin (fwdCount 26 s)
  else s

/-- The answer to a RESYNC_REQ has ended: unrefreshed entries of the origin go (R323). -/
def endResync (origin : Nat) (s : State) : State :=
  if Sparse.get (fun _ => 0) s.sw.resync origin = 1 then
    let s := mapRemote origin (fun e => if e.refreshed then some { e with refreshed := false } else none) s
    modSw (fun w => { w with resync := Sparse.set (fun _ => 0) w.resync origin 0 }) s
  else s

/-- What every message of a member tells (R420): its firmware level, its epoch, and when it was heard. EPOCH_BEHIND
is raised once per sender and epoch, and RESYNC_REQ sent once this chip's epoch is no lower. -/
def noteHeader (src compat epoch : Nat) (s : State) : State :=
  if src = memberId s then s
  else
    let m := memberOf s src
    let far := compatFar s compat
    let s := modMember src (fun m => { m with compat, epoch, heardAt := s.now, compatBad := far }) s
    let s := if far && !m.compatBad then raise 0x0804 (leBytes 1 src ++ zeros 1 ++ leBytes 2 compat) s else s
    let s := if far && src = twinId s then loseSync s else s
    let s := if !far && m.compatBad && src = twinId s then beginResync none s else s
    if s.cfg.epoch.toNat < epoch then
      if m.behind = epoch + 1 then s
      else raise 0x0805 (leBytes 1 src ++ zeros 3 ++ leBytes 4 epoch) (modMember src (fun m => { m with behind := epoch + 1 }) s)
    else if m.behind = 0 then s
    else requestResync src (modMember src (fun m => { m with behind := 0 }) s)

/-- The import rules of R420 for a message of class LEARN from a member: its FW_COMPAT, then its epoch. -/
def importRules (src compat epoch : Nat) (f : State → State) (s : State) : State :=
  let s := noteHeader src compat epoch s
  if compatFar s compat then s
  else if s.cfg.epoch.toNat < epoch then ctrInc .chip 0 1 s
  else f s

/-- A LEARN (1), WITHDRAW (2) or REFRESH (3) arrives from its origin (R322 to R325). -/
def learnMessage (src compat epoch type vid seq mac port timeUs : Nat) (s : State) : State :=
  if !chordRuns s ∨ cfgNat s 0x0700 11 1 = 0 ∨ !(1 ≤ type ∧ type ≤ 3) then s
  else importRules src compat epoch (fun s =>
    let s := checkSeq src seq s
    match type with
    | 1 => importLearn src vid mac port timeUs false s
    | 2 => importWithdraw src vid mac timeUs s
    | _ => if mac = 0 ∧ vid = 0 then endResync src s else importLearn src vid mac port timeUs true s) s

/-- LEARN_MESSAGE_RECEIVED (R325) -/
def execLearnMessageReceived (dt src compat epoch type vid seq mac port timeUs : Nat) (s : State) : Host.Outcome State Fault Refusal :=
  event dt (learnMessage src compat epoch type vid seq mac port timeUs) s

/-- A RESYNC_REQ is answered by one REFRESH for each local learned entry, then the one that ends the answer (R323). -/
def resyncReq (src compat epoch seq : Nat) (s : State) : State :=
  if !chordRuns s then s
  else importRules src compat epoch (fun s =>
    let s := checkSeq src seq s
    let l := (s.sw.l2.filterMap (·.2)).filter L2Entry.local
    let s := l.foldl (fun s e => learnSendTo src 3 e.vid e.mac e.port e.timeUs s) s
    learnSendTo src 3 0 0 0 0 s) s

/-- RESYNC_REQ_RECEIVED (R323) -/
def execResyncReqReceived (dt src compat epoch seq : Nat) (s : State) : Host.Outcome State Fault Refusal :=
  event dt (resyncReq src compat epoch seq) s

end Sys2Proof.Machine
end

