-- ==== Sys2Proof/Machine/Queueing.lean ====
section
/-!
DEFINITION. Admission (R335 to R339), the pipelines (R281, R290, R311 to R313), mirroring (R347),
scheduling (R341 to R343), delivery to the host ring and the Chord port, queue flush (R349), and the
drain of held records (R254).
-/
namespace Sys2Proof.Machine

/-! ### Admission -/

/-- The ingress of a packet is held: its accounted cells stand at XOFF_CELLS or above (R338). -/
def ingressHeld (s : State) (m : PktMeta) : Bool :=
  isMac m.src &&
  match portCfg s m.src 13 with
  | 1 => decide (portCfg s m.src 15 ≤ portCells s m.src none)
  | 2 => bit (portCfg s m.src 14) m.ipri && decide (portCfg s m.src 15 ≤ portCells s m.src (some m.ipri))
  | _ => false

/-- What admission decides of a replica (R337). -/
inductive Decision where
  | enqueue (part : Part)
  | hold
  /-- Refused, counted in the counter of Table 13.9 with this number. -/
  | refuse (counter : Nat)
  deriving DecidableEq, Repr

/-- alpha(q) × F, rounded down, with a share in eighths (R337). -/
def sharedLimit (s : State) (p q share : Nat) : Nat := freeShared s * 2 ^ qosCfg s p 3 q * share / 512

/-- The decision of R337, with the diversion of ISLAND (R339). -/
def decideReplica (s : State) (r : Replica) : Decision :=
  let p := r.port
  let q := r.queue
  let l := queueList s p q
  let g := chargeOf .guaranteed l
  let sh := chargeOf .shared l
  let held := ingressHeld s r.pkt.md
  let mirror := match r.kind with
    | .mirror _ => true
    | .data => false
    | .hostCopy => false
  if portDisabled s p || laneMember s p then .refuse 10
  else if islandHolds s ∧ backhaulPort s p then .hold
  else if !egressUp s p ∧ portCfg s p 21 = 1 then (if holdsFor s p then .hold else .refuse 11)
  else if freeDescs s = 0 then .refuse 9
  else if mirror then
    if freeShared s < cfgNat s 0x0500 4 0 ∨ sharedLimit s p q 8 < sh + r.charge then .refuse 13 else .enqueue .shared
  else if r.pkt.md.colour ≠ 2 ∧ g + r.charge ≤ qosCfg s p 1 q then .enqueue .guaranteed
  else if held ∧ headroomUsed s r.pkt.md.src + r.charge ≤ qosCfg s r.pkt.md.src 11 0 then .enqueue .headroom
  else if qosCfg s p 2 q < g + sh + r.charge then .refuse (if held then 7 else 8)
  else
    let share := match r.pkt.md.colour with
      | 0 => 8
      | 1 => cfgNat s 0x0500 2 0
      | _ => cfgNat s 0x0500 3 0
    if sh + r.charge ≤ sharedLimit s p q share then .enqueue .shared
    else .refuse (if held then 7 else 4 + r.pkt.md.colour)

/-- The high-water mark of g(q) + sh(q) follows (R355). -/
def noteHwm (p q : Nat) (s : State) : State :=
  let l := queueList s p q
  let v := chargeOf .guaranteed l + chargeOf .shared l
  modSw (fun w => { w with hwm := Sparse.update (fun _ => 0) w.hwm (8 * p + q) (max v) }) s

/-- A replica for a backhaul port becomes a held record (R42, R43). -/
def holdReplica (r : Replica) (s : State) : State := holdPacket r.port (rewritten r.pkt) (queueAdd r.port r.queue 12 1 s)

/-- The session of a mirror copy counts a refusal (R348). -/
def countRefusal (k : CopyKind) (s : State) : State :=
  match k with
  | .mirror m => ctrInc .mirror m 1 s
  | .data => s
  | .hostCopy => s

/-- A replica is offered to admission (R337): the state after, and whether it was admitted. -/
def offer (r : Replica) (s : State) : State × Bool :=
  match decideReplica s r with
  | .enqueue part =>
    let s := setQueueList r.port r.queue (queueList s r.port r.queue ++ [{ r with part }]) s
    (noteHwm r.port r.queue (queueAdd r.port r.queue 1 r.pkt.bytes.length (queueAdd r.port r.queue 0 1 s)), true)
  | .hold => (holdReplica r s, false)
  | .refuse n => (countRefusal r.kind (queueAdd r.port r.queue n 1 s), false)

/-- A replica before admission. -/
def mkReplica (k : Packet) (port queue : Nat) (kind : CopyKind) (prp : Option (Nat × Nat)) : Replica :=
  { pkt := k, port, queue, part := .shared, charge := k.cells, kind, prp }

/-! ### Replicas (R335, R347, R351) -/

/-- Insert a replica in egress-port order, after those of the same port. -/
def insertReplica (r : Replica) : List Replica → List Replica
  | [] => [r]
  | x :: l => if r.port < x.port then r :: x :: l else x :: insertReplica r l

/-- The next sequence number of a pair (R351). -/
def nextPrpSeq (i : Nat) (s : State) : Nat × State :=
  let n := Sparse.get (fun _ => 0) s.sw.prpSeq i
  (n, modSw (fun w => { w with prpSeq := Sparse.set (fun _ => 0) w.prpSeq i ((n + 1) % 65536) }) s)

/-- The replicas of a packet for one egress: both ports of a PRP pair, none where source and egress are
the same pair (R335, R351). -/
def egressReplicas (k : Packet) (p : Nat) (s : State) : List Replica × State :=
  match pairOf s p with
  | none => ([mkReplica k p k.md.queue .data none], s)
  | some i =>
    if pairOf s k.md.src = some i then ([], ctrInc .prp i 5 s)
    else match prpPair s i with
      | some (a, b) =>
        let (n, s) := nextPrpSeq i s
        ([mkReplica k a k.md.queue .data (some (i, n)), mkReplica k b k.md.queue .data (some (i, n))], s)
      | none => ([], s)

/-- One egress of each PRP pair stands for the pair. -/
def onePerPair (s : State) : List Nat → List Nat → List Nat
  | _, [] => []
  | seen, p :: r => match pairOf s p with
    | some i => if seen.contains i then onePerPair s seen r else p :: onePerPair s (i :: seen) r
    | none => p :: onePerPair s seen r

/-- The egresses of a packet (R335): in standby only ports of PRP pairs (R353). -/
def egressesOf (v : Sparse Int) (s : State) (m : PktMeta) : List Nat :=
  let l := match m.egress with
    | some p => [p]
    | none => if m.flood then (bitList 128 (vlanMembers v m.vid)).filter (fun p => p != m.src) else []
  onePerPair s [] (if standsBy s then l.filter (fun p => (pairOf s p).isSome) else l)

/-- The content of a mirror copy (R347): mesh sources gain a header, then truncation. -/
def mirrorBytes (s : State) (v : Sparse Int) (m src : Nat) (f : List Byte) : List Byte :=
  let f := if isMesh src then beBytes 6 (cfgNat s 0x0501 7 m) ++ beBytes 6 (viewNat v 0x0700 1 0 % 2 ^ 48) ++ beBytes 2 0x86DD ++ f else f
  if cfgNat s 0x0501 6 m = 1 then f.take 128 else f

/-- A mirror copy of a packet with content `f` for session `m`. -/
def mirrorReplica (s : State) (v : Sparse Int) (m : Nat) (k : Packet) (f : List Byte) : Replica :=
  let cut := cfgNat s 0x0501 6 m == 1
  let k' := { k with bytes := mirrorBytes s v m k.md.src f, rewrite := .none, tsReq := false, tsInsert := false, remote := none }
  { mkReplica k' (cfgNat s 0x0501 2 m) (cfgNat s 0x0501 3 m) (.mirror m) none with charge := if cut then 1 else k.cells }

/-- The sessions that copy at an ingress (R347). -/
def ingressSessions (s : State) (k : Packet) : List Nat :=
  (List.range 4).filter (fun m => cfgNat s 0x0501 1 m == 1 && (bit (cfgNat s 0x0501 4 m) k.md.src || bit k.md.mirror m))

/-- Mirror copies count as made (R348). -/
def countMade (l : List Nat) (s : State) : State := l.foldl (fun s m => ctrInc .mirror m 0 s) s

/-- Offer replicas in egress-port order (R337). -/
def offerAll (l : List Replica) (s : State) : State := (l.foldl (fun a r => insertReplica r a) []).foldl (fun s r => (offer r s).1) s

/-- At the end of stage S5 the packet becomes replicas (R335, R347, R353). -/
def resolve (v : Sparse Int) (k : Packet) (s : State) : State :=
  let m := k.md
  let plain := { k with rewrite := Rewrite.none }
  let sess := ingressSessions s k
  let copies := sess.map (fun i => mirrorReplica s v i k k.bytes)
  let s := countMade sess s
  if m.disp = 1 ∨ k.toApex then offerAll copies s
  else
    let (data, s) : List Replica × State :=
      if m.disp = 2 then (if standsBy s then ([], s) else ([mkReplica plain hostPort m.queue .data none], s))
      else (egressesOf v s m).foldl (fun a p => let (l, s) := egressReplicas k p a.2; (a.1 ++ l, s)) ([], s)
    let host := if m.copyHost ∧ !standsBy s then [mkReplica plain hostPort m.queue .hostCopy none] else []
    let all := data ++ host
    let s := if all.isEmpty then
        (if standsBy s then (if isMac m.src then portCount m.src 23 s else s)
         else if m.flood ∨ m.egress.isNone ∨ (m.egress.bind (pairOf s)) = none then ctrInc .queue hostPort 120 s else s)
      else s
    offerAll (all ++ copies) s

/-! ### PTP trapping (R366, R367) -/

/-- The PTP header of a packet: its offset, and the IP family of its UDP header if any. -/
def ptpHeader (m : PktMeta) : Option (Nat × Option (Nat × Nat × Nat)) :=
  match m.hdrs.getLast? with
  | some (0x10, o, _) =>
    let before := m.hdrs.dropLast
    match before.getLast? with
    | some (0x0B, uo, _) => (before.dropLast.getLast?).map (fun h => (o, some (h.1, h.2.1, uo)))
    | _ => some (o, none)
  | _ => none

/-- A PTP message on a port of its mode is trapped to the Apex, or counted (R367); 0x8 to 0xD are
general messages, 0xA Pdelay_Resp_Follow_Up. -/
def ptpTrap (k : Packet) (s : State) : Packet × State :=
  match ptpHeader k.md with
  | some (o, _) =>
    if isMac k.md.src then
      let x := ptpOf s k.md.src
      let type := byteAt k.bytes o % 16
      let trap := ({ k with md := { k.md with trap := 0xF7 }, toApex := true }, ctrInc .time 0 4 s)
      if x.mode = 2 then
        if [2, 3, 0xA].contains type then trap else if type = 1 then (k, ctrInc .time 0 3 s) else (k, s)
      else if x.mode = 3 ∧ byteAt k.bytes (o + 4) = x.domain.toNat then trap
      else (k, s)
    else (k, s)
  | none => (k, s)

/-! ### Pipelines (R281, R282) -/

/-- Stages S3 to S5, then the replicas. -/
def afterLookup (v : Sparse Int) (pipe : Nat) (k : Packet) (s : State) : State :=
  let was := k.md.disp
  let (k, s) := runStages v pipe [3, 4, 5] k s
  let s := if was ≠ 1 ∧ k.md.disp = 1 then pipeCount pipe 21 s else s
  let (k, s) := if k.md.disp = 1 then (k, s) else ptpTrap k s
  resolve v k s

/-- The way of a packet through its pipeline (R281, R290, R292, R303, R335). -/
def runPipeline (pipe : Nat) (k : Packet) (s : State) : State :=
  let v := s.cfg.live
  let t := merTime s.time.mer
  let inner := !isMac k.md.src
  let md := { k.md with epoch := s.cfg.epoch.toNat, tsNs := if inner then t / 65536 % 1000000000 else k.md.tsNs,
                        tsSec := if inner then t / secUnits else k.md.tsSec }
  let k := parseInto s { k with md }
  let (k, s) := applyExceptions v pipe k (pipeCount pipe 0 s)
  if k.md.disp = 1 then resolve v k s
  else
    let (k, s) := runStages v pipe [0, 1, 2] k s
    let s := if k.md.disp = 1 then pipeCount pipe 21 s else s
    match forwardLookup v pipe k s with
    | (some k, s) => afterLookup v pipe k s
    | (none, s) => s

/-- The source that a pipeline serves next: round-robin by packet (R281). -/
def nextSource (s : State) (pipe : Nat) : Option Nat :=
  let l := pipeSources pipe
  let last := Sparse.get (fun _ => 0) s.sw.rr pipe
  let i := (l.findIdx? (fun p => p + 1 == last)).map (· + 1)
  let turn := match i with
    | some i => l.drop i ++ l.take i
    | none => l
  turn.find? (fun p => !(ingressList s p).isEmpty)

/-- PIPELINE_PACKET: pipeline `pipe` takes the next committed packet (R281). -/
def execPipelinePacket (dt pipe : Nat) (s : State) : Host.Outcome State Fault Refusal :=
  event dt (fun s =>
    if !(forwards s || standsBy s) then s
    else match nextSource s pipe with
      | some p =>
        match ingressList s p with
        | k :: rest =>
          runPipeline pipe k (modSw (fun w => { w with rr := Sparse.set (fun _ => 0) w.rr pipe (p + 1) }) (setIngressList p rest s))
        | [] => s
      | none => s) s

/-- The tables of a packet's epoch (R329): those in force, or the bank kept for it. -/
def bankFor (s : State) (epoch : Nat) : Bank :=
  match s.sw.banks.find? (fun b => b.epoch == epoch) with
  | some b => b
  | none => { epoch, live := s.cfg.live, v6 := s.sw.v6, v4 := s.sw.v4 }

/-- A slow-path packet resumes after its Facet probed the remaining candidates (R312). -/
def resumeSlow (pipe : Nat) (x : SlowPkt) (s : State) : State :=
  let b := bankFor s x.pkt.md.epoch
  let k := modMd (fun m => { m with slow := true }) x.pkt
  match routeHeader b.live k with
  | some (v6, o) =>
    match (probe (if v6 then b.v6 else b.v4) v6 (dstAddr v6 o k.bytes) x.cands).1 with
    | some (place, e) => afterLookup b.live pipe (applyNexthop b.live e k) (fwdCount 4 (markSeen v6 place e s))
    | none => let (k, s) := l3Miss b.live k s; afterLookup b.live pipe k s
  | none => s

/-- SLOW_PATH_RETURN: the oldest packet of a pipeline's slow path returns, or is dropped 100 µs after it left (R312, R313). -/
def execSlowPathReturn (dt pipe : Nat) (s : State) : Host.Outcome State Fault Refusal :=
  event dt (fun s =>
    match Sparse.get (fun _ => []) s.sw.slow pipe with
    | x :: rest =>
      let s := modSw (fun w => { w with slow := Sparse.set (fun _ => []) w.slow pipe rest }) s
      if x.left + 100 * usTicks < s.now then fwdCount 11 s else resumeSlow pipe x s
    | [] => s) s

/-! ### Scheduling (R341 to R343) -/

/-- The port is held by PAUSE, or a queue by PFC (R274). -/
def pauseHeld (s : State) (p i : Nat) : Bool := decide (s.now < Sparse.get (fun _ => 0) (swPort s p).hold i)

/-- A shaper's tokens are at least zero; rate 0 disables it (R343). -/
def shaperOk (s : State) (key rate burst : Nat) : Bool := decide (rate = 0) || bucketHas s key rate burst 0

/-- A queue is eligible (R341). -/
def queueEligible (s : State) (p q : Nat) : Bool :=
  !(queueList s p q).isEmpty && shaperOk s (queueBucket p q) (qosCfg s p 6 q) (qosCfg s p 7 q) && !pauseHeld s p q && egressUp s p

/-- The host ring has a free entry and its port's link is up (R479). -/
def ringOpen (s : State) : Bool :=
  let r := s.sw.ring
  r.enable && decide ((r.written - r.consumed).toNat < r.entries) && (portOf s r.port).linkUp

/-- A decision is due at a port: a credit, tokens, no PAUSE (R341). -/
def portServed (s : State) (p : Nat) : Bool :=
  (forwards s || standsBy s) && portExists p && !laneMember s p
    && (if isMac p then macRuns s p && !pauseHeld s p 8 else true)
    && (if p = hostPort then ringOpen s else decide ((egressList s p).length < egressDepth p))
    && shaperOk s (portBucket p) (qosCfg s p 8 0) (qosCfg s p 9 0)

/-- The scheduler of a port. -/
def schedOf (s : State) (p : Nat) : Sched := Sparse.get (fun _ => Sched.reset) s.sw.sched p

/-- Write the scheduler of a port. -/
def setSched (p : Nat) (x : Sched) (s : State) : State :=
  modSw (fun w => { w with sched := Sparse.set (fun _ => Sched.reset) w.sched p x }) s

/-- The deficit of a queue. -/
def deficitOf (x : Sched) (q : Nat) : Nat := Sparse.get (fun _ => 0) x.deficit q

/-- Write the deficit of a queue. -/
def setDeficit (q v : Nat) (x : Sched) : Sched := { x with deficit := Sparse.set (fun _ => 0) x.deficit q v }

/-- The head of a queue fits its deficit. -/
def headFits (s : State) (p q : Nat) (x : Sched) : Bool :=
  match queueList s p q with
  | r :: _ => queueEligible s p q && decide (egressLength s r ≤ deficitOf x q)
  | [] => false

/-- Visit queues in turn until one can send (R342). -/
def visit (s : State) (p : Nat) : List Nat → Sched → Option Nat × Sched
  | [], x => (none, x)
  | q :: l, x =>
    let x := { x with turn := q + 1 }
    if queueEligible s p q then
      let x := setDeficit q (deficitOf x q + 64 * qosCfg s p 5 q) x
      if headFits s p q x then (some q, x) else visit s p l x
    else visit s p l x

/-- The decision of the weighted group (R342): the queue that sends, and the scheduler after. -/
def weighted (s : State) (p : Nat) : Option Nat × Sched :=
  let x := schedOf s p
  let n := 8 - qosCfg s p 4 0
  let ring := (List.range n).reverse
  if 0 < x.turn ∧ x.turn ≤ n ∧ headFits s p (x.turn - 1) x then (some (x.turn - 1), x)
  else
    let turn := if 0 < x.turn ∧ x.turn ≤ n then
        ring.filter (fun q => decide (q < x.turn - 1)) ++ ring.filter (fun q => decide (x.turn - 1 ≤ q))
      else ring
    visit s p turn x

/-- The queue that a decision serves: the highest eligible strict queue, else the weighted group's (R341). -/
def decideQueue (s : State) (p : Nat) : Option Nat × Sched :=
  match ((List.range (qosCfg s p 4 0)).map (7 - ·)).find? (queueEligible s p) with
  | some q => (some q, schedOf s p)
  | none => let (q, x) := weighted s p
            (q, match q with
              | some q => match queueList s p q with
                | r :: _ => setDeficit q (deficitOf x q - egressLength s r) x
                | [] => x
              | none => x)

/-- Charge a shaper (R343). -/
def chargeShaper (key rate n : Nat) (s : State) : State := if rate = 0 then s else chargeBucket key rate n s

/-- The host receive header (Table 18.9). -/
def hostHeader (s : State) (r : Replica) : List Byte :=
  let m := r.pkt.md
  let w := s.sw.ring
  let (copy, mirror) := match r.kind with
    | .data => (false, false)
    | .hostCopy => (true, false)
    | .mirror _ => (false, true)
  leBytes 32 (r.pkt.bytes.length % 65536 + at' 16 (b2n (decide (w.written.toNat / w.entries % 2 = 0))) + at' 17 (b2n copy) + at' 18 (b2n mirror)
    + at' 19 (b2n (isMac m.src)) + at' 20 r.queue + at' 23 (b2n m.node.isSome) + at' 24 m.src + at' 32 (if mirror then 0xF6 else m.trap)
    + at' 40 m.vid + at' 52 m.pcp + at' 56 (m.node.getD 0) + at' 96 (m.tsSec % 2 ^ 48) + at' 144 m.tsNs + at' 176 m.epoch)

/-- A host-port replica is written into the receive ring: the frame first, the header after it (R479). -/
def deliverHost (r : Replica) (s : State) : State :=
  let w := s.sw.ring
  let f := rewritten r.pkt
  if w.size < f.length + 32 then modSw (fun x => { x with ring := { x.ring with tooLong := x.ring.tooLong + 1 } }) s
  else
    let a := w.base + w.size * (w.written.toNat % w.entries)
    let s := emit (.hostWrite w.port a (hostHeader s { r with pkt := { r.pkt with bytes := f } })) (emit (.hostWrite w.port (a + 32) f) s)
    let s := modSw (fun x => { x with ring := { x.ring with written := x.ring.written + 1 } }) s
    if w.irqEn then sendMsix w.port w.vector s else s

/-- A Chord-port replica becomes one FRAME message (R419). -/
def deliverChord (r : Replica) (s : State) : State :=
  let body := tagAll r.pkt.md.vid r.pkt.md.pcp (rewritten r.pkt)
  match r.pkt.remote with
  | some m =>
    let dst := if [0x11, 0x21].contains (memberOf s m).mode then m ^^^ 1 else m
    chordSend 0x50 dst 0 body s
  | none => chordBroadcast 0x50 body s

/-- The scheduler commits a replica to the crossing of its port. -/
def deliver (r : Replica) (s : State) : State :=
  if r.port = hostPort then deliverHost r s
  else if r.port = chordPort then deliverChord r s
  else setEgressList r.port (egressList s r.port ++ [r]) s

/-- Egress mirror copies of a replica that leaves (R347); copies are never copied again. -/
def egressCopies (r : Replica) (s : State) : State :=
  match r.kind with
  | .mirror _ => s
  | .data =>
    let l := (List.range 4).filter (fun m => cfgNat s 0x0501 1 m == 1 && bit (cfgNat s 0x0501 5 m) r.port)
    offerAll (l.map (fun m => mirrorReplica s s.cfg.live m r.pkt (rewritten r.pkt))) (countMade l s)
  | .hostCopy =>
    let l := (List.range 4).filter (fun m => cfgNat s 0x0501 1 m == 1 && bit (cfgNat s 0x0501 5 m) r.port)
    offerAll (l.map (fun m => mirrorReplica s s.cfg.live m r.pkt (rewritten r.pkt))) (countMade l s)

/-- A queue that is empty has deficit zero (R342). -/
def settleDeficit (p q : Nat) (s : State) : State :=
  if (queueList s p q).isEmpty then setSched p (setDeficit q 0 (schedOf s p)) s else s

/-- Send the head of a queue: it leaves its part, is charged, copied and committed (R337, R341, R347). -/
def sendHead (p q : Nat) (s : State) : State :=
  match queueList s p q with
  | r :: rest =>
    let n := egressLength s r
    let s := settleDeficit p q (setQueueList p q rest s)
    let s := chargeShaper (portBucket p) (qosCfg s p 8 0) n (chargeShaper (queueBucket p q) (qosCfg s p 6 q) n s)
    deliver r (egressCopies r (queueAdd p q 3 n (queueAdd p q 2 1 s)))
  | [] => s

/-- SCHEDULER_DECISION: with a credit, a port picks a queue and commits its head (R341). -/
def execSchedulerDecision (dt port : Nat) (s : State) : Host.Outcome State Fault Refusal :=
  event dt (fun s =>
    if portServed s port then
      let (q, x) := decideQueue s port
      let s := setSched port x s
      match q with
      | some q => sendHead port q s
      | none => s
    else s) s

/-! ### Flush (R18 to R20, R349) -/

/-- The crossing of an egress port: X07, X09, X13 or X14, and its instance. -/
def egressCrossing (p : Nat) : Nat × Nat :=
  if isMac p then (7, p) else if isMesh p then (9, p - 0x48) else if p = hostPort then (13, 1) else (14, 1)

/-- Count FLUSH_ITEMS (1) or FLUSH_FORCED (2) of a crossing. -/
def latticeAdd (x : Nat × Nat) (n k : Nat) (s : State) : State := ctrAdd .lattice (x.1 * 1024 + x.2) n k s

/-- Discard one queue: replicas that R43 holds become held records, the others count in FLUSHED. -/
def flushQueue (p : Nat) (hold : Bool) (a : State × Nat) (q : Nat) : State × Nat :=
  let l := queueList a.1 p q
  let s := settleDeficit p q (setQueueList p q [] a.1)
  if hold then (l.foldl (fun s r => holdReplica r s) s, a.2)
  else (queueAdd p q 14 l.length s, a.2 + l.length)

/-- Discard what waits on the crossing of an egress port: the number of items. -/
def flushEgress (p : Nat) (s : State) : State × Nat :=
  let n := (egressList s p).length
  (latticeAdd (egressCrossing p) 1 n (setEgressList p [] s), n)

/-- Discard what waits on X12 of a port: the number of items. -/
def flushIngress (p : Nat) (s : State) : State × Nat :=
  let n := (ingressList s p).length
  (latticeAdd (ingressCrossing p) 1 n (setIngressList p [] s), n)

/-- Start a flush of the queues in `mask`, of the egress crossing, and of X12 (R349, R264, R266). -/
def startFlush (p mask cause : Nat) (egress ingress hold : Bool) (cmd : Option Cmd) (s : State) : State :=
  let (s, n) := (bitList 8 mask).foldl (flushQueue p hold) (s, 0)
  let (s, a) := if egress then flushEgress p s else (s, 0)
  let (s, b) := if ingress then flushIngress p s else (s, 0)
  let f : Flush := { port := p, mask, cause, since := s.now, discarded := n, items := a + b, forced := 0, ingress, rewound := false, cmd }
  modSw (fun w => { w with flushes := w.flushes ++ [f] }) s

/-- Change the first flush of a port that satisfies `q`. -/
def modFlush (p : Nat) (q : Flush → Bool) (f : Flush → Flush) : List Flush → List Flush
  | [] => []
  | x :: r => if x.port = p ∧ q x then f x :: r else x :: modFlush p q f r

/-- FLUSH_FORCED_REWIND: 128 µs after the request a partial item on X12 is rewound (R19). -/
def execFlushForcedRewind (dt port : Nat) (s : State) : Host.Outcome State Fault Refusal :=
  event dt (fun s =>
    let due := fun (x : Flush) => x.ingress && !x.rewound && decide (x.since + 128 * usTicks ≤ s.now)
    if s.sw.flushes.any (fun x => x.port == port && due x) then
      latticeAdd (ingressCrossing port) 2 1
        (modSw (fun w => { w with flushes := modFlush port due (fun x => { x with rewound := true, forced := x.forced + 1 }) w.flushes }) s)
    else s) s

/-- QUEUE_FLUSH_COMPLETE: every credit and cell has returned; the event is raised and the command completes (R20, R349). -/
def execQueueFlushComplete (dt port : Nat) (s : State) : Host.Outcome State Fault Refusal :=
  event dt (fun s =>
    match s.sw.flushes.find? (fun x => x.port == port) with
    | some x =>
      let s := modSw (fun w => { w with flushes := w.flushes.erase x }) s
      let s := raise 0x0203 (leBytes 1 port ++ leBytes 1 x.mask ++ leBytes 1 x.cause ++ zeros 1 ++ leBytes 4 x.discarded ++ leBytes 4 x.items ++ leBytes 4 x.forced) s
      match x.cmd with
      | some c => complete c .ok 0 (leBytes 4 x.discarded ++ leBytes 4 x.items ++ leBytes 4 x.forced ++ zeros 4) s
      | none => s
    | none => s) s

/-! ### The drain of held records (R42, R254, R339) -/

/-- The egress of a held record: its port when up, else the lowest port of BACKHAUL_PORTS that is up (R254). -/
def drainPort (s : State) (p : Nat) : Option Nat :=
  let up := fun p => isMac p && (swPort s p).linkUp && !portDisabled s p && !laneMember s p
  if up p then some p else (bitList 128 (cfgNat s 0x0100 2 0)).find? up

/-- A held packet for a port (DEDUCED, log 19: VID and PCP as for the host port). -/
def heldReplica (p : Nat) (f : List Byte) (s : State) : Replica × State :=
  let (k, s) := innerPacket hostPort f s
  (mkReplica k p 1 .data none, s)

/-- The drain has run out of records: the RELEASE record, and its end (R254). -/
def endDrain (s : State) : State :=
  let j := s.store.journal
  let s := if j.sinceRelease = 0 then s else journalCommit (releaseRec s j.released) s
  modJournal (fun j => { j with drain := none, sinceRelease := 0 }) s

/-- One held record is released. -/
def releaseHeld (key : Nat) (s : State) : State :=
  let s := modJournal (fun j => { j with released := key, sinceRelease := j.sinceRelease + 1, drain := j.drain.map (fun d => (d.1, d.2 + 1)) }) s
  let s := if s.store.journal.sinceRelease = 256 then modJournal (fun j => { j with sinceRelease := 0 }) (journalCommit (releaseRec s key) s) else s
  if (heldRecords s.store.journal).isEmpty then endDrain s else s

/-- HELD_DRAIN_RELEASE: a held record is released at ISLAND_DRAIN_RATE to Q1 of its egress, when
admission would enqueue it as a green replica (R254, R339). -/
def execHeldDrainRelease (dt : Nat) (s : State) : Host.Outcome State Fault Refusal :=
  event dt (fun s =>
    match s.store.journal.drain with
    | some (since, n) =>
      if !forwards s ∨ (s.now - since) * cfgNat s 0x0100 6 0 < n * secTicks then s
      else match heldRecords s.store.journal with
        | (key, rec) :: _ =>
          match drainPort s (byteAt rec.body 0) with
          | some p =>
            let (r, s') := heldReplica p (rec.body.drop 8) s
            match decideReplica s' r with
            | .enqueue _ => releaseHeld key (offer r s').1
            | .hold => s
            | .refuse _ => s
          | none => s
        | [] => endDrain s
    | none => s) s

end Sys2Proof.Machine
end

