-- ==== Sys2Proof/Machine/Ddq.lean ====
section
/-!
DEFINITION. The deferred-delivery queues (R239 to R242): arrival, spill, prefetch and expiry.
-/
namespace Sys2Proof.Machine

/-- The mesh is served: Facets run and PPDUs may be sent (Table 2.6). -/
def meshServes (s : State) : Bool := servingMode (datapath s)

/-- The deferred-delivery queue of a node. -/
def ddqOf (s : State) (n : Nat) : Ddq := Sparse.get (fun _ => Ddq.reset) s.store.ddq n

/-- Write a node's queue. -/
def setDdq (n : Nat) (d : Ddq) (s : State) : State :=
  modStore (fun t => { t with ddq := Sparse.set (fun _ => Ddq.reset) t.ddq n d }) s

/-- Every frame of a queue, in order. -/
def ddqFrames (d : Ddq) : List DdqFrame := d.chip ++ d.spill

/-- Cells of the pool that a frame takes (R240). -/
def ddqCells (f : DdqFrame) : Nat := (f.body.length + 16 + 255) / 256

/-- Cells of the pool: 2 MiB of 256 bytes. -/
def poolCells : Nat := 8192

/-- Cells in use. -/
def poolUsed (s : State) : Nat :=
  s.store.ddq.foldl (fun a p => p.2.chip.foldl (fun a f => a + ddqCells f) a) 0

/-- Bytes that count against DDQ_MAX_BYTES (Table 9.8). -/
def ddqBytes (l : List DdqFrame) : Nat := l.foldl (fun a f => a + f.body.length + 16) 0

/-! ### The predicted wake (R198) -/

/-- E(a) of a node with a template, and its start: the node's slots are moved by its lateness. -/
def expectedAt (s : State) (d : Drift) (template : Nat) (a : Int) : Int :=
  let e := scheduledAt s template a
  e + (xPred s d e).round 65536

/-- The TX links of a node whose slotframe runs. -/
def txLinks (s : State) (n : Nat) : List Link :=
  (liveLinks s).filter (fun l => l.tx && !l.broadcast && l.node == n && sfEnabled s l.frame && decide (0 < sfLength s l.frame))

/-- The first slot at or after `a` of a link. -/
def linkSlot (s : State) (l : Link) (a : Int) : Int :=
  a + (l.offset - a) % (sfLength s l.frame : Int)

/-- The wake of a link: E(a) - PRE_MAX of its first slot whose wake lies ahead of mesh time `t`. -/
def linkWake (s : State) (d : Drift) (t : Int) (l : Link) : Int :=
  let tp := sfTemplate s l.frame
  let back := tmplTime s tp 3 - tmplTime s tp 1 - (xPred s d t).round 65536
  let a := linkSlot s l (slotAt s (t + back))
  let w := expectedAt s d tp a - tmplTime s tp 3
  if t ≤ w then w else expectedAt s d tp (a + sfLength s l.frame) - tmplTime s tp 3

/-- The predicted wake of a node; none without a TX link (R198). -/
def wakeOf (s : State) (n : Nat) : Option Int :=
  let t := meshTime s
  let d := resolvePending (nodeOf s n).drift
  (txLinks s n).foldl (fun a l =>
    let w := linkWake s d t l
    match a with
    | some x => some (min x w)
    | none => some w) none

/-! ### Replication and storage -/

/-- A change of a queue is replicated (Table 16.5): 1 a frame enters, 2 the head leaves, 3 the queue is discarded (log 28). -/
def replicateDdq (n op : Nat) (f : Option DdqFrame) (s : State) : State :=
  replicate 0x20 (n / 256)
    (leBytes 4 n ++ leBytes 1 op ++ zeros 1 ++ (match f with | some f => leBytes 2 f.seq ++ f.body | none => zeros 2)) s

/-- A write to a node's spill slot (Table 9.3). -/
def writeSpill (n : Nat) (s : State) : State := writeStripe (regionStripe 3883 (65536 * n)) none s

/-- The head of a queue leaves it: acknowledged, sent without a request for one, or discarded (R239). -/
def popHead (n : Nat) (s : State) : State :=
  let d := ddqOf s n
  let d := match d.chip with
    | _ :: r => { d with chip := r }
    | [] => { d with spill := d.spill.drop 1 }
  replicateDdq n 2 none (setDdq n d s)

/-- A frame older than DDQ_MAX_AGE. -/
def ddqExpired (s : State) (f : DdqFrame) : Bool := decide (cfgNat s 0x0A00 3 0 * secTicks < since s f.at_)

/-- Expired frames that have come to the head are discarded (R239). -/
def expireHead (n : Nat) : Nat → State → State
  | 0, s => s
  | k + 1, s =>
    match (ddqOf s n).chip with
    | f :: _ => if ddqExpired s f then expireHead n k (ctrInc .store 0 2 (popHead n s)) else s
    | [] => s

/-- Expired frames at the head of a node's queue are discarded. -/
def dropExpired (n : Nat) (s : State) : State := expireHead n (ddqOf s n).chip.length s

/-- A queue is discarded with its spill slot: the number of frames it held. -/
def discardDdq (n : Nat) (s : State) : Nat × State :=
  let d := ddqOf s n
  let k := (ddqFrames d).length
  (k, if k = 0 then s else replicateDdq n 3 none (setDdq n { Ddq.reset with nextSeq := d.nextSeq } s))

/-! ### Spill (R240) -/

/-- The frames on chip of the node that spills next: that of the furthest predicted wake. -/
def spillNode (s : State) : Option Nat :=
  let c := s.store.ddq.filterMap (fun p => if p.2.chip.isEmpty then none else some (p.1, wakeOf s p.1))
  let far := c.foldl (fun (a : Option (Nat × Option Int)) p =>
    match a with
    | none => some p
    | some (_, none) => a
    | some (_, some w) =>
      match p.2 with
      | none => some p
      | some v => if w < v then some p else a) none
  far.map (·.1)

/-- One frame, the last on chip of a node, goes back to its spill slot. -/
def spillOne (n : Nat) (s : State) : State :=
  let d := ddqOf s n
  match d.chip.getLast? with
  | some f => writeSpill n (setDdq n { d with chip := d.chip.dropLast, spill := f :: d.spill } s)
  | none => s

/-- Frames are spilled until the pool is below 75 % (R240). -/
def spillDown : Nat → State → State
  | 0, s => s
  | k + 1, s =>
    if poolUsed s * 4 < poolCells * 3 then s
    else match spillNode s with
      | some n => spillDown k (spillOne n s)
      | none => s

/-- The pool passed 90 %: frames spill (R240). -/
def poolSpill (s : State) : State :=
  if poolCells * 9 < poolUsed s * 10 ∧ arrayUp s then spillDown (poolUsed s) s else s

/-! ### Arrival (R239, R240) -/

/-- A frame joins a node's queue: the on-chip head, or the spill slot. -/
def ddqPlace (n : Nat) (f : DdqFrame) (s : State) : State :=
  let d := ddqOf s n
  let near := match wakeOf s n with
    | some w => decide (w ≤ meshTime s + cfgGet s 0x0A00 4 0 * 100 * 1000 * usUnits)
    | none => false
  if !arrayUp s then
    if poolUsed s + ddqCells f ≤ poolCells then setDdq n { d with chip := d.chip ++ [f], nextSeq := (d.nextSeq + 1) % 65536 } s
    else ctrInc .store 0 3 s
  else if d.spill.isEmpty ∧ near = true ∧ poolUsed s * 4 < poolCells * 3 then
    poolSpill (setDdq n { d with chip := d.chip ++ [f], nextSeq := (d.nextSeq + 1) % 65536 } s)
  else writeSpill n (setDdq n { d with spill := d.spill ++ [f], nextSeq := (d.nextSeq + 1) % 65536 } s)

/-- Nodes with frames that wait. -/
def waitingNodes (s : State) : Nat := (s.store.ddq.filter (fun p => !(ddqFrames p.2).isEmpty)).length

/-- A compressed downlink frame of a node arrives (R239). -/
def ddqEnqueue (n : Nat) (body : List Byte) (s : State) : State :=
  let d := ddqOf s n
  let f : DdqFrame := { seq := d.nextSeq, at_ := s.now, body, ackReq := true, attempts := 0 }
  let all := ddqFrames d
  if cfgNat s 0x0A00 1 0 < all.length + 1 ∨ cfgNat s 0x0A00 2 0 < ddqBytes (all ++ [f]) then ctrInc .store 0 1 s
  else
    let before := all.length
    let s := ddqPlace n f s
    if before < (ddqFrames (ddqOf s n)).length then
      let s := replicateDdq n 1 (some f) s
      if 1000 < waitingNodes s then wake 4 s else s
    else s

/-- DEFERRED_FRAME_ARRIVAL: a Facet takes a downlink packet from X09 of mesh port `i` (R240). A packet that
names no node is for every node and joins the broadcast queue (log 32). -/
def deferredArrival (i : Nat) (s : State) : State :=
  match egressList s (meshPort i) with
  | r :: rest =>
    let s := setEgressList (meshPort i) rest s
    let f := rewritten r.pkt
    match r.pkt.dest with
    | some n => ddqEnqueue n (Config.compress n f) s
    | none => modMesh (fun m => { m with broadcast := m.broadcast ++ [(i, Config.compress (2 ^ 18) f)] }) s
  | [] => s

/-- DEFERRED_FRAME_ARRIVAL -/
def execDeferredFrameArrival (dt port : Nat) : State → Host.Outcome State Fault Refusal :=
  event dt (fun s => if meshServes s && decide (port < 8) then deferredArrival port s else s)

/-! ### Prefetch (R241) -/

/-- PREFETCH_START: at W - PREFETCH_LEAD every frame of the node's spill slot is read. -/
def prefetchStart (n : Nat) (s : State) : State :=
  let d := ddqOf s n
  match wakeOf s n with
  | some w =>
    if d.prefetch.isNone ∧ !d.spill.isEmpty ∧ arrayUp s ∧ w ≤ meshTime s + cfgGet s 0x0A00 5 0 * 1000 * usUnits then
      let live := d.spill.filter (fun f => !ddqExpired s f)
      let s := ctrAdd .store 0 2 (d.spill.length - live.length) s
      readStripe (regionStripe 3883 (65536 * n)) (setDdq n { d with spill := live, prefetch := some (w.toNat, live.length), late := false } s)
    else s
  | none => s

/-- PREFETCH_START -/
def execPrefetchStart (dt node : Nat) : State → Host.Outcome State Fault Refusal := event dt (prefetchStart node)

/-- The instant by which a prefetch must be complete: W - 50 ms. -/
def prefetchDue (w : Nat) : Int := (w : Int) - 50 * 1000 * usUnits

/-- A prefetch is counted late, once. -/
def prefetchLate (n : Nat) (s : State) : State :=
  let d := ddqOf s n
  match d.prefetch with
  | some (w, _) => if prefetchDue w < meshTime s ∧ !d.late then ctrInc .store 0 4 (setDdq n { d with late := true } s) else s
  | none => s

/-- PREFETCH_COMPLETE: the frames read enter the pool while it has room; the others wait for it. -/
def prefetchComplete (n : Nat) (s : State) : State :=
  let s := prefetchLate n s
  let d := ddqOf s n
  match d.prefetch with
  | some (w, k) =>
    let room := poolCells - poolUsed s
    let fit := (List.range (min k d.spill.length + 1)).filter (fun i => decide ((d.spill.take i).foldl (fun a f => a + ddqCells f) 0 ≤ room))
    let m := fit.foldl max 0
    let left := k - m
    poolSpill (setDdq n { d with chip := d.chip ++ d.spill.take m, spill := d.spill.drop m, prefetch := if left = 0 then none else some (w, left) } s)
  | none => s

/-- PREFETCH_COMPLETE -/
def execPrefetchComplete (dt node : Nat) : State → Host.Outcome State Fault Refusal := event dt (prefetchComplete node)

/-- PREFETCH_DEADLINE: a prefetch not complete by W - 50 ms (R241). -/
def execPrefetchDeadline (dt node : Nat) : State → Host.Outcome State Fault Refusal := event dt (prefetchLate node)

end Sys2Proof.Machine
end

