-- ==== Sys2Proof/Machine/Gx.lean ====
section
/-!
DEFINITION. The GX-OFDM frame format and its coding (R144 to R164), and the durations of PPDUs of each
PHY.
-/
namespace Sys2Proof.Machine

/-! ### Numerology (Tables 6.1, 6.5, 6.6) -/

/-- Data tones N_DSC of options 1 to 4. -/
def gxTones (opt : Nat) : Nat := [96, 48, 24, 12].getD (opt - 1) 12
/-- Symbols of the PHY header. -/
def gxHdrSymbols (opt : Nat) : Nat := if opt = 4 then 7 else 4
/-- Repetition of the header. -/
def gxHdrRep (opt : Nat) : Nat := [4, 2, 1, 1].getD (opt - 1) 1
/-- Bits per tone of an MCS: BPSK 1, QPSK 2, 16-QAM 4. -/
def gxBits (mcs : Nat) : Nat := [1, 1, 2, 2, 2, 4, 4].getD mcs 1
/-- Repetition F of an MCS. -/
def gxRep (mcs : Nat) : Nat := [4, 2, 2, 1, 1, 1, 1].getD mcs 1
/-- The lowest MCS permitted for an option. -/
def gxLowest (opt : Nat) : Nat := [0, 0, 1, 2].getD (opt - 1) 2
/-- The MCS values permitted for an option (Table 6.6). -/
def gxPermitted (opt : Nat) : List Nat := (List.range 7).filter (fun m => decide (gxLowest opt ≤ m))
/-- N_CBPS. -/
def gxCbps (opt mcs : Nat) : Nat := gxTones opt * gxBits mcs / gxRep mcs
/-- REQ of an MCS in 0.25 dB. -/
def gxReq (mcs : Nat) : Int := [4, 16, 28, 40, 52, 68, 72].getD mcs 72

/-! ### Sequences (R147) -/

/-- One step of a register of `m` bits with tap `t`: the new register and the output. -/
def lfsrStep (m t r : Nat) : Nat × Bool :=
  let b := bit r (m - 1) != bit r (t - 1)
  (r * 2 % 2 ^ m + b2n b, b)

/-- `n` outputs of a register. -/
def lfsrRun (m t : Nat) : Nat → Nat → List Bool
  | 0, _ => []
  | n + 1, r => let p := lfsrStep m t r; p.2 :: lfsrRun m t n p.1

/-- The signs of the STF tones, of the LTF tones and of the pilots, in order (Table 6.2). -/
def gxSigns (seed n : Nat) : List Int := (lfsrRun 7 6 n seed).map (fun b => if b then -1 else 1)

/-- Seeds of the scrambler by SEED (R156). -/
def gxSeed (seed : Nat) : Nat := [0x7FF, 0x4A5, 0x1C3, 0x69E].getD seed 0x7FF

/-- Bits of bytes, each least significant bit first (R156). -/
def byteBits (l : List Byte) : List Bool := (l.map (fun b => (List.range 8).map (fun i => b.getLsbD i))).flatten

/-- Bits of a number, bit 0 first. -/
def natBits (n v : Nat) : List Bool := (List.range n).map (bit v)

/-- Exclusive or of two bit strings of one length. -/
def xorBits (a b : List Bool) : List Bool := (a.zip b).map (fun p => p.1 != p.2)

/-- The scrambled PSDU (R156). -/
def gxScramble (seed : Nat) (psdu : List Byte) : List Bool :=
  xorBits (byteBits psdu) (lfsrRun 11 9 (8 * psdu.length) (gxSeed seed))

/-! ### PHY header (R151 to R154) -/

/-- One bit into the HCS register. -/
def hcsStep (r : Nat) (b : Bool) : Nat :=
  let fb := bit r 7 != b
  let r := r * 2 % 256
  if fb then r ^^^ 0x07 else r

/-- The HCS of header bits 0 to 31: header bit 32 carries the coefficient of x^7 (R152). -/
def gxHcs (h : Nat) : Nat :=
  let r := 255 - (natBits 32 h).foldl hcsStep 0xFF
  bitMap ((List.range 8).filter (fun i => bit r (7 - i)))

/-- The header bits of a PPDU (Table 6.3). -/
def gxHeader (mcs len seed : Nat) (fcs32 fbReq : Bool) : Nat :=
  let h := mcs + len * 8 + seed * 2 ^ 14 + b2n fcs32 * 2 ^ 16 + b2n fbReq * 2 ^ 17
  h + gxHcs h * 2 ^ 32

/-- A receiver accepts a header (R154). -/
def gxHeaderOk (opt h : Nat) : Bool :=
  let len := bits h 3 11
  decide (gxHcs (h % 2 ^ 32) = bits h 32 8) && decide (bits h 18 14 = 0) && (gxPermitted opt).contains (bits h 0 3)
    && decide ((if bit h 16 then 4 else 2) ≤ len)

/-- Shifts of the header code (Table 6.4); 8 stands for no term. -/
def gxHdrShifts : List (List Nat) := [[0, 3, 8, 5, 1], [2, 8, 6, 0, 4], [8, 7, 1, 3, 6], [5, 2, 4, 8, 0], [1, 6, 3, 7, 8]]

/-- rot(v, s): output bit m is input bit (m + s) mod 8. -/
def rotBlock (v : List Bool) (s : Nat) : List Bool := (List.range v.length).map (fun m => v.getD ((m + s) % v.length) false)

/-- The 80-bit codeword of a header (R153). -/
def gxHdrCodeword (h : Nat) : List Bool :=
  let a := (List.range 5).map (fun j => natBits 8 (bits h (8 * j) 8))
  let p := gxHdrShifts.map (fun row =>
    (row.zip a).foldl (fun acc x => if x.1 = 8 then acc else xorBits acc (rotBlock x.2 x.1)) (List.replicate 8 false))
  a.flatten ++ p.flatten

/-! ### LDPC codes (R157, R158) -/

/-- Rates: 0 is 1/2, 1 is 2/3, 2 is 3/4. -/
def gxRate (mcs : Nat) : Nat := [0, 0, 0, 0, 2, 1, 2].getD mcs 0

/-- Rows of the base matrix. -/
def ldpcRows (rate : Nat) : Nat := [6, 4, 3].getD rate 6

/-- Information columns of the base matrices (Tables 6.7 to 6.9); 999 stands for no circulant. -/
def ldpcBase (rate : Nat) : List (List Nat) :=
  match rate with
  | 0 => [[40, 999, 87, 12, 999, 131], [999, 73, 5, 999, 118, 29], [97, 18, 999, 64, 51, 999],
          [22, 999, 139, 101, 999, 76], [999, 126, 58, 999, 9, 113], [61, 44, 999, 135, 83, 999]]
  | 1 => [[17, 92, 999, 55, 130, 8, 999, 71], [103, 999, 36, 142, 999, 67, 24, 115],
          [999, 49, 120, 3, 88, 999, 137, 42], [76, 131, 14, 999, 60, 99, 52, 999]]
  | _ => [[33, 118, 7, 84, 999, 141, 59, 26, 102], [90, 999, 63, 15, 127, 48, 999, 111, 70],
          [999, 21, 134, 96, 39, 999, 105, 2, 57]]

/-- lam_i: the sum of the information blocks of row i. -/
def ldpcLambda (z : Nat) (row : List Nat) (blocks : List (List Bool)) : List Bool :=
  (row.zip blocks).foldl (fun acc x => if x.1 = 999 then acc else xorBits acc (rotBlock x.2 (x.1 * z / 144))) (List.replicate z false)

/-- The parity blocks after q1, in order (R158). -/
def ldpcChain (mb : Nat) (lam : List (List Bool)) (q0 : List Bool) : Nat → Nat → List Bool → List (List Bool)
  | 0, _, _ => []
  | fuel + 1, i, q =>
    let v := xorBits (lam.getD i []) q
    let v := if i = mb / 2 then xorBits v q0 else v
    v :: ldpcChain mb lam q0 fuel (i + 1) v

/-- Cut a bit string into blocks of `z`. -/
def blocksOf (z : Nat) (l : List Bool) : List (List Bool) := (List.range (l.length / z)).map (fun i => (l.drop (i * z)).take z)

/-- The parity bits of an information part (R158). -/
def ldpcParity (rate z : Nat) (info : List Bool) : List Bool :=
  let mb := ldpcRows rate
  let blocks := blocksOf z info
  let lam := (ldpcBase rate).map (fun row => ldpcLambda z row blocks)
  let q0 := lam.foldl xorBits (List.replicate z false)
  let q1 := xorBits (lam.getD 0 []) (rotBlock q0 1)
  (q0 :: q1 :: ldpcChain mb lam q0 (mb - 2) 1 q1).flatten

/-! ### Fitting (R159 to R161) -/

/-- How a PSDU is fitted. -/
structure GxFit where
  rate : Nat
  nCw : Nat
  z : Nat
  nShrt : Nat
  nSym : Nat
  /-- Punctured bits, or none. -/
  punct : Nat
  fill : Nat
  deriving DecidableEq, Repr

/-- Division rounded up. -/
def ceilDiv (a b : Nat) : Nat := (a + b - 1) / b

/-- The fit of a PSDU of `len` octets (R159, R160). -/
def gxFit (opt mcs len : Nat) : GxFit :=
  let rate := gxRate mcs
  let mb := ldpcRows rate
  let kb := 12 - mb
  let info := 8 * len
  let nCw := ceilDiv info (kb * 144)
  let z := if info ≤ nCw * kb * 48 then 48 else if info ≤ nCw * kb * 96 then 96 else 144
  let nShrt := nCw * kb * z - info
  let nTx := nCw * 12 * z - nShrt
  let cbps := gxCbps opt mcs
  let nMin := ceilDiv nTx cbps
  let v := nTx - (nMin - 1) * cbps
  let nPar := nCw * mb * z
  if 2 ≤ nMin ∧ v ≤ nPar / 10 then { rate, nCw, z, nShrt, nSym := nMin - 1, punct := v, fill := 0 }
  else { rate, nCw, z, nShrt, nSym := nMin, punct := 0, fill := cbps - v }

/-- The share of item `i` when `total` is divided over `n`: one more for the first ones. -/
def shareOf (total n i : Nat) : Nat := total / n + (if i < total % n then 1 else 0)

/-- The bits sent of each codeword, from codeword `i` on. -/
def gxCodewords (f : GxFit) : Nat → Nat → List Bool → List Bool
  | 0, _, _ => []
  | n + 1, i, l =>
    let k := (12 - ldpcRows f.rate) * f.z
    let short := shareOf f.nShrt f.nCw i
    let info := l.take (k - short)
    let parity := ldpcParity f.rate f.z (info ++ List.replicate short false)
    info ++ parity.take (parity.length - shareOf f.punct f.nCw i) ++ gxCodewords f n (i + 1) (l.drop (k - short))

/-- A bit string with `n` bits of itself repeated after it. -/
def withFill (l : List Bool) (n : Nat) : List Bool := l ++ (List.range n).map (fun i => l.getD (i % l.length) false)

/-- The sent bit stream (R161). -/
def gxStream (opt mcs seed : Nat) (psdu : List Byte) : List Bool :=
  let f := gxFit opt mcs psdu.length
  withFill (gxCodewords f f.nCw 0 (gxScramble seed psdu)) f.fill

/-! ### Interleaving, mapping, spreading (R162 to R164) -/

/-- The interleaver: y at (13 i) mod N is x at i. -/
def gxInterleave (x : List Bool) : List Bool :=
  let n := x.length
  (List.range n).map (fun j => x.getD ((List.range n).findIdx (fun i => decide (13 * i % n = j))) false)

/-- A pair of bits as a 16-QAM component. -/
def qamLevel (a b : Bool) : Int := if a then (if b then 1 else 3) else (if b then -1 else -3)

/-- The values of a symbol's bits (R163), before scaling. -/
def gxMap (q : Nat) (y : List Bool) : List (Int × Int) :=
  (List.range (y.length / q)).map (fun i =>
    let b := fun k => y.getD (q * i + k) false
    let s := fun k => if b k then (1 : Int) else -1
    if q = 1 then (s 0, 0) else if q = 2 then (s 0, s 1) else (qamLevel (b 0) (b 1), qamLevel (b 2) (b 3)))

/-- A value times j^g. -/
def timesJ (g : Nat) (v : Int × Int) : Int × Int :=
  match g % 4 with
  | 0 => v | 1 => (-v.2, v.1) | 2 => (-v.1, -v.2) | _ => (v.2, -v.1)

/-- The values on the data tones, in logical order (R164). -/
def gxSpread (f : Nat) (d : List (Int × Int)) : List (Int × Int) :=
  ((List.range f).map (fun g => d.map (timesJ g))).flatten

/-- The symbols of a bit stream. -/
def gxSymbols (cbps q f : Nat) (l : List Bool) : List (List (Int × Int)) :=
  (blocksOf cbps l).map (fun b => gxSpread f (gxMap q (gxInterleave b)))

/-- The header and data symbols of a PPDU. -/
def gxPpdu (opt mcs seed : Nat) (fcs32 : Bool) (psdu : List Byte) : List (List (Int × Int)) :=
  let hb := gxTones opt / gxHdrRep opt
  let h := gxHdrCodeword (gxHeader mcs psdu.length seed fcs32 false)
  gxSymbols hb 1 (gxHdrRep opt) (withFill h (hb * gxHdrSymbols opt - 80))
    ++ gxSymbols (gxCbps opt mcs) (gxBits mcs) (gxRep mcs) (gxStream opt mcs seed psdu)

/-! ### Durations -/

/-- GX-OFDM in ns, start to end (R144). -/
def gxDuration (opt mcs len : Nat) : Nat := (720 + 120 * (gxHdrSymbols opt + (gxFit opt mcs len).nSym)) * 1000

/-- Symbol period of an MR-FSK profile in ps, and its bits per symbol (Table 5.4). -/
def fskSymbol (profile : Nat) : Nat × Nat :=
  match profile with
  | 0 => (20000000, 1) | 1 => (10000000, 1) | 2 => (6666667, 1) | 3 => (5000000, 1) | 4 => (10000000, 2) | _ => (3333333, 1)

/-- Symbols of the SHR: the preamble and a 2-octet SFD, two bits a symbol for 4-FSK (log 27). -/
def fskShr (profile preamble : Nat) : Nat := 8 * (preamble + 2) / (fskSymbol profile).2

/-- Symbols of the PHR and PSDU: with FEC the code doubles the bits, after 3 tail bits and 5 or 13 pad bits (log 27). -/
def fskBody (profile fec len : Nat) : Nat :=
  let raw := 16 + 8 * len
  let n := if fec = 0 then raw else 2 * (if len % 2 = 0 then raw + 16 else raw + 8)
  ceilDiv n (fskSymbol profile).2

/-- A count of symbols of an MR-FSK profile in ns. -/
def fskTime (profile n : Nat) : Nat := n * (fskSymbol profile).1 / 1000

/-- Data bits per MR-OFDM symbol of 120 µs (Table 5.10). -/
def ofdmDbps (opt mcs : Nat) : Nat :=
  match opt with
  | 1 => [12, 24, 48, 96].getD mcs 96
  | 2 => [6, 12, 24, 48, 72, 96].getD mcs 96
  | 3 => [0, 6, 12, 24, 36, 48, 72].getD mcs 72
  | _ => [0, 0, 6, 12, 18, 24, 36].getD mcs 36

/-- Symbols of the MR-OFDM STF and LTF, and of its PHR (log 27). -/
def ofdmHead (opt : Nat) : Nat := 6 + (if opt ≤ 2 then 3 else 6)

/-- The span in ns from the start of a PPDU to its reference event (R135). -/
def shrTime (phy opt preamble : Nat) : Nat :=
  match phy with
  | 0 => fskTime opt (fskShr opt preamble)
  | _ => 720000

/-- The duration of a PPDU in ns, start to end. -/
def ppduTime (phy opt mcs preamble len : Nat) : Nat :=
  match phy with
  | 0 => fskTime opt (fskShr opt preamble + fskBody opt mcs len)
  | 1 => (ofdmHead opt + ceilDiv (8 * len + 6) (max 1 (ofdmDbps opt mcs))) * 120000
  | _ => gxDuration opt mcs len

/-- The span of a channel on either side of its centre is half the grid spacing of its profile: the
default spacing for a PHY and option in kHz (Table 5.3). -/
def phySpacing (phy opt : Nat) : Nat :=
  match phy with
  | 0 => [200, 200, 400, 400, 400, 800].getD opt 200
  | _ => [1200, 800, 400, 200].getD (opt - 1) 200

end Sys2Proof.Machine
end

