-- ==== Sys2Proof/Machine/RegRecord.lean ====
section
/-!
DEFINITION. The regulatory record (R98 to R103), the duty-cycle accounts (R106, R107), and the applied
configuration of the sectors.
-/
namespace Sys2Proof.Machine

/-- Change the radio. -/
def modRadio (f : RadioState → RadioState) (s : State) : State := { s with radio := f s.radio }

/-- A sector. -/
def sectorOf (s : State) (k : Nat) : SectorState := Sparse.get (fun _ => SectorState.reset) s.radio.sectors k

/-- Write a sector. -/
def setSector (k : Nat) (x : SectorState) (s : State) : State :=
  modRadio (fun r => { r with sectors := Sparse.set (fun _ => SectorState.reset) r.sectors k x }) s

/-- Change a sector. -/
def modSector (k : Nat) (f : SectorState → SectorState) (s : State) : State := setSector k (f (sectorOf s k)) s

/-- A value of SECTOR_s, FRONT_END_s or RX_s as last applied (R87, R88, R112). -/
def applied (s : State) (g row idx : Nat) : Int := Sparse.get cfgDefault s.radio.applied (cfgKey g row idx)

/-- An applied value that is never negative. -/
def appliedNat (s : State) (g row idx : Nat) : Nat := (applied s g row idx).toNat

/-- Apply the live values of rows of a group. -/
def applyRows (g : Nat) (rows : List Nat) (s : State) : State :=
  let fields : List FieldSpec := match groupSpec g with
    | some x => x.fields.filter (fun f => rows.contains f.row)
    | none => []
  let keys := (fields.map (fun f => (List.range f.members).map (fun i => cfgKey g f.row i))).flatten
  modRadio (fun r => { r with applied := Sparse.setAll cfgDefault r.applied (keys.map (fun k => (k, Sparse.get cfgDefault s.cfg.live k))) }) s

/-- SECTOR_s as applied: ENABLE. -/
def sectorEnabled (s : State) (k : Nat) : Bool := applied s (0x0900 + k) 1 0 == 1 && !bit s.integ.sectorsFailed.toNat k
/-- BAND. -/
def sectorBand (s : State) (k : Nat) : Nat := appliedNat s (0x0900 + k) 2 0
/-- TX_PATH_DELAY in 2^-16 ns. -/
def txPathDelay (s : State) (k : Nat) : Int := applied s (0x0900 + k) 5 0 * 65536
/-- A time of FRONT_END_s in 2^-16 ns: steps of 0.1 µs. -/
def feTime (s : State) (k row : Nat) : Int := applied s (0x0910 + k) row 0 * 6553600

/-- The edges of a band in kHz (R75, Table 4.1). -/
def bandEdges (band : Nat) : Nat × Nat := if band = 0 then (400000, 510000) else if band = 1 then (863000, 960000) else (2400000, 2500000)

/-! ### The record (R98, R99) -/

/-- A sub-band entry (Table 4.12a). -/
structure SubBand where
  lo : Nat
  hi : Nat
  pmax : Int
  duty : Nat
  window : Nat
  dwell : Nat
  permitted : Bool
  spare : Nat
  deriving DecidableEq, Repr

/-- The sub-band entry of 20 bytes. -/
def subBandOf (l : List Byte) : SubBand :=
  let v := leNat l
  { lo := bits v 0 32, hi := bits v 32 32, pmax := toSigned 16 (bits v 64 16), duty := bits v 80 16, window := bits v 96 16,
    dwell := bits v 112 16, permitted := bit v 128, spare := bits v 129 31 }

/-- N_SUBBANDS of a record. -/
def recBands (r : List Byte) : Nat := byteAt r 8
/-- REGION of a record. -/
def recRegion (r : List Byte) : Nat := fld r 2 2
/-- REC_SEQ of a record. -/
def recSeq (r : List Byte) : Nat := fld r 4 2
/-- REGION_CHANGE of a record. -/
def recRegionChange (r : List Byte) : Bool := bit (byteAt r 6) 0
/-- SCOPE_CHIP of a record. -/
def recChip (r : List Byte) : Bool := bit (byteAt r 6) 1
/-- FE_GAIN of a sector. -/
def recFeGain (r : List Byte) (k : Nat) : Int := toSigned 16 (fld r (12 + 2 * k) 2)
/-- The entries of a record. -/
def recEntries (r : List Byte) : List SubBand := (List.range (recBands r)).map (fun i => subBandOf (slice r (64 + 20 * i) 20))
/-- The length of header and entries. -/
def recLen (r : List Byte) : Nat := 64 + 20 * recBands r
/-- DIGEST holds over header bytes 0 to 31 and the entries (Table 4.11). -/
def recDigestOk (r : List Byte) : Bool := slice r 32 32 == sha256 (r.take 32 ++ (r.drop 64).take (20 * recBands r))

/-- An entry's fields lie in their ranges (Table 4.12a). -/
def subBandOk (b : SubBand) : Bool :=
  decide (b.lo < b.hi) && b.spare == 0 && (b.window == 0 || decide (64 ≤ b.window)) && decide (1 ≤ b.duty) && decide (b.duty ≤ 10000)
    && decide (-160 ≤ b.pmax) && decide (b.pmax ≤ 144)

/-- Entries are sorted and do not overlap. -/
def bandsSorted : List SubBand → Bool
  | a :: b :: r => decide (a.hi ≤ b.lo) && bandsSorted (b :: r)
  | _ => true

/-- A record is well-formed (R99). -/
def recWellFormed (r : List Byte) : Bool :=
  decide (64 ≤ r.length) && fld r 0 2 == 1 && recRegion r != 0 && decide (1 ≤ recBands r) && decide (recBands r ≤ 64)
    && r.length == recLen r && (recEntries r).all subBandOk && bandsSorted (recEntries r)
    && decide (byteAt r 6 < 4) && byteAt r 7 == 0 && allZero (slice r 9 3) && allZero (slice r 28 4)

/-! ### Slots (R100) -/

/-- A slot of one-time-programmable storage. -/
def regSlotOf (s : State) (k : Nat) : Option RegSlot := Sparse.get (fun _ => none) s.radio.regSlots k

/-- Write a slot. -/
def setRegSlot (k : Nat) (x : Option RegSlot) (s : State) : State :=
  modRadio (fun r => { r with regSlots := Sparse.set (fun _ => none) r.regSlots k x }) s

/-- The next unused slot. -/
def unusedSlot (s : State) : Option Nat := (List.range 8).find? (fun k => (regSlotOf s k).isNone)

/-- The committed slots. -/
def committedSlots (s : State) : List (Nat × RegSlot) :=
  (List.range 8).filterMap (fun k => match regSlotOf s k with | some x => if x.committed then some (k, x) else none | none => none)

/-- The committed slot of highest REC_SEQ. -/
def topSlot (l : List (Nat × RegSlot)) : Option (Nat × RegSlot) :=
  l.foldl (fun a p => match a with | some q => if recSeq q.2.bytes < recSeq p.2.bytes then some p else a | none => some p) none

/-- The record at a boot (R100). -/
def regBoot (s : State) : State :=
  match topSlot (committedSlots s) with
  | none => modRadio (fun r => { r with regSlot := none, regState := 0, regReport := false }) s
  | some (k, x) =>
    let ok := recDigestOk x.bytes
    modRadio (fun r => { r with regSlot := some k, regState := if ok then 1 else 2, regReport := !ok }) s

/-- REG_RECORD_BAD at the first entry to CONFIG (R100). -/
def regConfigEntry (s : State) : State :=
  if s.radio.regReport then
    let k := s.radio.regSlot.getD 0
    raiseLocus 0x0502 (BitVec.ofNat 32 (0x701FFFFF + k * 0x00200000)) (leBytes 1 k ++ leBytes 1 2) (modRadio (fun r => { r with regReport := false }) s)
  else s

/-- The record in force (R100). -/
def record (s : State) : Option (List Byte) :=
  match s.radio.regState, s.radio.regSlot with
  | 1, some k => (regSlotOf s k).map (·.bytes)
  | _, _ => none

/-- The entry that governs a channel: permitted, its span wholly inside (R99). -/
def governing (r : List Byte) (centre spacing : Nat) : Option (Nat × SubBand) :=
  let l := recEntries r
  ((List.range l.length).zip l).find? (fun p => p.2.permitted && decide (2 * p.2.lo + spacing ≤ 2 * centre) && decide (2 * centre + spacing ≤ 2 * p.2.hi))

/-! ### Duty-cycle accounts (R106, R107) -/

/-- The key of the account of an entry for a sector. -/
def dutyKey (r : List Byte) (entry k : Nat) : Nat := entry * 16 + (if recChip r then 15 else k)

/-- An account. -/
def dutyOf (s : State) (key : Nat) : DutyAccount := Sparse.get (fun _ => { buckets := [], since := 0 }) s.radio.duty key

/-- Write an account. -/
def setDuty (key : Nat) (x : DutyAccount) (s : State) : State :=
  modRadio (fun r => { r with duty := Sparse.set (fun _ => { buckets := [], since := 0 }) r.duty key x }) s

/-- The airtime of an account. -/
def dutyUsed (x : DutyAccount) : Nat := x.buckets.foldl (· + ·) 0

/-- The limit of an entry in 10 µs units: WINDOW × DUTY / 10,000 s. -/
def dutyLimit (b : SubBand) : Nat := b.window * b.duty * 10

/-- The length of a bucket in ticks: WINDOW / 64. -/
def bucketTicks (b : SubBand) : Nat := b.window * (secTicks / 64)

/-- A duration in 10 µs units, rounded up. -/
def airUnits (ns : Int) : Nat := ((ns + 9999) / 10000).toNat

/-- Meridian time in 2^-16 ns. -/
def merNow (s : State) : Int := merTime s.time.mer

/-- The end of a request's PPDU at RF_OUT_s. -/
def reqEnd (q : PpduReq) : Int := q.txStart + (q.duration : Int) * 65536

/-- The jobs on air on an account. -/
def jobsOn (s : State) (r : List Byte) (key : Nat) : List TxJob :=
  ((List.range 8).map (fun k => (sectorOf s k).jobs.filter (fun j => j.phase == 2 && dutyKey r j.entry k == key))).flatten

/-- A duration fits an account: USED, the rest of every PPDU already started, and the PPDU itself (R106). -/
def dutyFits (s : State) (r : List Byte) (entry k : Nat) (b : SubBand) (ns : Nat) : Bool :=
  let key := dutyKey r entry k
  let rest := (jobsOn s r key).foldl (fun a j => a + (airUnits j.req.duration - j.charged)) 0
  b.window == 0 || decide (dutyUsed (dutyOf s key) + rest + airUnits ns ≤ dutyLimit b)

/-- Airtime is charged to the current bucket. -/
def dutyCharge (key units : Nat) (s : State) : State :=
  if units = 0 then s
  else
    let x := dutyOf s key
    setDuty key { x with buckets := match x.buckets with | a :: l => (a + units) :: l | [] => [units] } s

/-- The windows of the record in the order of its entries (DESIGN CHOICE, log 37). -/
def dutyWindows (r : List Byte) : List Nat := ((recEntries r).map (·.window)).eraseDups.filter (· != 0)

/-- The Arc channel that times a window: ARC30 downward for at most seven, ARC31 beyond (R379). -/
def windowChannel (r : List Byte) (w : Nat) : Nat :=
  let i := (dutyWindows r).idxOf w
  if i < 7 then 30 - i else 31

/-- The channels that firmware reserves: ARC31 and those of the windows in force (R379). -/
def reservedChannels (s : State) : W32 :=
  let l := match record s with
    | some r => (dutyWindows r).map (windowChannel r)
    | none => []
  BitVec.ofNat 32 (bitMap (31 :: l).eraseDups)

/-- The keys of the accounts of a record: entry, sector or 15. -/
def dutyKeys (r : List Byte) : List (Nat × Nat × SubBand) :=
  let l := recEntries r
  (((List.range l.length).zip l).map (fun p =>
    if p.2.window = 0 then [] else if recChip r then [(p.1, 15, p.2)] else (List.range 8).map (fun k => (p.1, k, p.2)))).flatten

/-- The accounts are written to the drives (R107). -/
def dutySave (orderly : Bool) (s : State) : State :=
  if arrayUp s ∧ (record s).isSome then
    writeStripe 64 none (modStore (fun t => { t with savedDuty := some { accounts := s.radio.duty, slow := slowTime s, orderly } }) s)
  else s

/-- `n` bucket boundaries pass: empty buckets enter, old ones leave. -/
def bucketsPass (n : Nat) (l : List Nat) : List Nat := (List.replicate (min n 65) 0 ++ l).take 65

/-- An account whose airtime after a save is not known: every bucket from the one in progress at the save to
the one in progress now counts as full, and USED is capped at the limit (R107, log 38). -/
def bucketsFull (n full limit : Nat) (l : List Nat) : List Nat :=
  let l := (List.replicate (min (n + 1) 65) full ++ l.drop 1).take 65
  let used := l.foldl (· + ·) 0
  if used ≤ limit then l else
    (l.foldl (fun (a : List Nat × Nat) v => let x := min v a.2; (a.1 ++ [x], a.2 - x)) ([], limit)).1

/-- An account as it stands at a boot (R107). -/
def dutyAtBoot (s : State) (r : List Byte) (entry k : Nat) (b : SubBand) : DutyAccount :=
  let limit := dutyLimit b
  match (if arrayUp s then s.store.savedDuty else none), s.time.mer.battery with
  | some v, some _ =>
    let old := Sparse.get (fun _ => { buckets := [], since := 0 }) v.accounts (entry * 16 + k)
    let n := (slowTime s - v.slow) * 64 / (b.window * 32768)
    let full := b.window * 100000 / 64 * (if recChip r then 32 else 4)
    { buckets := if v.orderly then bucketsPass n old.buckets else bucketsFull n full limit old.buckets, since := s.now }
  | _, _ => { buckets := [limit], since := s.now }

/-- The accounts are restored at boot, once the record is read (R107). -/
def dutyBoot (s : State) : State :=
  match record s with
  | some r =>
    (dutyKeys r).foldl (fun s p => setDuty (p.1 * 16 + p.2.1) (dutyAtBoot s r p.1 p.2.1 p.2.2) s) (modRadio (fun x => { x with duty := [] }) s)
  | none => modRadio (fun x => { x with duty := [] }) s

end Sys2Proof.Machine
end

