-- ==== Sys2Proof/Machine/Sector.lean ====
section
/-!
DEFINITION. The sectors: gain control (R78 to R80), the transmit assembler with its checks, sequences and
airtime (R82 to R97, R103 to R107), and receive blanking (R92, R130).
-/
namespace Sys2Proof.Machine

/-! ### Lanes -/

/-- A demodulator lane. -/
def laneAt (s : State) (n : Nat) : Option Lane := Sparse.get (fun _ => none) s.radio.lanes n

/-- Write a lane. -/
def setLaneAt (n : Nat) (x : Option Lane) (s : State) : State :=
  modRadio (fun r => { r with lanes := Sparse.set (fun _ => none) r.lanes n x }) s

/-- The lanes that hold a frame. -/
def heldLanes (s : State) : List (Nat × Lane) := s.radio.lanes.filterMap (fun p => p.2.map (fun l => (p.1, l)))

/-- The lanes that hold a frame of a sector. -/
def sectorLanes (s : State) (k : Nat) : List (Nat × Lane) := (heldLanes s).filter (fun p => p.2.sector == k)

/-- Every lane of a sector releases its frame, which counter `c` of Table 5.8 counts. -/
def releaseLanes (k c : Nat) (s : State) : State :=
  (sectorLanes s k).foldl (fun s p => ctrInc .rx k c (setLaneAt p.1 none s)) s

/-! ### Settle flags (R127 to R130) -/

/-- Spacing of a layer in kHz as applied; 0 where the layer is off. -/
def layerSpacing (s : State) (k layer : Nat) : Nat := appliedNat s (0x0930 + k) 3 layer
/-- TAPS of a layer as applied. -/
def layerTaps (s : State) (k layer : Nat) : Nat := appliedNat s (0x0930 + k) 6 layer

/-- `n` output samples of a spacing in ticks (Table 5.3). -/
def sampleTicks (spacing n : Nat) : Nat := if spacing = 0 then 0 else (n * 200000 + spacing - 1) / spacing

/-- Samples are flagged from now for `fixed` ticks and as many samples of each layer as `n` gives. -/
def flagSamples (k aerials fixed : Nat) (n : Nat → Nat) (s : State) : State :=
  let x : Settle := { aerials, since := s.now, until_ := (List.range 4).map (fun l => s.now + fixed + sampleTicks (layerSpacing s k l) (n l)) }
  let keep := (sectorOf s k).settles.filter (fun y => !(sectorLanes s k).isEmpty || y.until_.any (fun u => decide (s.now ≤ u)))
  modSector k (fun y => { y with settles := keep ++ [x] }) s

/-- Samples of an aerial on a layer carry the flag somewhere in a span of ticks. -/
def flagged (s : State) (k layer : Nat) (b : Bool) (lo hi : Nat) : Bool :=
  (sectorOf s k).settles.any (fun x => bit x.aerials (b2n b) && decide (x.since ≤ hi) && decide (lo < x.until_.getD layer 0))

/-! ### Times of a sector -/

/-- L (R88). -/
def leadTime (s : State) (k : Nat) : Int := feTime s k 1 + feTime s k 2 + feTime s k 3 + feTime s k 4
/-- TX_END to the end of blanking (R90). -/
def tailTime (s : State) (k : Nat) : Int := feTime s k 5 + feTime s k 2 + feTime s k 1 + feTime s k 7
/-- Step 2 to step 6 of Table 4.9. -/
def returnTime (s : State) (k : Nat) : Int := feTime s k 2 + feTime s k 1 + feTime s k 7
/-- COEX_EN. -/
def coexOn (s : State) (k : Nat) : Bool := applied s (0x0910 + k) 10 0 == 1
/-- L_EFF (R91). -/
def leadEff (s : State) (k : Nat) : Int := if coexOn s k then max (leadTime s k) (feTime s k 11) else leadTime s k

/-- An active twin has handed its lease over (R435). -/
def handedOff (s : State) : Bool := activeTwin s && !s.chord.twin.held

/-- No PPDU starts in this mode (R96, Table 2.6), nor at or after H of a handover (R435). -/
def radioMuted (s : State) : Bool := !meshServes s || handedOff s

/-- The sectors that a sector's transmission blanks (R89). -/
def blanks (s : State) (k : Nat) : List Nat := (List.range 8).filter (fun j => j == k || bit (appliedNat s (0x0910 + k) 8 0) j)

/-- The pins of a sector are in the start sequence, the transmit state or the end sequence. -/
def transmits (s : State) (k : Nat) : Bool :=
  let x := sectorOf s k
  match x.seqAt, x.endAt with
  | some a, _ => decide (a ≤ merNow s)
  | none, some b => decide (merNow s < b + returnTime s k)
  | none, none => false

/-- A sector's receivers are blanked (R92). -/
def blanked (s : State) (j : Nat) : Bool := (List.range 8).any (fun k => transmits s k && (blanks s k).contains j)

/-- The levels of PA_EN, PA_BIAS and TR_SW and LNA_EN of a sector (Tables 4.8 to 4.10). -/
def sectorPins (s : State) (k : Nat) : Bool × Bool × Bool × Bool :=
  let x := sectorOf s k
  let t := merNow s
  let rx := x.frontOk && sectorEnabled s k && ([Mode.standbyN, .standbyC].contains (datapath s) || meshServes s)
  let bias := match x.endAt with
    | some b => decide (t < b + applied s (0x0910 + k) 6 0 * usUnits)
    | none => false
  if !x.frontOk then (false, false, false, false)
  else match x.seqAt, x.endAt with
    | some a, _ =>
      if t < a then (false, bias, false, rx)
      else
        let b := a + feTime s k 1
        let c := b + feTime s k 2
        (decide (c + feTime s k 3 ≤ t) && decide (x.dacMute ≤ s.now), decide (c ≤ t) || bias, decide (b ≤ t), false)
    | none, some b =>
      (decide (t < b), decide (t < b) || bias, decide (t < b + feTime s k 2), decide (b + feTime s k 2 + feTime s k 1 ≤ t) && rx)
    | none, none => (false, false, false, rx)

/-- The sectors of a band group that take part in arbitration (R93). -/
def coexSectors (s : State) (g : Nat) : List Nat := (List.range 8).filter (fun k => coexOn s k && sectorBand s k == g && (sectorOf s k).frontOk)

/-- COEX_REQ_g: from TX_START - COEX_LEAD of a PPDU that passed its checks to the last TX_END (R93). -/
def coexReq (s : State) (g : Nat) : Bool :=
  !radioMuted s && (coexSectors s g).any (fun k => (sectorOf s k).jobs.any (fun j => j.phase != 0 && decide (j.req.txStart - feTime s k 11 ≤ merNow s)))

/-- COEX_PRI_g: such a PPDU's class lies in COEX_PRI_CLASSES (R93). -/
def coexPri (s : State) (g : Nat) : Bool :=
  !radioMuted s && (coexSectors s g).any (fun k => (sectorOf s k).jobs.any (fun j =>
    j.phase != 0 && decide (j.req.txStart - feTime s k 11 ≤ merNow s) && bit (appliedNat s (0x0910 + k) 13 0) j.req.cls))

/-! ### Reports to the Facet (R91, R182) -/

/-- A refused or held PPDU is a missed cell, but for an acknowledgement (R182, R189). -/
def ppduRefused (q : PpduReq) (s : State) : State := if q.cls = 0 then s else ctrInc .mac 0 11 s

/-- A PPDU starts: a broadcast frame leaves its queue when the first sector starts it (R182, log 36). -/
def ppduStarted (q : PpduReq) (s : State) : State :=
  if (q.cls = 1 ∨ q.cls = 3) ∧ q.frame = some s.mesh.bcastSeq.toNat then
    modMesh (fun m => { m with broadcast := m.broadcast.drop 1, bcastSeq := m.bcastSeq + 1 }) s
  else s

/-- The frame at the head of a node's queue was sent once more. -/
def countAttempt (n seq : Nat) (s : State) : State :=
  let d := ddqOf s n
  match d.chip with
  | f :: r => if f.seq = seq then setDdq n { d with chip := { f with attempts := f.attempts + 1 } :: r } s else s
  | [] => s

/-- The head of a node's queue leaves it where it is the frame `seq`. -/
def popFrame (n seq : Nat) (s : State) : State :=
  match (ddqOf s n).chip with
  | f :: _ => if f.seq = seq then popHead n s else s
  | [] => s

/-- A frame sent MAX_RETRIES + 1 times without an acknowledgement is discarded (R182). -/
def retryLimit (n seq template : Nat) (s : State) : State :=
  match (ddqOf s n).chip with
  | f :: _ => if f.seq = seq ∧ tmpl s template 12 + 1 ≤ f.attempts then popHead n (ctrInc .mac 0 12 s) else s
  | [] => s

/-- A PPDU has ended: an attempt of its frame; the acknowledgement window opens, or the frame leaves its queue (R182, R186, R239). -/
def ppduEnded (q : PpduReq) (cut : Bool) (s : State) : State :=
  match q.cls, q.node, q.frame with
  | 2, some n, some seq =>
    let s := countAttempt n seq s
    if cut then retryLimit n seq q.template s
    else if q.ackReq then
      let e := reqEnd q + txPathDelay s q.sector + tmplTime s q.template 5
      let half := tmplTime s q.template 6 / 2
      let w : SentPpdu := { node := n, sector := q.sector, frame := seq, template := q.template, openAt := e - half, closeAt := e + half + tmplTime s q.template 3,
                            xUsed := q.xUsed, scheduled := toMesh s q.refEvent - divRound (q.xUsed * 65536) 16 }
      modMesh (fun m => { m with sent := m.sent ++ [w] }) s
    else popFrame n seq s
  | _, _, _ => s

/-! ### Checks of the assembler (R104) -/

/-- The calibration entry of a centre: the nearer, the lower on a tie (R85). -/
def calIndex (band centre : Nat) : Nat :=
  let d := centre - (bandEdges band).1
  if 50 < d % 100 then d / 100 + 1 else d / 100

/-- The calibration entry of a sector. -/
def calEntry (s : State) (k centre : Nat) : Nat := cfgNat s (0x0920 + k) 1 (calIndex (sectorBand s k) centre)

/-- The trims apply only with VALID = 1 (R85). -/
def calTrim (v lo w : Nat) : Nat := if bit v 63 then bits v lo w else 0

/-- The per-channel ceiling in dBm (Table 4.4). -/
def txCeiling (range channels : Nat) : Int := ([6, 1, -1, -2] : List Int).getD (channels - 1) (-2) - 3 * range

/-- The enforcement gain in 0.25 dB (R104). -/
def enforceGain (s : State) (r : List Byte) (k centre : Nat) : Int := recFeGain r k + (calTrim (calEntry s k centre) 40 8 : Int)

/-- The level at RF_OUT_s in 0.01 dBm, between the ceiling and 40 dB below it (R83), GAIN_TRIM added. -/
def txLevel (s : State) (r : List Byte) (k : Nat) (q : PpduReq) : Int :=
  let top := txCeiling (appliedNat s (0x0900 + k) 3 0) (appliedNat s (0x0900 + k) 4 0) * 100
  max (top - 4000) (min top ((q.power - enforceGain s r k q.centre) * 25)) + toSigned 16 (calTrim (calEntry s k q.centre) 0 16)

/-- The most channels active at once while a PPDU would be on air, without it (R82). -/
def channelsBusy (jobs : List TxJob) (q : PpduReq) : Nat :=
  let others := jobs.filter (fun j => j.phase != 0 && decide (j.req.txStart < reqEnd q) && decide (q.txStart < reqEnd j.req))
  let points := q.txStart :: (others.map (fun j => j.req.txStart)).filter (fun t => decide (q.txStart < t))
  (points.map (fun t => (others.filter (fun j => decide (j.req.txStart ≤ t) && decide (t < reqEnd j.req))).length)).foldl max 0

/-- The counter of the first check of R104 that a request fails (Table 4.12); none where it passes. `late` is
the outcome of R91 at its arrival. -/
def txRefusal (s : State) (k : Nat) (q : PpduReq) (late : Bool) : Option Nat :=
  let x := sectorOf s k
  let edges := bandEdges (sectorBand s k)
  match record s with
  | none => some 1
  | some r =>
    match (if edges.1 ≤ q.centre ∧ q.centre ≤ edges.2 then governing r q.centre q.spacing else none) with
    | none => some 2
    | some (i, b) =>
      if b.pmax < q.power then some 3
      else if b.dwell ≠ 0 ∧ b.dwell * 1000000 < q.duration then some 4
      else if !dutyFits s r i k b q.duration then some 5
      else if appliedNat s (0x0900 + k) 4 0 ≤ channelsBusy x.jobs q then some 6
      else
        let ending := match x.seqAt, x.endAt with
          | none, some e => decide (q.txStart - leadTime s k < e + returnTime s k)
          | none, none => false
          | some _, _ => false
        if late || ending then some 7 else none

/-- The governing entry of a request that passed. -/
def governingEntry (s : State) (q : PpduReq) : Nat :=
  match record s with
  | some r => match governing r q.centre q.spacing with | some (i, _) => i | none => 0
  | none => 0

/-! ### Sequences (R89, R90) -/

/-- Step 2 of the end sequence falls at `b`: blanking ends after step 6, and filters then still flag samples (R130). -/
def runEnd (k : Nat) (b : Int) (s : State) : State :=
  let s := modSector k (fun x => { x with seqAt := none, endAt := some b }) s
  let wait := ((b + returnTime s k - merNow s) / 81920).toNat
  (blanks s k).foldl (fun s j => flagSamples j 3 wait (layerTaps s j) s) s

/-- The gap rule of R90, after the last active channel ended or the next PPDU was refused. -/
def gapRule (k : Nat) (s : State) : State :=
  let x := sectorOf s k
  if x.jobs.any (fun j => j.phase == 2) then s
  else
    let next := (x.jobs.map (fun j => j.req.txStart)).filter (fun t => decide (x.lastEnd ≤ t))
    let near := next.any (fun t => decide (t - x.lastEnd < tailTime s k + leadTime s k))
    if near then s else runEnd k (max (x.lastEnd + feTime s k 5) (merNow s)) s

/-- The pins stay in the transmit state between PPDUs (R90). -/
def holding (x : SectorState) : Bool :=
  match x.seqAt with
  | some a => decide (a < x.lastEnd) && !(x.jobs.any (fun j => j.phase == 2))
  | none => false

/-- A job leaves the assembler. -/
def dropJob (k id : Nat) (s : State) : State :=
  modSector k (fun x => { x with jobs := x.jobs.filter (fun j => j.req.id != id) }) s

/-- A request is refused: counted, reported, and the gap rule applied again (R90, R104). -/
def refuseJob (k : Nat) (q : PpduReq) (c : Nat) (s : State) : State :=
  let s := ppduRefused q (ctrInc .tx k c (dropJob k q.id s))
  if holding (sectorOf s k) then gapRule k s else s

/-! ### Start and end of a PPDU -/

/-- Change a job. -/
def modJob (k id : Nat) (f : TxJob → TxJob) (s : State) : State :=
  modSector k (fun x => { x with jobs := x.jobs.map (fun j => if j.req.id = id then f j else j) }) s

/-- A mesh frame counts in the mesh load: a descriptor committed over X04 or a PPDU sent (log 53). -/
def noteLoad (s : State) : State :=
  let now := s.now / secTicks
  match s.mesh.load with
  | (t, n) :: r => if t = now then modMesh (fun m => { m with load := (t, n + 1) :: r }) s
                   else modMesh (fun m => { m with load := (now, 1) :: ((t, n) :: r).filter (fun p => decide (now ≤ p.1 + 60)) }) s
  | [] => modMesh (fun m => { m with load := [(now, 1)] }) s

/-- Mesh frames of the last `n` whole seconds and the one in progress (log 53). -/
def meshLoad (n : Nat) (s : State) : Nat :=
  (s.mesh.load.filter (fun p => decide (s.now / secTicks ≤ p.1 + n))).foldl (fun a p => a + p.2) 0

/-- A PPDU leaves RF_OUT_s (R84, R85, R156); with no front end committed the output stays in Table 4.10 (R95). -/
def startPpdu (k : Nat) (j : TxJob) (s : State) : State :=
  let x := sectorOf s k
  let s := modJob k j.req.id (fun j => { j with phase := 2 }) s
  let s := noteLoad (ctrInc .tx k 0 s)
  let s := if bit j.cal 63 then s else ctrInc .tx k 11 s
  let s := modSector k (fun y => { y with seed := if j.req.phy = 2 then (y.seed + 1) % 4 else y.seed,
                                          sentLog := ((j.req.centre, reqEnd j.req + txPathDelay s k) :: y.sentLog).take 64 }) s
  let syms := if j.req.phy = 2 then gxPpdu j.req.option j.req.mcs x.seed j.req.fcs32 j.req.psdu else []
  let s := if x.frontOk then emit (.ppdu j.req j.level (calTrim j.cal 16 12) (toSigned 12 (calTrim j.cal 28 12)) syms) s else s
  ppduStarted j.req s

/-- The PPDUs of a sector whose TX_START has come start. -/
def startDue (k : Nat) (s : State) : State :=
  ((sectorOf s k).jobs.filter (fun j => j.phase == 1 && j.granted && decide (j.req.txStart ≤ merNow s))).foldl (fun s j => startPpdu k j s) s

/-- What has fallen due on the radio by now: starts, and the release of lanes on blanked sectors (R130). -/
def radioDue (s : State) : State :=
  let s := (List.range 8).foldl (fun s k => if (sectorOf s k).jobs.isEmpty then s else startDue k s) s
  (List.range 8).foldl (fun s k => if (sectorLanes s k).isEmpty || !blanked s k then s else releaseLanes k 10 s) s

/-- An event of the radio. -/
def radioEvent (dt : Nat) (f : State → State) : State → Host.Outcome State Fault Refusal := event dt (fun s => f (radioDue s))

/-- Airtime of a job up to `t` is charged (R106). -/
def chargeTo (k : Nat) (j : TxJob) (t : Int) (s : State) : State :=
  match record s with
  | some r =>
    let units := airUnits ((t - j.req.txStart + 65535) / 65536)
    match (recEntries r)[j.entry]? with
    | some b =>
      if b.window = 0 then s
      else modJob k j.req.id (fun j => { j with charged := max j.charged units }) (dutyCharge (dutyKey r j.entry k) (units - j.charged) s)
    | none => s
  | none => s

/-- A PPDU on air ends at `t`: at its end, or where it is cut. -/
def endPpdu (k : Nat) (j : TxJob) (t : Int) (cut : Bool) (s : State) : State :=
  let s := dropJob k j.req.id (chargeTo k j t s)
  ppduEnded j.req cut (modSector k (fun x => { x with lastEnd := max x.lastEnd t }) s)

/-- Every PPDU of a sector that is on air is cut (R94, R96). -/
def cutAll (k : Nat) (s : State) : State :=
  let on := (sectorOf s k).jobs.filter (fun j => j.phase == 2)
  on.foldl (fun s j => endPpdu k j (merNow s) true s) s

/-- A muted mode is entered (R96): waiting requests are refused, PPDUs on air end, and the pins return. -/
def muteSector (k : Nat) (s : State) : State :=
  let s := startDue k s
  let wait := (sectorOf s k).jobs.filter (fun j => j.phase != 2)
  let s := wait.foldl (fun s j => ppduRefused j.req (dropJob k j.req.id (if j.phase = 0 then ctrInc .tx k 14 s else s))) s
  let on := (sectorOf s k).jobs.any (fun j => j.phase == 2)
  let s := cutAll k s
  match (sectorOf s k).seqAt with
  | some a => if a ≤ merNow s then runEnd k (merNow s + (if on then feTime s k 5 else 0)) s else modSector k (fun x => { x with seqAt := none }) s
  | none => s

/-- Every sector is muted. -/
def muteRadio (s : State) : State := (List.range 8).foldl (fun s k => muteSector k s) s

/-! ### Events of the assembler -/

/-- The next request of a sector: acknowledgements first (X05), then scheduled PPDUs (X11). -/
def nextRequest (k : Nat) (s : State) : Option PpduReq × State :=
  let a := Sparse.get (fun _ => []) s.radio.x05 k
  let b := Sparse.get (fun _ => []) s.radio.x11 k
  match a, b with
  | q :: r, _ => (some q, modRadio (fun x => { x with x05 := Sparse.set (fun _ => []) x.x05 k r }) s)
  | [], q :: r => (some q, modRadio (fun x => { x with x11 := Sparse.set (fun _ => []) x.x11 k r }) s)
  | [], [] => (none, s)

/-- PPDU_REQUEST: a request reaches the assembler (R91, R104). One that is late is checked at once (log 35). -/
def ppduRequest (k : Nat) (s : State) : State :=
  match nextRequest k s with
  | (some q, s) =>
    if !sectorEnabled s k || radioMuted s then refuseJob k q 14 s
    else if q.txStart - leadEff s k - 250 * 65536 < merNow s then refuseJob k q ((txRefusal s k q true).getD 7) s
    else modSector k (fun x => { x with jobs := x.jobs ++ [{ req := q, phase := 0, granted := false, entry := 0, charged := 0, level := 0, cal := 0 }] }) s
  | (none, s) => s

/-- PPDU_REQUEST -/
def execPpduRequest (dt sector : Nat) : State → Host.Outcome State Fault Refusal := radioEvent dt (ppduRequest sector)

/-- New PPDUs are held by a DAC_RANGE change: noted, or 1 s after its first commit (R97). -/
def rangeHeld (s : State) (x : SectorState) : Bool :=
  x.dacHold || (match x.pendDac with | some t => decide (secTicks ≤ since s t) | none => false)

/-- A request that passed: its sequence starts unless the pins are in the transmit state already (R89). -/
def acceptJob (k : Nat) (q : PpduReq) (s : State) : State :=
  let level := match record s with | some r => txLevel s r k q | none => 0
  let entry := governingEntry s q
  let cal := calEntry s k q.centre
  let s := modJob k q.id (fun j => { j with phase := 1, granted := !coexOn s k, entry, level, cal }) s
  let s := match (sectorOf s k).seqAt with
    | some _ => s
    | none => modSector k (fun x => { x with seqAt := some (q.txStart - leadTime s k) }) s
  radioDue s

/-- TX_START_SEQUENCE: the checks of R104 at TX_START - L_EFF, and the start sequence (R89). -/
def txStartSequence (k id : Nat) (s : State) : State :=
  let x := sectorOf s k
  match x.jobs.find? (fun j => j.req.id == id && j.phase == 0) with
  | some j =>
    let q := j.req
    if merNow s < q.txStart - leadEff s k then s
    else if !sectorEnabled s k || radioMuted s then refuseJob k q 14 s
    else match txRefusal s k q false with
      | some c => refuseJob k q c s
      | none => if rangeHeld s x then refuseJob k q 10 s else acceptJob k q s
  | none => s

/-- TX_START_SEQUENCE -/
def execTxStartSequence (dt sector id : Nat) : State → Host.Outcome State Fault Refusal := radioEvent dt (txStartSequence sector id)

/-- A PPDU is denied by the arbiter: a sequence that began for it alone stops and returns (R93). -/
def coexDeny (k : Nat) (j : TxJob) (s : State) : State :=
  let s := refuseJob k j.req 8 s
  let x := sectorOf s k
  match x.seqAt with
  | some a =>
    if x.jobs.any (fun j => j.phase != 0) || decide (a < x.lastEnd) then s
    else if a ≤ merNow s then runEnd k (merNow s) s
    else modSector k (fun x => { x with seqAt := none }) s
  | none => s

/-- The coexistence grant of a band group as the model holds it. -/
def setGrant (g : Nat) (v : Bool) (s : State) : State :=
  modRadio (fun r => { r with grants := bitMap ((bitList 3 r.grants).filter (· != g) ++ (if v then [g] else [])) }) s

/-- COEX_GRANT_SAMPLE: COEX_GRANT_g at TX_START - COEX_DECIDE (R93). -/
def coexGrantSample (k id : Nat) (grant : Bool) (s : State) : State :=
  match (sectorOf s k).jobs.find? (fun j => j.req.id == id && j.phase == 1 && !j.granted) with
  | some j =>
    if merNow s < j.req.txStart - feTime s k 12 then s
    else
      let s := setGrant (sectorBand s k) grant s
      if grant then radioDue (modJob k id (fun j => { j with granted := true }) s) else coexDeny k j s
  | none => s

/-- COEX_GRANT_SAMPLE -/
def execCoexGrantSample (dt sector id : Nat) (grant : Bool) : State → Host.Outcome State Fault Refusal :=
  radioEvent dt (coexGrantSample sector id grant)

/-- COEX_GRANT_FALL: with COEX_ABORT = 1 every active channel of the group's sectors is cut (R94). -/
def coexGrantFall (g : Nat) (s : State) : State :=
  (List.range 8).foldl (fun s k =>
    let on := (sectorOf s k).jobs.filter (fun j => j.phase == 2)
    if coexOn s k && sectorBand s k == g && applied s (0x0910 + k) 14 0 == 1 && !on.isEmpty then
      gapRule k (cutAll k (ctrAdd .tx k 9 on.length s))
    else s) (setGrant g false s)

/-- COEX_GRANT_FALL -/
def execCoexGrantFall (dt group : Nat) : State → Host.Outcome State Fault Refusal := radioEvent dt (coexGrantFall group)

/-- TX_END: a channel ends; after the last one the pins return, unless the next PPDU is near (R90). -/
def txEnd (k id : Nat) (s : State) : State :=
  match (sectorOf s k).jobs.find? (fun j => j.req.id == id && j.phase == 2) with
  | some j => if merNow s < reqEnd j.req then s else gapRule k (endPpdu k j (reqEnd j.req) false s)
  | none => s

/-- TX_END -/
def execTxEnd (dt sector id : Nat) : State → Host.Outcome State Fault Refusal := radioEvent dt (txEnd sector id)

/-! ### Application of configuration (R87, R88, R97) -/

/-- The body of SECTOR_CFG_APPLIED (Table 18.15). -/
def cfgAppliedBody (s : State) (k range : Nat) : List Byte :=
  leBytes 1 k ++ leBytes 1 range ++ zeros 6 ++ leBytes 6 (nowSec s) ++ zeros 2 ++ leBytes 4 (nowNanos s)

/-- A sector has a PPDU in progress. -/
def onAir (x : SectorState) : Bool := x.jobs.any (fun j => j.phase == 2)

/-- DAC_RANGE_APPLY: at the first idle instant, with 2 µs of mid-scale zero (R97). -/
def dacRangeApply (k : Nat) (s : State) : State :=
  let x := sectorOf s k
  let near := x.jobs.any (fun j => j.phase == 1 && decide (j.req.txStart ≤ merNow s + 2 * usUnits))
  if x.pendDac.isNone || onAir x || near then s
  else
    let s := applyRows (0x0900 + k) [3] s
    let s := setSector k { x with pendDac := none, dacHold := false, dacMute := s.now + 2 * usTicks } s
    raise 0x0501 (cfgAppliedBody s k 1) s

/-- DAC_RANGE_APPLY -/
def execDacRangeApply (dt sector : Nat) : State → Host.Outcome State Fault Refusal := radioEvent dt (dacRangeApply sector)

/-- DAC_RANGE_HOLD: 1 s after the first commit new PPDUs are held (R97). -/
def dacRangeHold (k : Nat) (s : State) : State :=
  let x := sectorOf s k
  if rangeHeld s x then setSector k { x with dacHold := true } s else s

/-- DAC_RANGE_HOLD -/
def execDacRangeHold (dt sector : Nat) : State → Host.Outcome State Fault Refusal := radioEvent dt (dacRangeHold sector)

/-- The gain index that AGC_MODE FIXED sets when receive operation begins, or the mode is applied (R79). -/
def fixGain (k : Nat) (s : State) : State :=
  if applied s (0x0900 + k) 6 0 = 1 then
    let g := appliedNat s (0x0900 + k) 7 0
    let x := sectorOf s k
    let s := if x.agcA.g = g then s else flagSamples k 1 0 (fun _ => 32) s
    let s := if x.agcB.g = g then s else flagSamples k 2 0 (fun _ => 32) s
    modSector k (fun x => { x with agcA := { x.agcA with g, lowSince := s.now }, agcB := { x.agcB with g, lowSince := s.now } }) s
  else s

/-- The outputs of a sector return to Table 4.10 (R95): requests end and g is 17 (R79). -/
def sectorOff (k : Nat) (s : State) : State :=
  modSector k (fun x => { x with agcA := Agc.reset, agcB := Agc.reset, seqAt := none, endAt := none, jobs := [] }) (cutAll k s)

/-- SECTOR_CFG_APPLY: the fields other than DAC_RANGE, with no PPDU in progress (R87). -/
def sectorCfgApply (k : Nat) (s : State) : State :=
  let x := sectorOf s k
  if !x.pendSector || onAir x then s
  else
    let was := sectorEnabled s k
    let s := setSector k { x with pendSector := false } (applyRows (0x0900 + k) [1, 2, 4, 5, 6, 7, 8] s)
    let s := if was && !sectorEnabled s k then sectorOff k s else if datapath s = .config then s else fixGain k s
    raise 0x0501 (cfgAppliedBody s k 0) s

/-- SECTOR_CFG_APPLY -/
def execSectorCfgApply (dt sector : Nat) : State → Host.Outcome State Fault Refusal := radioEvent dt (sectorCfgApply sector)

/-- FRONT_END_CFG_APPLY: with no PPDU in progress and none in its start sequence (R88). -/
def frontEndCfgApply (k : Nat) (s : State) : State :=
  let x := sectorOf s k
  if !x.pendFront || x.jobs.any (fun j => j.phase != 0) then s
  else setSector k { x with pendFront := false } (applyRows (0x0910 + k) (List.range 15) s)

/-- FRONT_END_CFG_APPLY -/
def execFrontEndCfgApply (dt sector : Nat) : State → Host.Outcome State Fault Refusal := radioEvent dt (frontEndCfgApply sector)

/-! ### Duty-cycle boundaries (R106, R107) -/

/-- DUTY_BUCKET_BOUNDARY: the Arc channel of a window ends a bucket of every account of that window. -/
def dutyBoundary (ch : Nat) (s : State) : State :=
  match record s with
  | none => s
  | some r =>
    let keys := (dutyKeys r).filter (fun p => windowChannel r p.2.2.window == ch)
    let due := keys.filter (fun p => decide (bucketTicks p.2.2 ≤ since s (dutyOf s (p.1 * 16 + p.2.1)).since))
    if due.isEmpty then s
    else
      let s := (List.range 8).foldl (fun s k =>
        ((sectorOf s k).jobs.filter (fun j => j.phase == 2 && due.any (fun p => p.1 == j.entry))).foldl (fun s j => chargeTo k j (merNow s) s) s) s
      dutySave false (due.foldl (fun s p =>
        let key := p.1 * 16 + p.2.1
        let x := dutyOf s key
        setDuty key { buckets := (0 :: x.buckets).take 65, since := x.since + bucketTicks p.2.2 } s) s)

/-- DUTY_BUCKET_BOUNDARY -/
def execDutyBucketBoundary (dt channel : Nat) : State → Host.Outcome State Fault Refusal := radioEvent dt (dutyBoundary channel)

/-! ### Gain control (R79, R80) -/

/-- The receivers of a sector run (Table 2.6, R45). -/
def rxRuns (s : State) (k : Nat) : Bool :=
  sectorEnabled s k
    && (match datapath s with
        | .quiescent => (sectorOf s k).window.isSome
        | m => oneOf [.activeN, .activeC, .island, .standbyN, .standbyC] m)

/-- AGC of an ADC. -/
def agcOf (x : SectorState) (b : Bool) : Agc := if b then x.agcB else x.agcA

/-- Write AGC of an ADC. -/
def setAgc (b : Bool) (a : Agc) (x : SectorState) : SectorState := if b then { x with agcB := a } else { x with agcA := a }

/-- A step of g: the wait restarts, and 32 samples of the aerial are flagged (R79, R127). -/
def gainStep (k : Nat) (b : Bool) (a : Agc) (s : State) : State :=
  flagSamples k (b2n b + 1) 0 (fun _ => 32) (modSector k (setAgc b { a with lowSince := s.now, deferred := false }) s)

/-- AUTO gain control acts on a sector now (R79, R92). -/
def agcActs (s : State) (k : Nat) : Bool := rxRuns s k && !blanked s k && applied s (0x0900 + k) 6 0 == 0

/-- GAIN_INDEX_RAISE: the peak reached -3 dBFS (R79); at most once per 2 µs, never above 17. -/
def gainRaise (k : Nat) (b : Bool) (s : State) : State :=
  let a := agcOf (sectorOf s k) b
  let soon := a.raisedAt ≠ 0 ∧ since s (a.raisedAt - 1) < 2 * usTicks
  if !agcActs s k ∨ soon ∨ a.g = 17 then s
  else ctrInc .tx k 12 (gainStep k b { a with g := min 17 (a.g + 3), raisedAt := s.now + 1 } s)

/-- GAIN_INDEX_RAISE -/
def execGainIndexRaise (dt sector : Nat) (adcB : Bool) : State → Host.Outcome State Fault Refusal := radioEvent dt (gainRaise sector adcB)

/-- A lane holds a frame that draws on an ADC (R80). -/
def adcHeld (s : State) (k : Nat) (b : Bool) : Bool :=
  (sectorLanes s k).any (fun p => match p.2.aerialB with
    | some x => x == b
    | none => match cfgGet s (0x0930 + k) 7 0 with | 1 => !b | 2 => b | _ => true)

/-- GAIN_INDEX_LOWER: the peak stayed below -24 dBFS for AGC_HOLD (R79), deferred while a lane draws on the ADC (R80). -/
def gainLower (k : Nat) (b : Bool) (s : State) : State :=
  let a := agcOf (sectorOf s k) b
  if !agcActs s k ∨ a.g = 0 ∨ since s a.lowSince < appliedNat s (0x0900 + k) 8 0 * msTicks then s
  else if adcHeld s k b then modSector k (setAgc b { a with deferred := true }) s
  else ctrInc .tx k 13 (gainStep k b { a with g := a.g - 1 } s)

/-- GAIN_INDEX_LOWER -/
def execGainIndexLower (dt sector : Nat) (adcB : Bool) : State → Host.Outcome State Fault Refusal := radioEvent dt (gainLower sector adcB)

end Sys2Proof.Machine
end

