-- ==== Sys2Proof/Machine/Frame.lean ====
section
/-!
DEFINITION. Frames of IEEE 802.15.4-2020 as the chapters use them: FCS, MAC header, information elements,
and frame security with the nonces of R211. Their layouts are the standard's (PRESUMED, log 40).
-/
namespace Sys2Proof.Machine

/-! ### FCS -/

/-- One byte of the 16-bit FCS. -/
def fcsByte (c : BitVec 16) (b : Byte) : BitVec 16 :=
  (List.range 8).foldl (fun c _ => if c.getLsbD 0 then (c >>> 1) ^^^ 0x8408 else c >>> 1) (c ^^^ b.setWidth 16)

/-- The 2-byte FCS of a frame. -/
def fcs16 (l : List Byte) : Nat := (l.foldl fcsByte 0).toNat

/-- The 4-byte FCS of a frame; one shorter than 4 bytes is padded with zeros. -/
def fcs32 (l : List Byte) : Nat := ((padTo (max 4 l.length) l).foldl (crcByte 0xEDB88320) 0xFFFFFFFF ^^^ 0xFFFFFFFF).toNat

/-- Bytes of the FCS. -/
def fcsLen (four : Bool) : Nat := if four then 4 else 2

/-- The FCS of a frame. -/
def fcsOf (four : Bool) (l : List Byte) : Nat := if four then fcs32 l else fcs16 l

/-- A frame with its FCS: the PSDU. -/
def withFcs (four : Bool) (l : List Byte) : List Byte := l ++ leBytes (fcsLen four) (fcsOf four l)

/-- The frame of a PSDU, without its FCS. -/
def psduBody (four : Bool) (l : List Byte) : List Byte := l.take (l.length - fcsLen four)

/-- The FCS that a PSDU carries. -/
def psduFcs (four : Bool) (l : List Byte) : Nat := fld l (l.length - fcsLen four) (fcsLen four)

/-- The FCS of a PSDU holds. -/
def psduOk (four : Bool) (l : List Byte) : Bool := decide (fcsLen four ≤ l.length) && psduFcs four l == fcsOf four (psduBody four l)

/-! ### The MAC header -/

/-- What a MAC header says. -/
structure Mhr where
  ftype : Nat
  version : Nat
  security : Bool
  ackReq : Bool
  seqSup : Bool
  ie : Bool
  dstMode : Nat
  srcMode : Nat
  seq : Nat
  dst : Nat
  src : Nat
  level : Nat
  kim : Nat
  fcSup : Bool
  asnNonce : Bool
  counter : Nat
  keyIdx : Nat
  /-- Header IEs: identifier and content. -/
  ies : List (Nat × List Byte)
  /-- Where the header ends, and whether payload IEs follow. -/
  bodyAt : Nat
  payloadIes : Bool
  deriving DecidableEq, Repr

/-- Bytes of an address. -/
def addrLen (mode : Nat) : Nat := if mode = 2 then 2 else if mode = 3 then 8 else 0

/-- Whether the destination and the source PAN identifiers are present. -/
def panPresence (version dst src : Nat) (comp : Bool) : Bool × Bool :=
  if version = 2 then
    if dst = 0 ∧ src = 0 then (comp, false)
    else if src = 0 then (!comp, false)
    else if dst = 0 then (false, !comp)
    else if dst = 3 ∧ src = 3 then (!comp, false)
    else (true, !comp)
  else (dst != 0, src != 0 && !(comp && dst != 0))

/-- Bytes of the MIC of a security level. -/
def micLen (level : Nat) : Nat := [0, 4, 8, 16].getD (level % 4) 0

/-- Bytes of a key identifier of a mode. -/
def keyIdLen (kim : Nat) : Nat := [0, 1, 5, 9].getD kim 0

/-- The header IEs from an offset up to `stop`: the elements, where they end, and whether payload IEs follow. -/
def headerIes (l : List Byte) (stop : Nat) : Nat → Nat → List (Nat × List Byte) × Nat × Bool
  | 0, off => ([], off, false)
  | fuel + 1, off =>
    let w := fld l off 2
    let len := bits w 0 7
    let id := bits w 7 8
    if stop < off + 2 ∨ bit w 15 ∨ stop < off + 2 + len then ([], off, false)
    else if id = 0x7E then ([], off + 2 + len, true)
    else if id = 0x7F then ([], off + 2 + len, false)
    else
      let r := headerIes l stop fuel (off + 2 + len)
      ((id, slice l (off + 2) len) :: r.1, r.2)

/-- The MAC header of a frame without its FCS. -/
def mhrOf (l : List Byte) : Mhr :=
  let fc := fld l 0 2
  let version := bits fc 12 2
  let seqSup := bit fc 8 && version == 2
  let dstMode := bits fc 10 2
  let srcMode := bits fc 14 2
  let pan := panPresence version dstMode srcMode (bit fc 6)
  let o1 := 2 + b2n (!seqSup)
  let o2 := o1 + 2 * b2n pan.1
  let o3 := o2 + addrLen dstMode
  let o4 := o3 + 2 * b2n pan.2
  let o5 := o4 + addrLen srcMode
  let security := bit fc 3
  let sc := if security then byteAt l o5 else 0
  let fcSup := bit sc 5
  let o6 := o5 + b2n security
  let o7 := o6 + (if security && !fcSup then 4 else 0)
  let o8 := o7 + (if security then keyIdLen (bits sc 3 2) else 0)
  let level := bits sc 0 3
  let ie := bit fc 9 && version == 2
  let r := if ie then headerIes l (l.length - micLen level) l.length o8 else ([], o8, false)
  { ftype := bits fc 0 3, version, security, ackReq := bit fc 5, seqSup, ie, dstMode, srcMode,
    seq := if seqSup then 0 else byteAt l 2, dst := fld l o2 (addrLen dstMode), src := fld l o4 (addrLen srcMode), level, kim := bits sc 3 2,
    fcSup, asnNonce := bit sc 6, counter := if security && !fcSup then fld l o6 4 else 0,
    keyIdx := if security && 0 < bits sc 3 2 then byteAt l (o8 - 1) else 0, ies := r.1, bodyAt := r.2.1, payloadIes := r.2.2 }

/-- The node that a source address names (R137). -/
def sourceNode (s : State) (h : Mhr) : Option Nat :=
  if h.srcMode = 3 then nodeOfEui s (BitVec.ofNat 64 h.src) else if h.srcMode = 2 then nodeOfShort s h.src else none

/-- The content of a header IE. -/
def ieOf (h : Mhr) (id : Nat) : Option (List Byte) := (h.ies.find? (fun p => p.1 == id)).map (·.2)

/-- A header IE as it is sent. -/
def headerIe (id : Nat) (content : List Byte) : List Byte := leBytes 2 (content.length + id * 128) ++ content

/-- Time Correction of a header (R187): the correction in µs, and NACK. -/
def timeCorrection (h : Mhr) : Option (Int × Bool) :=
  match ieOf h 0x1E with
  | some c => if c.length = 2 then some (toSigned 12 (fld c 0 2), bit (fld c 0 2) 15) else none
  | none => none

/-- VENDOR_ID of the elements of R165, R258 and R259. -/
def vendorId : Nat := 0x5AC641

/-- The content after SUBTYPE of a vendor element of a header. -/
def vendorIe (h : Mhr) (subtype : Nat) : Option (List Byte) :=
  (h.ies.find? (fun p => p.1 == 0 && fld p.2 0 3 == vendorId && byteAt p.2 3 == subtype)).map (fun p => p.2.drop 4)

/-- Payload IEs from an offset: where they end. -/
def payloadIesEnd (l : List Byte) : Nat → Nat → Nat
  | 0, off => off
  | fuel + 1, off =>
    let w := fld l off 2
    let next := off + 2 + bits w 0 11
    if l.length < off + 2 ∨ !bit w 15 ∨ l.length < next then off
    else if bits w 11 4 = 15 then next
    else payloadIesEnd l fuel next

/-- The MAC payload of a frame in plain form. -/
def framePayload (h : Mhr) (plain : List Byte) : List Byte :=
  if h.payloadIes then plain.drop (payloadIesEnd plain plain.length 0) else plain

/-! ### Security (R211, Table 8.4) -/

/-- The nonce of a frame: from the head end or from the node. -/
def frameNonce (s : State) (r : NodeRec) (head : Bool) (level counter asn : Nat) : List Byte :=
  if r.gobaix then
    leBytes 1 (b2n head * 128 + level) ++ beBytes 5 asn ++ beBytes 4 counter ++ beBytes 3 (r.eui.toNat % 2 ^ 24)
  else beBytes 8 (if head then cfgNat s 0x0822 3 0 else r.eui.toNat) ++ beBytes 4 counter ++ leBytes 1 level

/-- Verify and open a frame: its body in plain form, and whether the MIC holds. -/
def openFrame (key nonce l : List Byte) (h : Mhr) : List Byte × Bool :=
  let m := micLen h.level
  let mac := l.drop (l.length - m)
  let l := l.take (l.length - m)
  if h.level < 4 then (l.drop h.bodyAt, (ccmDecrypt key nonce l [] mac).2)
  else ccmDecrypt key nonce (l.take h.bodyAt) (l.drop h.bodyAt) mac

/-- Secure a frame: header and body in, the frame without FCS out. -/
def sealFrame (key nonce hdr body : List Byte) (level : Nat) : List Byte :=
  if level = 0 then hdr ++ body
  else if level < 4 then hdr ++ body ++ (ccmEncrypt key nonce (hdr ++ body) [] (micLen level)).2
  else
    let r := ccmEncrypt key nonce hdr body (micLen level)
    hdr ++ r.1 ++ r.2

/-- The auxiliary security header of a frame that the chip sends (R211). -/
def auxHeader (level counter gen : Nat) (asn : Bool) : List Byte :=
  leBytes 1 (level + 8 + 64 * b2n asn) ++ leBytes 4 counter ++ leBytes 1 gen

/-- An address as it is sent. -/
def addrBytes (mode v : Nat) : List Byte := leBytes (addrLen mode) v

/-- The header of a data frame to a node (R212), or to every node: with an extended source address, the node's
short address where it has one, no PAN identifier for two extended addresses, version 0b10. -/
def dataHeader (s : State) (n : Nat) (seq : Nat) (ackReq : Bool) (aux : List Byte) : List Byte :=
  let short := shortOf s n
  let mode := if short = 0xFFFF then 3 else 2
  let dst := if mode = 3 then (nodeOf s n).eui.toNat else short
  let fc := 1 + 8 * b2n (!aux.isEmpty) + 32 * b2n ackReq + 64 + mode * 2 ^ 10 + 2 * 2 ^ 12 + 3 * 2 ^ 14
  leBytes 2 fc ++ leBytes 1 seq ++ (if mode = 2 then leBytes 2 0xFFFF else []) ++ addrBytes mode dst ++ addrBytes 3 (cfgNat s 0x0822 3 0) ++ aux

/-- The header of a broadcast frame at security level 0: data, or a beacon in an advertising cell. -/
def broadcastHeader (s : State) (beacon : Bool) (seq : Nat) (ie : Bool) : List Byte :=
  let fc := (if beacon then 0 else 1) + 64 + 512 * b2n ie + 2 * 2 ^ 10 + 2 * 2 ^ 12 + 3 * 2 ^ 14
  leBytes 2 fc ++ leBytes 1 seq ++ leBytes 2 0xFFFF ++ leBytes 2 0xFFFF ++ addrBytes 3 (cfgNat s 0x0822 3 0)

/-- The header of an enhanced acknowledgement without its IEs (R187). -/
def ackHeader (h : Mhr) (pending : Bool) (aux : List Byte) : List Byte :=
  let fc := 2 + 8 * b2n h.security + 16 * b2n pending + 64 * b2n (h.srcMode != 0) + 256 * b2n h.seqSup + 512 + h.srcMode * 2 ^ 10 + 2 * 2 ^ 12
  leBytes 2 fc ++ (if h.seqSup then [] else leBytes 1 h.seq) ++ addrBytes h.srcMode h.src ++ aux

end Sys2Proof.Machine
end

