-- ==== Sys2Proof/Machine/Split.lean ====
section
/-!
DEFINITION. The step down of an active twin (R425, R426), which the twin's messages and the sectors' evidence share.
-/
namespace Sys2Proof.Machine

/-- TWIN_SPLIT: both chips raise it (R425, R426). -/
def raiseSplit (peer result : Nat) (s : State) : State :=
  raise 0x0808 (zeros 4 ++ leBytes 4 s.chord.twin.gen.toNat ++ leBytes 4 peer ++ leBytes 1 result) s

/-- Transition 9 or 10 with trigger 0x07, from every mode that serves the mesh (R425). -/
def stepDown (s : State) : State :=
  if servingMode (datapath s) ∧ outranks s 0x07 then
    if datapath s = .activeC then startTransition 10 .standbyC 0x07 none none s else startTransition 9 .standbyN 0x07 none none s
  else s

/-- The evidence of R426: a delivered PPDU from HEAD_EUI64 that this chip did not send, by channel and end within 10 µs. -/
def splitEvidence (h : Mhr) (k centre : Nat) (endAt : Int) (s : State) : State :=
  let own := (sectorOf s k).sentLog ++ ((List.range 8).map (fun j => (sectorOf s j).sentLog)).flatten
  let mine := own.any (fun p => p.1 == centre && decide ((p.2 - endAt).natAbs ≤ 10 * 65536000))
  if isolated s ∧ activeTwin s ∧ h.srcMode = 3 ∧ h.src = cfgNat s 0x0822 3 0 ∧ mine = false then
    stepDown (modTwin (fun t => { t with isolatedUntil := none }) (raiseSplit s.chord.twin.genHigh.toNat 1 s))
  else s

end Sys2Proof.Machine
end

