-- ==== Sys2Proof/Machine/Receiver.lean ====
section
/-!
DEFINITION. The whole-band receiver: detection and lanes (R112 to R120), aerial selection (R121), the header
point and the end of a PPDU (R120 to R138), receive windows in QUIESCENT (R198, R521), and captures (R141, R142).
-/
namespace Sys2Proof.Machine

/-! ### Channels and detectors -/

/-- The centre of a channel in kHz (Table 5.1). -/
def chanCentre (s : State) (k layer ch : Nat) : Nat := appliedNat s (0x0930 + k) 4 layer + ch * layerSpacing s k layer

/-- A detector entry (R114). -/
def detEntry (s : State) (k d : Nat) : Nat := cfgNat s (0x0940 + k) 1 d

/-- PHY of a profile: 0 MR-FSK, 1 MR-OFDM, 2 GX-OFDM (Table 5.4). -/
def profPhy (p : Nat) : Nat := p / 16

/-- OPTION of a profile as the descriptor gives it (Table 5.7). -/
def profOption (p : Nat) : Nat := if p < 16 then p else p % 16 + 1

/-- The spans of two channels overlap. -/
def spansOverlap (c1 w1 c2 w2 : Nat) : Bool := decide (2 * c1 < 2 * c2 + w1 + w2) && decide (2 * c2 < 2 * c1 + w1 + w2)

/-- PREEMPT_MARGIN of a sector. -/
def preemptMargin (s : State) (k : Nat) : Int := cfgGet s (0x0930 + k) 10 0
/-- LANE_MIN of a sector. -/
def laneMin (s : State) (k : Nat) : Nat := cfgNat s (0x0930 + k) 9 0
/-- FE_RX_GAIN of a sector. -/
def feRxGain (s : State) (k : Nat) : Int := cfgGet s (0x0910 + k) 9 0

/-- The lanes of a sector whose channel overlaps another (R116). -/
def overlapping (s : State) (k centre spacing : Nat) : List (Nat × Lane) :=
  (sectorLanes s k).filter (fun p => spansOverlap centre spacing (chanCentre s k p.2.layer p.2.channel) (layerSpacing s k p.2.layer))

/-- The metric of a frame beats that of a held one that has not passed its header point (R116, R118, R169). -/
def beats (s : State) (k : Nat) (metric : Int) (p : Nat × Lane) : Bool :=
  p.2.header.isNone && decide (p.2.metric + preemptMargin s k ≤ metric)

/-- The lowest metric of some lanes, the lowest-numbered lane on a tie. -/
def weakest (l : List (Nat × Lane)) : Option (Nat × Lane) :=
  l.foldl (fun a p => match a with | some q => if p.2.metric < q.2.metric then some p else a | none => some p) none

/-- A free lane, where sector `k` may claim one (R117). -/
def freeLane (s : State) (k : Nat) : Option Nat :=
  let free := (List.range 128).filter (fun n => (laneAt s n).isNone && !s.integ.lanesOut.contains n)
  let owed := (List.range 8).foldl (fun a t => if t = k then a else a + (laneMin s t - (sectorLanes s t).length)) 0
  if (sectorLanes s k).length < laneMin s k ∨ owed < free.length then free.head? else none

/-- The lanes that a detection on sector `k` may pre-empt (R118). -/
def preemptable (s : State) (k : Nat) : List (Nat × Lane) :=
  (heldLanes s).filter (fun p => p.2.header.isNone && (p.2.sector == k || decide (laneMin s p.2.sector < (sectorLanes s p.2.sector).length)))

/-- A lane loses its frame to a stronger detection. -/
def preemptLane (n : Nat) (old new : Lane) (s : State) : State := setLaneAt n (some new) (ctrInc .rx old.sector 3 s)

/-- A detection record reaches the allocator (R116 to R118). -/
def allocate (k : Nat) (x : Lane) (s : State) : State :=
  let past := overlapping s k (chanCentre s k x.layer x.channel) (layerSpacing s k x.layer)
  if !past.isEmpty && !past.all (beats s k x.metric) then ctrInc .rx k 1 s
  else
    let s := ctrInc .rx k 0 s
    match weakest past with
    | some (n, old) => preemptLane n old x s
    | none =>
      match freeLane s k with
      | some n => setLaneAt n (some x) s
      | none =>
        match weakest (preemptable s k) with
        | some (n, old) => if old.metric + preemptMargin s k ≤ x.metric then preemptLane n old x s else ctrInc .rx k 2 s
        | none => ctrInc .rx k 2 s

/-- PREAMBLE_DETECTION: a detector sees a preamble, with the metric in 0.25 dB and the power at the ball in
0.25 dBm on each aerial. The metric of the frame is that of the better aerial (R115, log 39). -/
def detection (k d : Nat) (ma mb pa pb : Int) (s : State) : State :=
  let e := detEntry s k d
  let layer := bits e 1 2
  let channel := bits e 3 10
  let fires := fun m p => decide ((bits e 21 7 : Int) < m) && decide (-4 * (bits e 28 8 : Int) ≤ p - feRxGain s k)
  if !bit e 0 || !rxRuns s k || blanked s k || (sectorOf s k).pendRx.isSome || layerSpacing s k layer == 0 || !(fires ma pa || fires mb pb) then s
  else
    let aerialB := match cfgGet s (0x0930 + k) 7 0 with | 1 => some false | 2 => some true | _ => none
    allocate k { sector := k, detector := d, layer, channel, profile := bits e 13 8, metric := max ma mb, metricA := ma, metricB := mb,
                 at_ := s.now, aerialB, skipped := false, header := none } s

/-- PREAMBLE_DETECTION -/
def execPreambleDetection (dt sector det : Nat) (metricA metricB preA preB : Int) : State → Host.Outcome State Fault Refusal :=
  radioEvent dt (fun s => if sector < 8 ∧ det < 512 then detection sector det metricA metricB preA preB s else s)

/-! ### Aerial selection and the header -/

/-- The length of the comparison window of an OFDM profile: the LTF. -/
def ltfTicks : Nat := 240 * usTicks

/-- AERIAL_SELECTION: at the end of the comparison window, or at the SFD when that begins first (R121). -/
def aerialSelection (n : Nat) (snrA snrB : Int) (sfd : Bool) (s : State) : State :=
  match laneAt s n with
  | some x =>
    if x.aerialB.isSome || x.header.isSome then s
    else
      let t0 := if profPhy x.profile = 0 then x.at_ else s.now - ltfTicks
      let fa := flagged s x.sector x.layer false t0 s.now
      let fb := flagged s x.sector x.layer true t0 s.now
      let b := if sfd then decide (x.metricA < x.metricB) else if fa != fb then fa else decide (snrA < snrB)
      setLaneAt n (some { x with aerialB := some b, skipped := sfd }) s
  | none => s

/-- AERIAL_SELECTION -/
def execAerialSelection (dt lane : Nat) (snrA snrB : Int) (sfdBegun : Bool) : State → Host.Outcome State Fault Refusal :=
  radioEvent dt (aerialSelection lane snrA snrB sfdBegun)

/-- A lane releases its frame, which counter `c` of Table 5.8 counts. -/
def releaseLane (n c : Nat) (s : State) : State :=
  match laneAt s n with
  | some x => ctrInc .rx x.sector c (setLaneAt n none s)
  | none => s

/-- SFD_TIMEOUT: no SFD within 1,000 preamble octets (R120, Table 5.5). -/
def sfdTimeout (n : Nat) (s : State) : State :=
  match laneAt s n with
  | some x => if x.header.isNone ∧ profPhy x.profile = 0 then releaseLane n 5 s else s
  | none => s

/-- SFD_TIMEOUT -/
def execSfdTimeout (dt lane : Nat) : State → Host.Outcome State Fault Refusal := radioEvent dt (sfdTimeout lane)

/-- MCS of an MR-OFDM option (Table 5.10). -/
def ofdmMcsOk (opt mcs : Nat) : Bool :=
  match opt with
  | 1 => decide (mcs ≤ 3)
  | 2 => decide (mcs ≤ 5)
  | 3 => decide (1 ≤ mcs) && decide (mcs ≤ 6)
  | _ => decide (2 ≤ mcs) && decide (mcs ≤ 6)

/-- A PHY header as the lane decodes it: the 40 bits of a GX-OFDM header, or the fields of an MR-FSK or
MR-OFDM one (mode-switch bit, a reserved bit set, FCS type, whitening, HCS). -/
structure PhyHeader where
  word : Nat
  length : Nat
  mcs : Nat
  ms : Bool
  reserved : Bool
  fcs32 : Bool
  dw : Bool
  hcsOk : Bool
  deriving DecidableEq, Repr

/-- The header checks of Table 5.5: the counter of the failure, or none. -/
def headerFault (s : State) (x : Lane) (h : PhyHeader) : Option Nat :=
  let top := cfgNat s (0x0930 + x.sector) 11 0
  match profPhy x.profile with
  | 0 =>
    if h.ms then some 6
    else if h.reserved ∨ h.length < fcsLen h.fcs32 ∨ top < h.length then some 4 else none
  | 1 => if !h.hcsOk || h.reserved || h.length == 0 || decide (top < h.length) || !ofdmMcsOk (profOption x.profile) h.mcs then some 4 else none
  | _ => if gxHeaderOk (profOption x.profile) h.word ∧ bits h.word 3 11 ≤ top then none else some 4

/-- What the lane keeps of a good header. -/
def laneHeader (s : State) (x : Lane) (h : PhyHeader) : LaneHeader :=
  if profPhy x.profile = 2 then
    let mcs := bits h.word 0 3
    let len := bits h.word 3 11
    { length := len, mcs, fcs32 := bit h.word 16, dw := false, seed := bits h.word 14 2, fbReq := bit h.word 17, at_ := s.now,
      words := (gxFit (profOption x.profile) mcs len).nCw }
  else { length := h.length, mcs := h.mcs, fcs32 := h.fcs32, dw := h.dw, seed := 0, fbReq := false, at_ := s.now, words := 0 }

/-- Start of the comparison window of a lane whose header point is now: for OFDM the LTF comes before the header. -/
def windowStart (s : State) (x : Lane) : Nat :=
  match profPhy x.profile with
  | 0 => x.at_
  | 1 => s.now - ltfTicks - 120 * (ofdmHead (profOption x.profile) - 6) * usTicks
  | _ => s.now - ltfTicks - 120 * gxHdrSymbols (profOption x.profile) * usTicks

/-- HEADER_POINT: the checks keep the lane or release it (R118, R120). -/
def headerPoint (n : Nat) (h : PhyHeader) (s : State) : State :=
  match laneAt s n with
  | some x =>
    if x.header.isSome then s
    else match headerFault s x h with
      | some c => releaseLane n c s
      | none =>
        let aerialB := some (x.aerialB.getD (decide (x.metricA < x.metricB)))
        setLaneAt n (some { x with at_ := windowStart s x, aerialB, header := some (laneHeader s x h) }) s
  | none => s

/-- HEADER_POINT -/
def execHeaderPoint (dt lane word length mcs : Nat) (ms reserved fcs32 dw hcsOk : Bool) : State → Host.Outcome State Fault Refusal :=
  radioEvent dt (headerPoint lane { word, length, mcs, ms, reserved, fcs32, dw, hcsOk })

/-- LDPC_CODEWORD_DECODED: a codeword of a lane's frame leaves its decoder, fails after DEC_ITER_MAX
iterations, or finds no credit on X03, which only a faulted pool lacks (R125). -/
def codewordDecoded (n : Nat) (ok credit : Bool) (s : State) : State :=
  match laneAt s n with
  | some x =>
    match x.header with
    | some h =>
      if h.words = 0 then s
      else if !credit then ctrInc .rx 0 9 (setLaneAt n none s)
      else if ok then setLaneAt n (some { x with header := some { h with words := h.words - 1 } }) s
      else releaseLane n 8 s
    | none => s
  | none => s

/-- LDPC_CODEWORD_DECODED -/
def execLdpcCodewordDecoded (dt lane : Nat) (ok credit : Bool) : State → Host.Outcome State Fault Refusal :=
  radioEvent dt (codewordDecoded lane ok credit)

/-! ### Captures -/

/-- Bytes of the capture area (R141). -/
def captureBytes : Nat := 4194304

/-- A captured frame: its descriptor and its PSDU padded to 8 bytes. -/
def RxFrame.captured (f : RxFrame) : List Byte :=
  leBytes 64 (packFields [(0, f.psdu.length % 2048), (16, f.phy), (18, f.option), (22, f.mcs), (25, b2n f.fcs32), (26, b2n f.dw), (27, b2n f.qsuspect),
      (28, b2n f.settleBody), (29, b2n f.aerialB), (30, b2n f.skipped), (31, b2n f.holdover), (32, f.node.getD 0), (50, b2n f.node.isSome), (51, f.sector),
      (54, f.layer), (64, f.channel), (96, f.centre), (128, ofSigned 16 f.rssi), (144, ofSigned 16 f.rssiAlt), (160, ofSigned 16 f.noise), (176, f.evm),
      (184, ofSigned 8 f.snr), (192, f.lqi), (200, f.detector), (209, f.lane), (224, f.start / 1000000000 % 2 ^ 48), (272, f.start % 1000000000),
      (304, f.duration % 2 ^ 32), (336, f.fcs)])
    ++ padMul 8 f.psdu

/-- Bytes of some items. -/
def itemBytes (l : List (List Byte)) : Nat := l.foldl (fun a b => a + b.length) 0

/-- A frame capture holds all it was asked for, or the area is full. -/
def frameCaptureFull (c : Capture) : Bool := decide (fld c.req 2 2 ≤ c.items.length) || decide (captureBytes < itemBytes c.items + 2112)

/-- A committed descriptor enters an armed frame capture of its sector (R486). -/
def captureFrame (f : RxFrame) (s : State) : State :=
  match s.radio.capture with
  | some c =>
    let want := fld c.req 4 4
    if c.frames && c.phase == 0 && byteAt c.req 0 == f.sector && (want == 0xFFFFFFFF || f.node == some want) && !frameCaptureFull c then
      modRadio (fun r => { r with capture := some { c with items := c.items ++ [f.captured] } }) s
    else s
  | none => s

/-- A capture is complete and unread; its job ends. -/
def endCapture (c : Capture) (s : State) : State :=
  let s := modRadio (fun r => { r with capture := some { c with phase := 2, at_ := s.now } }) s
  match s.jobs.running.find? (fun j => j.handle == c.job) with
  | some j => finishJob j .ok 0 (leBytes 4 c.items.length) s
  | none => s

/-- FRAME_CAPTURE_COMPLETE (R486) -/
def frameCaptureComplete (s : State) : State :=
  match s.radio.capture with
  | some c => if c.frames && c.phase == 0 && frameCaptureFull c then endCapture c s else s
  | none => s

/-- FRAME_CAPTURE_COMPLETE -/
def execFrameCaptureComplete (dt : Nat) : State → Host.Outcome State Fault Refusal := radioEvent dt frameCaptureComplete

/-- IQ_CAPTURE_TRIGGER: an armed capture's trigger occurs; a time trigger not before its time (R141). -/
def iqTrigger (s : State) : State :=
  match s.radio.capture with
  | some c =>
    let t := fld c.req 20 6 * 1000000000 + fld c.req 16 4
    if c.frames || c.phase != 0 || (byteAt c.req 6 == 2 && decide (nowNs s < t)) then s
    else modRadio (fun r => { r with capture := some { c with phase := 1 } }) s
  | none => s

/-- IQ_CAPTURE_TRIGGER -/
def execIqCaptureTrigger (dt : Nat) : State → Host.Outcome State Fault Refusal := radioEvent dt iqTrigger

/-- A mantissa: |x| ÷ 2^(e/2), halves away from zero (R142). -/
def iqMantissa (e : Nat) (x : Int) : Int :=
  let m := ((List.range 127).filter (fun k => decide ((2 * k + 1) ^ 2 * 2 ^ e ≤ 4 * x.natAbs ^ 2))).length
  if x < 0 then -(m : Int) else m

/-- The exponent of a block: the smallest for which every mantissa fits (R142). -/
def iqExponent (l : List (Int × Int)) : Nat :=
  let top := l.foldl (fun a p => max a (max p.1.natAbs p.2.natAbs)) 0
  ((List.range 18).find? (fun e => decide (4 * top ^ 2 < 255 ^ 2 * 2 ^ e))).getD 17

/-- A block of 34 bytes (Table 5.11). -/
def iqBlock (settle aerialB : Bool) (l : List (Int × Int)) : List Byte :=
  let e := iqExponent l
  leBytes 2 (e + 32 * b2n settle + 64 * b2n aerialB)
    ++ padTo 32 ((l.map (fun p => leBytes 1 (ofSigned 8 (iqMantissa e p.1)) ++ leBytes 1 (ofSigned 8 (iqMantissa e p.2)))).flatten)

/-- IQ_CAPTURE_COMPLETE: the area holds its blocks, made of the source samples given with their settle flags (R141, R142). -/
def iqComplete (blocks : List (Bool × List (Int × Int))) (s : State) : State :=
  match s.radio.capture with
  | some c =>
    if c.frames || c.phase != 1 then s
    else
      let l := blocks.take (fld c.req 8 4)
      let aerial := byteAt c.req 3
      let items := ((List.range l.length).zip l).map (fun p => iqBlock p.2.1 (if aerial = 2 then p.1 % 2 == 1 else aerial == 1) p.2.2)
      endCapture { c with items } s
  | none => s

/-- IQ_CAPTURE_COMPLETE -/
def execIqCaptureComplete (dt : Nat) (blocks : List (Bool × List (Int × Int))) : State → Host.Outcome State Fault Refusal :=
  radioEvent dt (iqComplete blocks)

/-- CAPTURE_AREA_RETURN: 60 s after the last read the cells return to the packet buffer (R484). -/
def captureReturn (s : State) : State :=
  match s.radio.capture with
  | some c => if c.phase = 3 ∧ 60 * secTicks ≤ since s c.at_ then modRadio (fun r => { r with capture := none }) s else s
  | none => s

/-- CAPTURE_AREA_RETURN -/
def execCaptureAreaReturn (dt : Nat) : State → Host.Outcome State Fault Refusal := radioEvent dt captureReturn

/-! ### The end of a PPDU -/

/-- DURATION of a received PPDU in ns (R135). -/
def rxDuration (phy opt mcs len : Nat) : Nat :=
  match phy with
  | 0 => fskTime opt (fskBody opt mcs len)
  | _ => ppduTime phy opt mcs 0 len - 720000

/-- What the lane measures of a frame: RSSI and RSSI_ALT at the ball (the other aerial where it was measured),
NOISE, in 0.25 dBm, and EVM in 0.25 dB. -/
structure RxFigures where
  rssi : Int
  alt : Option Int
  noise : Int
  evm : Nat
  deriving DecidableEq, Repr

/-- The SNR code of R133. -/
def snrCode (rssi noise : Int) : Int := max (-128) (min 127 (rssi - noise))

/-- LQI: floor(4 × (SNR + 10)), the SNR in dB (R133). -/
def lqiOf (snr : Int) : Nat := min 255 (snr + 40).toNat

/-- The node that a frame belongs to (R137): its source, or the addressee of the PPDU whose acknowledgement window it meets. -/
def resolveFrame (s : State) (h : Mhr) (k : Nat) (start : Int) : Option Nat :=
  if h.srcMode = 0 ∧ h.ftype = 2 then
    (s.mesh.sent.find? (fun w => w.sector == k && decide (w.openAt ≤ start) && decide (start ≤ w.closeAt))).map (·.node)
  else sourceNode s h

/-- The descriptor of a lane's frame that ended `ago` ticks ago (Table 5.7). -/
def descriptorOf (s : State) (n : Nat) (x : Lane) (h : LaneHeader) (psdu : List Byte) (g : RxFigures) (ago : Nat) : RxFrame :=
  let phy := profPhy x.profile
  let opt := profOption x.profile
  let k := x.sector
  let duration := rxDuration phy opt h.mcs h.length
  let start := merTimeAgo s.time.mer ago - (cfgGet s (0x0930 + k) 8 0 + duration) * 65536
  let b := x.aerialB.getD false
  let rssi := g.rssi - feRxGain s k
  let noise := g.noise - feRxGain s k
  let one := cfgGet s (0x0930 + k) 7 0 != 0
  let snr := snrCode rssi noise
  { psdu, phy, option := opt, mcs := h.mcs, fcs32 := h.fcs32, dw := h.dw, qsuspect := flagged s k x.layer b x.at_ h.at_,
    settleBody := flagged s k x.layer b h.at_ s.now, aerialB := b, skipped := x.skipped, holdover := holdover s.time.mer,
    node := resolveFrame s (mhrOf (psduBody h.fcs32 psdu)) k start, sector := k, layer := x.layer, channel := x.channel,
    centre := chanCentre s k x.layer x.channel, rssi,
    rssiAlt := match g.alt with | some a => if one then -32768 else a - feRxGain s k | none => -32768,
    noise, evm := min 255 g.evm, snr, lqi := lqiOf snr, detector := x.detector, lane := n, start := (start / 65536).toNat, duration,
    fcs := psduFcs h.fcs32 psdu, fbReq := h.fbReq }

/-- Depth of X04 for each Facet (Table 1.4). -/
def x04Depth : Nat := 512

/-- The receive queue of a Facet. -/
def rxQueueOf (s : State) (facet : Nat) : List RxFrame := Sparse.get (fun _ => []) s.mesh.rxQueue facet

/-- Write the receive queue of a Facet. -/
def setRxQueue (facet : Nat) (l : List RxFrame) (s : State) : State :=
  modMesh (fun m => { m with rxQueue := Sparse.set (fun _ => []) m.rxQueue facet l }) s

/-- END of a received frame in ns. -/
def RxFrame.endNs (f : RxFrame) : Int := ((f.start + f.duration : Nat) : Int)

/-- This chip acts on a frame that ended at `endNs`: an active one, and on either side of the instant H of a
handover the one whose frame it is (R435). -/
def actsOn (endNs : Int) (s : State) : Bool :=
  match s.chord.twin.handover with
  | some h =>
    if h.done then (if h.outgoing then decide (toMesh s (endNs * 65536) < slotStart s h.slot) else decide (slotStart s h.slot ≤ toMesh s (endNs * 65536)))
    else meshServes s
  | none => meshServes s

/-- A descriptor is committed over X04 (R136, R137); a standby discards it after counting (Table 2.6). -/
def commitDescriptor (f : RxFrame) (s : State) : State :=
  let s := ctrInc .rx f.sector (if f.aerialB then 15 else 14) (ctrInc .rx f.sector 12 s)
  let s := if f.qsuspect then ctrInc .rx f.sector 13 s else s
  if !actsOn f.endNs s then s
  else
    let s := noteLoad (captureFrame f s)
    match f.node with
    | some n =>
      let facet := facetOf s n
      if (rxQueueOf s facet).length < x04Depth then setRxQueue facet (rxQueueOf s facet ++ [f]) s else ctrInc .lattice (4 * 1024 + facet) 0 s
    | none => modMesh (fun m => { m with joinQueue := m.joinQueue ++ [f] }) s

/-- PPDU_END: the last symbol of a frame ended `ago` ticks ago; the FCS decides (R126). -/
def ppduEnd (n : Nat) (psdu : List Byte) (g : RxFigures) (ago : Nat) (s : State) : State :=
  match laneAt s n with
  | some x =>
    match x.header with
    | some h =>
      let psdu := padTo h.length psdu
      if h.words ≠ 0 then s
      else if !psduOk h.fcs32 psdu then releaseLane n 7 s
      else
        let f := descriptorOf s n x h psdu g ago
        let s := commitDescriptor f (setLaneAt n none s)
        splitEvidence (mhrOf (psduBody h.fcs32 psdu)) x.sector f.centre (((f.start + f.duration : Nat) : Int) * 65536) s
    | none => s
  | none => s

/-- PPDU_END -/
def execPpduEnd (dt lane : Nat) (psdu : List Byte) (rssi : Int) (alt : Option Int) (noise : Int) (evm ago : Nat) : State → Host.Outcome State Fault Refusal :=
  radioEvent dt (ppduEnd lane psdu { rssi, alt, noise, evm } ago)

/-- Two received frames are copies of one PPDU (R136). -/
def sameCopy (s : State) (f g : RxFrame) : Bool :=
  f.fcs == g.fcs && f.centre == g.centre && decide ((f.endNs - g.endNs).natAbs ≤ cfgNat s 0x0822 4 0 * 100)

/-- A UR RSSI code (R502). -/
def urRssi (r : Int) : Nat := if r = -32768 then 0 else min 255 ((r + 696) / 2).toNat

/-- JOIN_QUEUE_FRAME: a frame whose source did not resolve leaves a join queue with its copies; with the
compatibility interface one with an extended source address is reported as NODE_UNKNOWN (R137, R493, R502). -/
def joinFrame (s : State) : State :=
  match s.mesh.joinQueue with
  | f :: rest =>
    let mine := rest.filter (sameCopy s f)
    let s := modMesh (fun m => { m with joinQueue := rest.filter (fun g => !sameCopy s f g) }) s
    let f := mine.foldl (fun a g => if a.rssi < g.rssi ∨ (a.rssi = g.rssi ∧ g.sector < a.sector) then g else a) f
    let h := mhrOf (psduBody f.fcs32 f.psdu)
    if h.srcMode = 3 then
      urEvent 1 (if f.sector < 2 then f.sector else 7) 0xFFFF (urRssi f.rssi) f.lqi 0 (leBytes 8 h.src ++ leBytes 4 f.centre) s
    else s
  | [] => s

/-- JOIN_QUEUE_FRAME -/
def execJoinQueueFrame (dt : Nat) : State → Host.Outcome State Fault Refusal := radioEvent dt joinFrame

/-! ### Application of RX_s (R112) -/

/-- The rows of RX_s that wait for an application: WIN_CENTRE, WIN_WIDTH and the layers. -/
def rxHeldRows : List Nat := [1, 2, 3, 4, 5, 6]

/-- RX_CFG_APPLICATION: when no lane holds a frame of the sector, or APPLY_MAX after the first commit (R112, R128, R129). -/
def rxCfgApply (k : Nat) (s : State) : State :=
  match (sectorOf s k).pendRx with
  | some t =>
    let held := (sectorLanes s k).length
    if held ≠ 0 ∧ since s t < cfgNat s (0x0930 + k) 13 0 * msTicks then s
    else
      let g := 0x0930 + k
      let win := applied s g 1 0 != cfgGet s g 1 0 || applied s g 2 0 != cfgGet s g 2 0
      let layers := (List.range 4).map (fun l => applied s g 3 l != cfgGet s g 3 l || applied s g 6 l != cfgGet s g 6 l)
      let s := releaseLanes k 11 s
      let s := modSector k (fun x => { x with pendRx := none }) (applyRows g rxHeldRows s)
      let s := if win then flagSamples k 3 (12 * usTicks) (layerTaps s k) s else s
      let s := if layers.any id then
          let x : Settle := { aerials := 3, since := s.now, until_ := (List.range 4).map (fun l => if layers.getD l false then s.now + sampleTicks (layerSpacing s k l) (layerTaps s k l) else 0) }
          modSector k (fun y => { y with settles := y.settles ++ [x] }) s
        else s
      raise 0x0503 (leBytes 1 k ++ zeros 3 ++ leBytes 4 held ++ leBytes 6 (nowSec s) ++ zeros 2 ++ leBytes 4 (nowNanos s)) s
  | none => s

/-- RX_CFG_APPLICATION -/
def execRxCfgApplication (dt sector : Nat) : State → Host.Outcome State Fault Refusal := radioEvent dt (rxCfgApply sector)

/-! ### Receive windows in QUIESCENT (R198, R521) -/

/-- The next receive window of an RX link, in mesh time: its opening, its end, and whether the guard was cut. -/
def linkWindow (s : State) (l : Link) (t : Int) : Int × Int × Bool :=
  let d := (nodeOf s l.node).drift
  let tp := sfTemplate s l.frame
  let x := (xPred s d t).round 65536
  let (g, cut) := guardOf s d t tp
  let at_ := fun a => expectedAt s d tp a
  let a := linkSlot s l (slotAt s (t - x - g - tmplTime s tp 1))
  let a := if at_ a + g < t then a + sfLength s l.frame else a
  (at_ a - g - tmplTime s tp 3, at_ a + g, cut)

/-- The windows of a sector: RX links of nodes that it serves as BEST_SECTOR or ALT_SECTOR. -/
def sectorWindows (s : State) (k : Nat) : List (Int × Int × Bool) :=
  let t := meshTime s
  ((liveLinks s).filter (fun l => l.rx && !l.broadcast && sfEnabled s l.frame && decide (0 < sfLength s l.frame)
      && ((nodeOf s l.node).drift.best == k || (nodeOf s l.node).drift.alt == k))).map (fun l => linkWindow s l t)

/-- SECTOR_UNGATE: 200 µs before a window the sector runs again; its samples are flagged for the 150 µs that the
ADCs take and 12 µs more (R521). -/
def sectorUngate (k : Nat) (s : State) : State :=
  let near := (sectorWindows s k).filter (fun w => decide (w.1 ≤ meshTime s + 200 * usUnits))
  if datapath s ≠ .quiescent ∨ near.isEmpty then s
  else
    let e := near.foldl (fun a w => max a w.2.1) (((sectorOf s k).window).getD 0)
    let s := ctrAdd .mac 0 20 (near.filter (fun w => w.2.2)).length s
    flagSamples k 3 (162 * usTicks) (layerTaps s k) (modSector k (fun x => { x with window := some e }) s)

/-- SECTOR_UNGATE -/
def execSectorUngate (dt sector : Nat) : State → Host.Outcome State Fault Refusal := radioEvent dt (sectorUngate sector)

/-- RX_WINDOW_CLOSE: at E(a) + guard, or at the end of a held frame and its acknowledgement (R198). -/
def windowClose (k : Nat) (s : State) : State :=
  let x := sectorOf s k
  match x.window with
  | some e =>
    if meshTime s < e ∨ !(sectorLanes s k).isEmpty ∨ !x.jobs.isEmpty ∨ s.mesh.due.any (fun d => d.frame.sector == k) then s
    else setSector k { x with window := none } s
  | none => s

/-- RX_WINDOW_CLOSE -/
def execRxWindowClose (dt sector : Nat) : State → Host.Outcome State Fault Refusal := radioEvent dt (windowClose sector)

end Sys2Proof.Machine
end

