-- ==== Sys2Proof/Machine/Campaign.lean ====
section
/-!
DEFINITION. The campaigns of the storage manager (R257, R259): their members, progress and end.
-/
namespace Sys2Proof.Machine

/-- A campaign. -/
def campaignOf (s : State) (c : Nat) : Option Campaign := Sparse.get (fun _ => none) s.store.campaigns c

/-- Write a campaign. -/
def setCampaign (c : Nat) (x : Option Campaign) (s : State) : State :=
  modStore (fun t => { t with campaigns := Sparse.set (fun _ => none) t.campaigns c x }) s

/-- The members of a campaign. -/
def campaignMembers (s : State) (k : Campaign) : List Nat :=
  match k.members with
  | some l => l
  | none => (s.mesh.nodes.filter (fun p => p.2.state != 0)).map (·.1)

/-- A member's progress. -/
def progressOf (k : Campaign) (n : Nat) : MemberProgress := Sparse.get (fun _ => MemberProgress.reset) k.progress n

/-- A member is complete (R259). -/
def memberDone (k : Campaign) (n : Nat) : Bool := (progressOf k n).reported && decide ((progressOf k n).nextMissing = k.blockCount)

/-- The members complete, incomplete and never reporting. -/
def campaignTally (s : State) (k : Campaign) : Nat × Nat × Nat :=
  let l := campaignMembers s k
  let done := (l.filter (memberDone k)).length
  let never := (l.filter (fun n => !(progressOf k n).reported)).length
  (done, l.length - done - never, never)

/-- A campaign ends and the event carries the cause (R257). -/
def endCampaign (c cause : Nat) (s : State) : State :=
  match campaignOf s c with
  | some k =>
    let t := campaignTally s k
    raise 0x090B (leBytes 1 c ++ leBytes 1 cause ++ leBytes 2 k.imageId ++ leBytes 4 t.1 ++ leBytes 4 t.2.1 ++ leBytes 4 t.2.2) (setCampaign c none s)
  | none => s

/-- A campaign all of whose members have reported complete ends (R257). -/
def endIfComplete (c : Nat) (s : State) : State :=
  match campaignOf s c with
  | some k => let l := campaignMembers s k; if !l.isEmpty && l.all (memberDone k) then endCampaign c 1 s else s
  | none => s

end Sys2Proof.Machine
end

