-- ==== Sys2Proof/Machine/Uplink.lean ====
section
/-!
DEFINITION. What a Facet does with a received frame: slot and channel (R178, R179), security and counter
classes (R209, R214 to R217), the effects of acceptance (R222, R223, R247, R255, R259), the drift measurement
(R193), and acknowledgements (R165, R166, R185 to R189, R429).
-/
namespace Sys2Proof.Machine

/-! ### The slot of a frame (R178) -/

/-- START of a frame as mesh time in 2^-16 ns. -/
def startMesh (s : State) (f : RxFrame) : Int := toMesh s ((f.start : Int) * 65536)

/-- The RX link of a node in a slot: the lowest slotframe. -/
def rxLink (s : State) (n : Nat) (a : Nat) : Option Link := (slotLinks s a).find? (fun l => l.rx && !l.broadcast && l.node == n)

/-- The slot of a frame under a template. -/
def slotUnder (s : State) (d : Drift) (t : Int) (template : Nat) : Int :=
  divRound (t - asnOrigin s - tmplTime s template 1 - (xPred s d t).round 65536) (tsLen s)

/-- The templates of a node's RX links. -/
def rxTemplates (s : State) (n : Nat) : List Nat :=
  (((liveLinks s).filter (fun l => l.rx && !l.broadcast && l.node == n && sfEnabled s l.frame)).map (fun l => sfTemplate s l.frame)).eraseDups

/-- The slot that fits a frame best: that of a template whose RX link lies there, else by template 0. -/
def likelySlot (s : State) (n : Nat) (d : Drift) (t : Int) : Nat :=
  let hit := (rxTemplates s n).find? (fun tp =>
    match rxLink s n (slotUnder s d t tp).toNat with
    | some l => sfTemplate s l.frame == tp
    | none => false)
  (slotUnder s d t (hit.getD 0)).toNat

/-- The slots to try: one, or while the model is unlearned a, a - 1, a + 1 and on to ASN_SEARCH each way. -/
def slotCandidates (s : State) (d : Drift) (a : Nat) : List Nat :=
  if d.n = 0 then
    (((a : Int) :: ((List.range (cfgNat s 0x0821 8 0)).map (fun i => [(a : Int) - (i + 1 : Nat), (a : Int) + (i + 1 : Nat)])).flatten).filter (fun x => decide (0 ≤ x))).map Int.toNat
  else [a]

/-- The template of an exchange in a slot: of the RX link, or template 0 (R178, R179). -/
def cellTemplate (s : State) (l : Option Link) : Nat := match l with | some l => sfTemplate s l.frame | none => 0

/-! ### Ranking of copies (R188) -/

/-- A copy ranks before another. -/
def ranksBefore (f g : RxFrame) : Bool :=
  if f.qsuspect != g.qsuspect then !f.qsuspect
  else if f.evm ≠ g.evm then decide (g.evm < f.evm)
  else if f.rssi ≠ g.rssi then decide (g.rssi < f.rssi)
  else decide (f.sector ≤ g.sector)

/-- The copies in rank order. -/
def rankCopies (l : List RxFrame) : List RxFrame := l.mergeSort ranksBefore

/-- The copies of a frame that were delivered to the Facet and not yet taken, those that wait for a key among them, one
for each further sector. -/
def waitingCopies (s : State) (facet : Nat) (f : RxFrame) : List RxFrame :=
  (((s.mesh.waiters.filter (fun w => w.facet == facet)).map (·.frame)) ++ rxQueueOf s facet).foldl (fun a g => if sameCopy s f g && g.node == f.node && !((f :: a).any (fun x => x.sector == g.sector)) then a ++ [g] else a) []

/-- The first two ranked sectors become BEST_SECTOR and ALT_SECTOR. -/
def noteSectors (n : Nat) (ranked : List RxFrame) (s : State) : State :=
  match ranked with
  | f :: rest =>
    let r := nodeOf s n
    let alt := match rest with | g :: _ => g.sector | [] => f.sector
    if r.drift.best = f.sector ∧ r.drift.alt = alt then s
    else saveNode n { r with drift := { r.drift with best := f.sector, alt } } s
  | [] => s

/-! ### The feedback element (R165, R166) -/

/-- MCS_ADVICE and TXP_ADVICE for a copy. -/
def lqAdvice (s : State) (f : RxFrame) : Nat × Int :=
  let m := cfgGet s 0x0823 1 0
  let h := cfgGet s 0x0823 2 0
  let e : Int := f.evm
  let cand := gxPermitted f.option
  let low := gxLowest f.option
  let adv := cand.foldl (fun a c => if gxReq c + m + (if f.mcs < c then h else 0) ≤ e then c else a) low
  let txp : Int :=
    if adv = 6 then -(min 15 (max 0 ((e - gxReq adv - m - h) / 4)))
    else if adv = low ∧ e < gxReq adv + m then min 15 (-((e - gxReq adv - m) / 4))
    else 0
  if f.qsuspect then (f.mcs, 0) else (adv, txp)

/-- The copy whose figures are reported: the highest EVM, a QSUSPECT copy only where every one is. -/
def feedbackCopy (l : List RxFrame) : Option RxFrame :=
  let clean := l.filter (fun f => !f.qsuspect)
  (if clean.isEmpty then l else clean).foldl (fun a f => match a with | some g => if g.evm < f.evm then some f else a | none => some f) none

/-- The content of the feedback element (Table 6.11). -/
def feedbackContent (s : State) (f : RxFrame) : List Byte :=
  let a := lqAdvice s f
  leBytes 9 (packFields [(0, vendorId), (24, 1), (32, f.evm), (40, ofSigned 8 f.snr), (48, ofSigned 8 (max (-128) (min 127 (f.rssi / 4)))), (56, a.1),
    (59, ofSigned 5 a.2), (64, b2n f.qsuspect), (65, b2n f.aerialB)])

/-- The element is included (R166). -/
def wantsFeedback (s : State) (f : RxFrame) : Bool := f.phy == 2 && (f.fbReq || cfgBit s 0x0823 3)

/-! ### Reservations (R181, R188) -/

/-- The requests that hold a reservation on a sector. -/
def sectorRequests (s : State) (k : Nat) : List PpduReq :=
  (sectorOf s k).jobs.map (·.req) ++ Sparse.get (fun _ => []) s.radio.x05 k ++ Sparse.get (fun _ => []) s.radio.x11 k

/-- The blanking interval of a PPDU on a sector, in Meridian 2^-16 ns. -/
def blankSpan (s : State) (k : Nat) (txStart txEnd : Int) : Int × Int := (txStart - leadTime s k, txEnd + tailTime s k)

/-- Two intervals overlap. -/
def spanMeets (a b : Int × Int) : Bool := decide (a.1 < b.2) && decide (b.1 < a.2)

/-- A channel of a sector is free over a span: fewer reservations overlap it than TX_CHANNELS. -/
def channelFree (s : State) (k : Nat) (span : Int × Int) : Bool :=
  decide (((sectorRequests s k).filter (fun q => spanMeets span (blankSpan s k q.txStart (reqEnd q)))).length < appliedNat s (0x0900 + k) 4 0)

/-- The end of a frame that a lane holds past its header point, Meridian 2^-16 ns. -/
def laneEnd (s : State) (x : Lane) (h : LaneHeader) : Int :=
  let phy := profPhy x.profile
  let opt := profOption x.profile
  let head := match phy with
    | 0 => fskTime opt (ceilDiv (if h.mcs = 0 then 16 else 32) (fskSymbol opt).2)
    | 1 => (ofdmHead opt - 6) * 120000
    | _ => gxHdrSymbols opt * 120000
  merTimeAgo s.time.mer (s.now - h.at_) + ((rxDuration phy opt h.mcs h.length : Int) - head) * 65536

/-- A transmission of a sector from an instant on aborts a frame past its header point (R188). -/
def abortsFrame (s : State) (k : Nat) (begin_ : Int) : Bool :=
  (heldLanes s).any (fun p => (blanks s k).contains p.2.sector && (match p.2.header with | some h => decide (begin_ < laneEnd s p.2 h) | none => false))

/-- A duration passes check 3 of R183 on a sector; a channel that nothing governs is left to the assembler. -/
def dwellAndDuty (s : State) (k centre spacing ns : Nat) : Bool × Bool :=
  match record s with
  | some r =>
    match governing r centre spacing with
    | some (i, b) => (b.dwell == 0 || decide (ns ≤ b.dwell * 1000000), dutyFits s r i k b ns)
    | none => (true, true)
  | none => (true, true)

/-! ### Acknowledgements -/

/-- The turnaround limit in ns (R185). -/
def turnaround (phy : Nat) : Int := if phy = 2 then 180000 else 640000

/-- The sector of an acknowledgement: in two passes (R188); the second result names the counter of Table 7.7 where
there is none, and the third that a reception is aborted. -/
def ackSector (s : State) (ranked : List RxFrame) (template : Nat) (dur : Nat) : Option RxFrame × Nat × Bool :=
  let span := fun (f : RxFrame) =>
    let t := f.endNs * 65536 + tmplTime s template 5 - txPathDelay s f.sector
    blankSpan s f.sector t (t + (dur : Int) * 65536)
  let free := ranked.filter (fun f => channelFree s f.sector (span f))
  match free.find? (fun f => !abortsFrame s f.sector (span f).1), free with
  | some f, _ => (some f, 0, false)
  | none, f :: _ => if tmpl s template 10 = 0 then (some f, 0, true) else (none, 5, false)
  | none, [] => (none, 4, false)

/-- TC of a measurement in 2^-16 ns: rounded to 1 µs, clamped (R187). -/
def tcOf (x : Int) : Int := max (-2048) (min 2047 (divRound (-x) usUnits))

/-- The frame of an acknowledgement, without its FCS (R187). -/
def ackFrame (s : State) (d : DueAck) (copies : List RxFrame) (counter : Nat) (tc : Int) : List Byte :=
  let f := d.frame
  let h := mhrOf (psduBody f.fcs32 f.psdu)
  let r := nodeOf s d.node
  let ies := headerIe 0x1E (leBytes 2 (ofSigned 12 tc + 32768 * b2n d.nack))
    ++ (if wantsFeedback s f then (match feedbackCopy copies with | some g => headerIe 0 (feedbackContent s g) | none => []) else [])
  let hdr := ackHeader h (!(ddqFrames (ddqOf s d.node)).isEmpty) (auxHeader d.level counter d.gen h.asnNonce) ++ ies
  match cachedKey s d.facet d.node d.gen with
  | some k => sealFrame k.key (frameNonce s r true d.level counter d.asn) hdr [] d.level
  | none => hdr

/-- The acknowledgement's PPDU request crosses X05 (R185, R186), with the pending correction noted (R194). -/
def ackCommit (d : DueAck) (ranked : List RxFrame) (f : RxFrame) (past : Bool) (tc : Int) (s : State) : State :=
  let (counter, s) := takeCounter d.node s
  let psdu := withFcs f.fcs32 (ackFrame s d ranked counter tc)
  let pre := tmpl s d.template 8
  let dur := ppduTime f.phy f.option f.mcs pre.toNat psdu.length
  let start := f.endNs * 65536 + tmplTime s d.template 5
  let q : PpduReq :=
    { id := s.mesh.nextReq, sector := f.sector, txStart := start - txPathDelay s f.sector, refEvent := start + (shrTime f.phy f.option pre.toNat : Int) * 65536,
      duration := dur, centre := f.centre, spacing := layerSpacing s f.sector f.layer, power := tmpl s d.template 9, cls := 0, phy := f.phy, option := f.option,
      mcs := f.mcs, fcs32 := f.fcs32, dw := f.dw, preamble := pre.toNat, psdu, node := some d.node, frame := none, ackReq := false, template := d.template,
      facet := d.facet, xUsed := 0 }
  let s := modMesh (fun m => { m with nextReq := m.nextReq + 1 }) s
  let s := modRadio (fun r => { r with x05 := Sparse.update (fun _ => []) r.x05 f.sector (· ++ [q]) }) s
  let s := ctrInc .mac 0 0 s
  let s := if past then ctrInc .mac 0 3 s else s
  let s := if d.nack then ctrInc .mac 0 1 s else s
  let r := nodeOf s d.node
  if r.drift.sync then saveNode d.node { r with drift := { r.drift with pendTc := tc, tcPending := true } } s else s

/-- The length of an acknowledgement's PSDU. -/
def ackLen (s : State) (d : DueAck) (copies : List RxFrame) : Nat := (ackFrame s d copies 0 0).length + fcsLen d.frame.fcs32

/-- A due acknowledgement is reserved and committed, or counted where it is not sent (R185 to R189, R218, R221). -/
def sendAck (d : DueAck) (s : State) : State :=
  let s := modMesh (fun m => { m with due := m.due.filter (fun x => x.id != d.id) }) s
  let ranked := rankCopies (d.copies ++ (waitingCopies s d.facet d.frame).filter (fun g => !d.copies.any (fun x => x.sector == g.sector)))
  let s := noteSectors d.node ranked s
  match counterRefusal s d.node with
  | 2 => ctrInc .sec 0 14 s
  | 1 => ctrInc .sec 0 13 s
  | _ =>
    let f := d.frame
    let dur := ppduTime f.phy f.option f.mcs (tmpl s d.template 8).toNat (ackLen s d ranked)
    if tmpl s d.template 7 * 1000 < dur then ctrInc .mac 0 2 s
    else
      match ackSector s ranked d.template dur with
      | (none, c, _) => ctrInc .mac 0 c s
      | (some f, _, past) =>
        let fit := dwellAndDuty s f.sector f.centre (layerSpacing s f.sector f.layer) dur
        if !(fit.1 && fit.2) then ctrInc .mac 0 2 s
        else if f.endNs + turnaround f.phy < nowNs s then ctrInc .mac 0 6 s
        else ackCommit d ranked f past (tcOf (startMesh s f - scheduledAt s d.template d.asn)) s

/-- ACK_TURNAROUND_EXPIRY: the limit of R185 passes before the commit (R189). -/
def ackLate (id : Nat) (s : State) : State :=
  match s.mesh.due.find? (fun d => d.id == id) with
  | some d =>
    if d.frame.endNs + turnaround d.frame.phy < nowNs s then ctrInc .mac 0 6 (modMesh (fun m => { m with due := m.due.filter (fun x => x.id != id) }) s)
    else s
  | none => s

/-- ACK_TURNAROUND_EXPIRY -/
def execAckTurnaroundExpiry (dt id : Nat) : State → Host.Outcome State Fault Refusal := radioEvent dt (ackLate id)

/-! ### Measurements (R193 to R195) -/

/-- An update runs with its counters; a model beyond its limits resets (R194, R195). -/
def measure (n : Nat) (d : Drift) (t : Int) (x : Frac) (used : Option Int) (s : State) : State :=
  let (d, e) := driftUpdate s d t x used
  let r := nodeOf s n
  match e with
  | 2 => saveNode n { r with drift := d } (ctrInc .mac 0 17 s)
  | 3 => saveNode n { r with drift := d } (ctrInc .mac 0 18 (ctrInc .mac 0 17 s))
  | _ =>
    let d := { d with misses := 0 }
    let s := ctrInc .mac 0 16 s
    if e = 1 ∧ driftBeyond s d then saveNode n { r with drift := d.cleared } (ctrInc .mac 0 18 s) else saveNode n { r with drift := d } s

/-- The measurement of an uplink frame, the pending correction settled first (R193). -/
def measureUplink (n : Nat) (t : Int) (x : Frac) (s : State) : State :=
  let d := (nodeOf s n).drift
  if d.tcPending then
    let p := xPred s d t
    let with_ := x.sub (p.add (Frac.of (d.pendTc * 1000)))
    if with_.abs.le (x.sub p).abs then measure n { d with x := satInt 40 (d.x + d.pendTc * 16000), tcPending := false } t x none s
    else measure n { d with tcPending := false } t x none (ctrInc .mac 0 19 s)
  else measure n d t x none s

/-! ### Counter classes (R214 to R216) -/

/-- The classes of Table 8.5: 0 NEW, 1 COPY, 2 RETRY, 3 REPLAY_DUP, 4 STALE. -/
def counterClass (rxFc bitmap c : Nat) (copy : Bool) : Nat :=
  if rxFc < c ∨ (bitmap = 0 ∧ rxFc ≤ c) then 0
  else if 64 ≤ rxFc - c ∨ !bit bitmap (rxFc - c) then 4
  else if copy then 1
  else if c = rxFc then 2
  else 3

/-- The pending generation. -/
def pendingGen (r : NodeRec) : Nat := (r.keyGen.toNat + 1) % 256

/-- The copy table of a Facet. -/
def copiesOf (s : State) (facet : Nat) : List CopyEntry := Sparse.get (fun _ => []) s.mesh.copies facet

/-- Write the copy table of a Facet. -/
def setCopies (facet : Nat) (l : List CopyEntry) (s : State) : State :=
  modMesh (fun m => { m with copies := Sparse.set (fun _ => []) m.copies facet l }) s

/-- COPY_HOLD in ticks. -/
def copyHold (s : State) : Nat := cfgNat s 0x0822 5 0 * msTicks

/-- The copy test of an entry (R215). -/
def copyMatch (s : State) (f : RxFrame) (n gen c : Nat) (e : CopyEntry) : Bool :=
  e.node == n && e.gen == gen && e.counter == c && e.fcs == f.fcs && e.centre == f.centre && decide (since s e.at_ < copyHold s)
    && decide ((toMesh s (f.endNs * 65536) - e.endAt).natAbs ≤ cfgNat s 0x0822 4 0 * 6553600) && !bit e.sectors f.sector

/-- A new entry; the oldest one goes when the table is full (R215). -/
def addCopy (facet : Nat) (e : CopyEntry) (s : State) : State :=
  let l := copiesOf s facet
  if l.length < 256 then setCopies facet (l ++ [e]) s else ctrInc .sec 0 10 (setCopies facet (l.drop 1 ++ [e]) s)

/-- COPY_HOLD_EXPIRY: entries age out (R215). -/
def copyExpiry (facet : Nat) (s : State) : State :=
  setCopies facet ((copiesOf s facet).filter (fun e => decide (since s e.at_ < copyHold s))) s

/-- COPY_HOLD_EXPIRY -/
def execCopyHoldExpiry (dt facet : Nat) : State → Host.Outcome State Fault Refusal := radioEvent dt (copyExpiry facet)

/-! ### Effects of acceptance -/

/-- The re-key commits with the first frame under the pending generation (R222). -/
def commitRekey (n : Nat) (s : State) : State :=
  let r := nodeOf s n
  let gen := pendingGen r
  let s := modMesh (fun m => { m with fcWarned := Sparse.set (fun _ => 0) m.fcWarned n 0 }) s
  let s := dropKeys (fun c => c.node == n && c.gen == r.keyGen.toNat) s
  let r := { r with keyGen := BitVec.ofNat 8 gen, rekey := false, rxFc := 0, rxBitmap := 0, txFc := 0, txLease := 2, state := if r.state = 3 then 1 else r.state }
  let s := recordLease n 2 (saveNode n r (setLeasePending n none s))
  raise 0x0404 (leBytes 4 n ++ leBytes 1 gen) s

/-- RX_FC and RX_BITMAP after a NEW frame (R216). -/
def acceptCounter (r : NodeRec) (c : Nat) : NodeRec :=
  let d := c - r.rxFc.toNat
  let bm := if r.rxBitmap = 0 ∨ 64 ≤ d then 1 else (r.rxBitmap <<< d) ||| 1
  { r with rxFc := BitVec.ofNat 32 c, rxBitmap := bm, rxFrames := r.rxFrames + 1 }

/-- LAST_RSSI and LAST_EVM of a copy (R223). -/
def lastRssi (f : RxFrame) : Int := max (-128) (min 127 (f.rssi / 4))
def lastEvm (f : RxFrame) : Nat := f.evm / 2

/-- The FRAME record of a copy (R247). -/
def frameRecord (n : Nat) (f : RxFrame) : JRec :=
  { type := 1, seconds := f.start / 1000000000, nanos := f.start % 1000000000,
    body := leBytes 20 (packFields [(0, n), (18, f.sector), (21, b2n f.aerialB), (22, f.phy), (24, f.option), (28, f.mcs), (31, b2n f.fcs32), (32, b2n f.dw),
      (33, b2n f.qsuspect), (34, b2n f.settleBody), (35, b2n f.holdover), (48, ofSigned 16 f.rssi), (64, f.evm), (72, ofSigned 8 f.snr), (80, f.centre),
      (112, f.duration % 2 ^ 32)]) ++ f.psdu }

/-- The link history takes the first NEW frame of each HIST_INTERVAL (R255). -/
def noteHistory (n : Nat) (f : RxFrame) (s : State) : State :=
  let t := f.start / 1000000 - s.store.array.histOrigin * 1000
  let iv := cfgNat s 0x0A00 9 0 * 1000
  let old := match (Sparse.get (fun _ => []) s.store.history n).getLast? with
    | some e => decide (bits e 0 41 / iv = t / iv)
    | none => false
  if !arrayUp s || old then s
  else historyWrite n (packFields [(0, t % 2 ^ 41), (41, ofSigned 8 (lastRssi f)), (49, lastEvm f), (56, f.sector), (59, b2n f.aerialB), (60, b2n f.qsuspect)]) s

/-- A member's progress (R259). -/
def noteProgress (n : Nat) (h : Mhr) (s : State) : State :=
  match vendorIe h 2 with
  | some c =>
    if c.length < 13 then s
    else
      let p : MemberProgress := { nextMissing := fld c 2 3, bitmap := BitVec.ofNat 64 (fld c 5 8), reported := true }
      let put := fun (k : Campaign) =>
        if k.imageId = fld c 0 2 ∧ (match k.members with | some l => l.contains n | none => true) = true then
          { k with progress := Sparse.set (fun _ => MemberProgress.reset) k.progress n p }
        else k
      (List.range 4).foldl (fun s c => endIfComplete c s) (modStore (fun t => { t with campaigns := t.campaigns.map (fun e => (e.1, e.2.map put)) }) s)
  | none => s

/-- The packet of a data frame goes to X06 of mesh port M(s); false where its store is full (R187). -/
def deliverUp (n : Nat) (f : RxFrame) (h : Mhr) (plain : List Byte) (s : State) : State × Bool :=
  let body := framePayload h plain
  if h.ftype = 1 ∧ !body.isEmpty then meshPacket f.sector n (Config.decompress n body) s else (s, true)

/-- The node's acknowledgement of a downlink PPDU: the frame leaves its queue, and its time correction is a
measurement (R186, R193, R239). -/
def nodeAcked (n : Nat) (f : RxFrame) (h : Mhr) (s : State) : State :=
  let start := (f.start : Int) * 65536
  match s.mesh.sent.find? (fun w => w.node == n && w.sector == f.sector && decide (w.openAt ≤ start) && decide (start ≤ w.closeAt)) with
  | some w =>
    let s := popFrame n w.frame (modMesh (fun m => { m with sent := m.sent.filter (fun x => x != w) }) s)
    match timeCorrection h with
    | some (tc, _) => if f.qsuspect then s else measure n (nodeOf s n).drift w.scheduled (Frac.mk' (w.xUsed + tc * 16000) 16) (some w.xUsed) s
    | none => s
  | none => s

/-- What the Facet knows of a frame whose MIC verified. -/
structure Accepted where
  facet : Nat
  node : Nat
  frame : RxFrame
  hdr : Mhr
  plain : List Byte
  gen : Nat
  asn : Nat
  link : Option Link
  deriving DecidableEq, Repr

/-- The acknowledgement of an accepted frame, where it is asked for and its cell's template serves its PHY (R185). -/
def dueAck (x : Accepted) (nack : Bool) (copies : List RxFrame) (confirm : Option Nat) (s : State) : State :=
  let template := cellTemplate s x.link
  if !x.hdr.ackReq then s
  else if tmpl s template 11 = 1 ∧ x.frame.phy ≠ 2 then ctrInc .mac 0 7 s
  else
    let d : DueAck := { id := s.mesh.nextReq, frame := x.frame, facet := x.facet, node := x.node, gen := x.gen, level := x.hdr.level, counter := x.hdr.counter,
                        tc := 0, nack, template, asn := x.asn, confirm, copies }
    let s := modMesh (fun m => { m with nextReq := m.nextReq + 1 }) s
    match confirm with
    | some seq =>
      modTwin (fun t => { t with waits := t.waits ++ [{ node := x.node, seq, sentAt := s.now, ack := d.id }] }) (modMesh (fun m => { m with due := m.due ++ [d] }) s)
    | none => sendAck d s

/-- The accepted state of a node goes to the twin with the FRAME record: the SRC_SEQ awaited, or none (R428, R429). -/
def replicateAccept (n : Nat) (jr : JRec) (s : State) : Option Nat × State :=
  let wait := replicates s && s.chord.twin.synced
  let seq := Sparse.get (fun _ => 0) s.chord.twin.txSeq (streamKey 0x10 (twinId s) (n / 256))
  (if wait then some seq else none, replicate 0x10 (n / 256) (replNodeBody s n ++ jr.bytes) s)

/-- A NEW frame is accepted (Table 8.5). -/
def acceptNew (x : Accepted) (s : State) : State :=
  let n := x.node
  let copies := x.frame :: waitingCopies s x.facet x.frame
  let ranked := rankCopies copies
  let best := ranked.headD x.frame
  let (s, taken) := deliverUp n x.frame x.hdr x.plain s
  if !taken then dueAck x true copies none s
  else
    let s := if x.gen = (nodeOf s n).keyGen.toNat then s else commitRekey n s
    let f := x.frame
    let r := { acceptCounter (nodeOf s n) x.hdr.counter with rssi := lastRssi best, evm := lastEvm best }
    let s := noteSectors n ranked (putNode n r s)
    let w : NodeWork := { level := x.hdr.level, phy := f.phy, option := f.option, mcs := f.mcs, fcs32 := f.fcs32, dw := f.dw }
    let s := modMesh (fun m => { m with work := Sparse.set (fun _ => NodeWork.reset) m.work n w }) s
    let s := warnFc n 0 x.hdr.counter s
    let s := addCopy x.facet { node := n, gen := x.gen, counter := x.hdr.counter, fcs := f.fcs, centre := f.centre, endAt := toMesh s (f.endNs * 65536), sectors := 2 ^ f.sector, at_ := s.now } s
    let s := if x.link.isNone then ctrInc .mac 0 9 s else s
    let off := match x.link with | some l => !(hopChannels s (sfHop s l.frame)).contains f.centre | none => false
    let s := if off then ctrInc .mac 0 8 s else s
    let jr := frameRecord n best
    let s := noteProgress n x.hdr (noteHistory n best (journalCommit jr s))
    let timed := match x.link with | some l => l.timekeeping | none => true
    let t := scheduledAt s (cellTemplate s x.link) x.asn
    let s := if x.hdr.ftype = 2 then nodeAcked n f x.hdr s
      else if timed && !best.qsuspect then measureUplink n t (Frac.mk' (startMesh s best - t) 65536) s
      else s
    let (confirm, s) := replicateAccept n jr s
    dueAck x false copies confirm s

/-- A copy joins the ranking of an acknowledgement that still waits, and its sector the entry (R215). -/
def acceptCopy (x : Accepted) (s : State) : State :=
  let f := x.frame
  let l := (copiesOf s x.facet).map (fun e => if copyMatch s f x.node x.gen x.hdr.counter e then { e with sectors := e.sectors + 2 ^ f.sector } else e)
  let s := ctrInc .sec 0 8 (setCopies x.facet l s)
  let join := fun (d : DueAck) =>
    if d.node = x.node ∧ d.gen = x.gen ∧ d.counter = x.hdr.counter ∧ !d.copies.any (fun g => g.sector == f.sector) then { d with copies := d.copies ++ [f] } else d
  modMesh (fun m => { m with due := m.due.map join }) s

/-- The effects of Table 8.5, the MIC verified. -/
def accept (x : Accepted) (cls : Nat) (s : State) : State :=
  match cls with
  | 0 => acceptNew x s
  | 1 => acceptCopy x s
  | 2 => dueAck x false [x.frame] none (ctrInc .sec 0 9 s)
  | _ => ctrInc .sec 0 7 s

/-! ### The steps of R214 -/

/-- The levels of R211. -/
def levelOk (r : NodeRec) (h : Mhr) : Bool :=
  h.security && [1, 2, 3, 5, 6, 7].contains h.level && decide (r.secMin ≤ h.level) && h.kim == 1 && !h.fcSup

/-- The first slot that authenticates a frame, with what it opens to (R178). -/
def findSlot (s : State) (r : NodeRec) (key l : List Byte) (h : Mhr) : List Nat → Option (Nat × List Byte)
  | [] => none
  | a :: rest =>
    let o := openFrame key (frameNonce s r false h.level h.counter a) l h
    if o.2 then some (a, o.1) else findSlot s r key l h rest

/-- Steps 5 to 7, with the key at hand. -/
def checkMic (facet n : Nat) (f : RxFrame) (h : Mhr) (k : CachedKey) (s : State) : State :=
  let r := nodeOf s n
  let s := touchKey facet k s
  let fresh := k.gen ≠ r.keyGen.toNat
  let copy := (copiesOf s facet).any (copyMatch s f n k.gen h.counter)
  let cls := if fresh then 0 else counterClass r.rxFc.toNat r.rxBitmap.toNat h.counter copy
  let a := likelySlot s n r.drift (startMesh s f)
  match findSlot s r k.key (psduBody f.fcs32 f.psdu) h (slotCandidates s r.drift a) with
  | some (asn, plain) => accept { facet, node := n, frame := f, hdr := h, plain, gen := k.gen, asn, link := rxLink s n asn } cls s
  | none => saveNode n { r with secFails := min 255 (r.secFails + 1) } (ctrInc .sec 0 5 s)

/-- A frame of a node, from step 1 on (R214). -/
def takeFrame (facet n : Nat) (f : RxFrame) (s : State) : State :=
  let r := nodeOf s n
  let h := mhrOf (psduBody f.fcs32 f.psdu)
  if r.state = 0 then s
  else if !recordOk? r then ctrInc .sec 0 1 (recordBad n s)
  else if r.state = 4 ∨ (restoring s n).isSome then ctrInc .sec 0 1 s
  else if r.state = 2 then ctrInc .sec 0 0 s
  else if !levelOk r h then ctrInc .sec 0 2 s
  else if h.keyIdx ≠ r.keyGen.toNat ∧ !(r.rekey && h.keyIdx == pendingGen r) then ctrInc .sec 0 3 s
  else if h.counter = 0xFFFFFFFF then ctrInc .sec 0 4 s
  else
    let fresh := h.keyIdx ≠ r.keyGen.toNat
    if !fresh ∧ counterClass r.rxFc.toNat r.rxBitmap.toNat h.counter false = 4 then ctrInc .sec 0 6 s
    else match cachedKey s facet n h.keyIdx with
      | some k => checkMic facet n f h k s
      | none =>
        if !masterUsable s h.keyIdx then ctrInc .sec 0 12 s
        else deriveKey facet n h.keyIdx (modMesh (fun m => { m with waiters := m.waiters ++ [{ frame := f, facet, since := s.now }] }) s)

/-- The frame that a Facet takes next: GX-OFDM frames first (R185). -/
def nextFrame (l : List RxFrame) : Option (RxFrame × List RxFrame) :=
  match l.find? (fun f => f.phy == 2), l with
  | some f, _ => some (f, l.erase f)
  | none, f :: r => some (f, r)
  | none, [] => none

/-- UPLINK_FRAME: a Facet takes a descriptor from X04; `upset` says that its read of the record suffers an error
that CHECK shows (R203). -/
def uplinkFrame (facet : Nat) (upset : Bool) (s : State) : State :=
  if !meshServes s || facetHalted s facet then s
  else match nextFrame (rxQueueOf s facet) with
    | some (f, rest) =>
      let s := setRxQueue facet rest s
      match f.node with
      | some n => if upset && (nodeOf s n).state != 0 then ctrInc .sec 0 1 (recordBad n s) else takeFrame facet n f s
      | none => s
    | none => s

/-- UPLINK_FRAME -/
def execUplinkFrame (dt facet : Nat) (upset : Bool) : State → Host.Outcome State Fault Refusal := radioEvent dt (uplinkFrame facet upset)

/-! ### Node keys (R209) -/

/-- The frames of a Facet that wait for a key. -/
def waitsFor (w : KeyWaiter) (facet node gen : Nat) : Bool :=
  w.facet == facet && w.frame.node == some node && (mhrOf (psduBody w.frame.fcs32 w.frame.psdu)).keyIdx == gen

/-- A derivation ends: the key fills the cache and the frames that wait go on, or the master slot's integrity
check fails and they are dropped. -/
def derived (facet node gen : Nat) (s : State) : State :=
  let (ok, s) := if (slotOf s (masterOf s gen)).state = .valid then checkTag (masterOf s gen) s else (false, s)
  let l := s.mesh.waiters.filter (fun w => waitsFor w facet node gen)
  let r := nodeOf s node
  if !ok then ctrAdd .sec 0 12 l.length (modMesh (fun m => { m with waiters := m.waiters.filter (fun w => !waitsFor w facet node gen) }) s)
  else
    let s := if r.state = 0 then s else touchKey facet { node, gen, key := nodeKeyOf s r.eui.toNat gen } s
    let wait := cfgNat s 0x0822 6 0 * usTicks
    l.foldl (fun s w =>
      let s := modMesh (fun m => { m with waiters := m.waiters.erase w }) s
      if since s w.since ≤ wait then takeFrame facet node w.frame s else ctrInc .sec 0 11 s) s

/-- KEY_DERIVATION_DONE: a derivation of context 0 ends on an engine (R209). -/
def derivationDone (e : Nat) (s : State) : State :=
  match engineOf s e with
  | some g =>
    match g.derive with
    | some (facet, node, gen) => engineTake e (derived facet node gen (setEngine e none s))
    | none => s
  | none => s

/-- KEY_DERIVATION_DONE -/
def execKeyDerivationDone (dt engine : Nat) : State → Host.Outcome State Fault Refusal := radioEvent dt (derivationDone engine)

/-- KEY_WAIT_EXPIRY: frames whose key is not in the cache after KEY_WAIT are dropped (R209). -/
def keyWaitExpiry (facet : Nat) (s : State) : State :=
  let late := fun (w : KeyWaiter) => w.facet == facet && decide (cfgNat s 0x0822 6 0 * usTicks ≤ since s w.since)
  let n := (s.mesh.waiters.filter late).length
  ctrAdd .sec 0 11 n (modMesh (fun m => { m with waiters := m.waiters.filter (fun w => !late w) }) s)

/-- KEY_WAIT_EXPIRY -/
def execKeyWaitExpiry (dt facet : Nat) : State → Host.Outcome State Fault Refusal := radioEvent dt (keyWaitExpiry facet)

end Sys2Proof.Machine
end

