-- ==== Sys2Proof/Machine/Downlink.lean ====
section
/-!
DEFINITION. The plan of a slot (R177, R180 to R184): broadcast links with beacons, waiting broadcast frames and
campaign blocks (R257, R258), then unicast frames; and the acknowledgement window of a sent frame (R186, R195).
-/
namespace Sys2Proof.Machine

/-! ### The schedule of a slot (R174, R175) -/

/-- The state as a slot's plan reads it: schedule and templates committed less than 2 ms before the slot begins
do not apply yet. -/
def slotView (s : State) (a : Nat) : State :=
  let old := s.mesh.schedules.foldl (fun (x : Option (Sparse Int)) p => if slotStart s a < p.1 + 2000 * usUnits then some p.2 else x) none
  match old with
  | some l =>
    let held := fun k => keyGroup k == 0x0820 || (decide (0x0810 ≤ keyGroup k) && decide (keyGroup k ≤ 0x0817))
    { s with cfg := { s.cfg with live := (Sparse.drop held s.cfg.live ++ l).mergeSort (fun x y => decide (x.1 ≤ y.1)) } }
  | none => s

/-! ### Checks of a planned PPDU (R181, R183, R184) -/

/-- A PPDU as it is planned: its parts before it gets a sector. -/
structure Draft where
  link : Link
  template : Nat
  phy : Nat
  option : Nat
  mcs : Nat
  fcs32 : Bool
  dw : Bool
  /-- Bytes of the PSDU. -/
  len : Nat
  /-- The reference event and the slot end, mesh 2^-16 ns. -/
  ref : Int
  slotEnd : Int
  ackReq : Bool
  deriving DecidableEq, Repr

/-- MR-FSK preamble octets of a template. -/
def draftPreamble (s : State) (d : Draft) : Nat := (tmpl s d.template 8).toNat

/-- The span from the start of a draft's PPDU to its reference event, in 2^-16 ns. -/
def draftShr (s : State) (d : Draft) : Int := (shrTime d.phy d.option (draftPreamble s d) : Int) * 65536

/-- The duration of a draft's PPDU in ns. -/
def draftTime (s : State) (d : Draft) : Nat := ppduTime d.phy d.option d.mcs (draftPreamble s d) d.len

/-- Checks 1 and 2 of R183: 0 passes, 1 never fits, 2 too long for the slot. -/
def draftFits (s : State) (d : Draft) : Nat :=
  let dur := (draftTime s d : Int) * 65536
  let tail := if d.ackReq then tmplTime s d.template 5 + tmplTime s d.template 7 else 0
  if tmplTime s d.template 4 < dur - draftShr s d then 1
  else if d.slotEnd < d.ref - draftShr s d + dur + tail then 2
  else 0

/-- The whole limit of a duty account admits a duration (R184). -/
def withinLimit (s : State) (centre spacing ns : Nat) : Bool :=
  match record s with
  | some r =>
    match governing r centre spacing with
    | some (_, b) => b.window == 0 || decide (airUnits ns ≤ dutyLimit b)
    | none => true
  | none => true

/-- Check 3 of R183 on a sector: 0 passes, 1 never fits, 3 no room now. -/
def dutyFit (s : State) (k : Nat) (ch : Nat × Nat) (ns : Nat) : Nat :=
  let fit := dwellAndDuty s k ch.1 ch.2 ns
  if !fit.1 || !withinLimit s ch.1 ch.2 ns then 1 else if fit.2 then 0 else 3

/-- TX_START of a draft on a sector, Meridian 2^-16 ns (R198). -/
def draftStart (s : State) (d : Draft) (k : Nat) : Int := ofMesh s (d.ref - draftShr s d) - txPathDelay s k

/-- The blanking interval of a draft on a sector. -/
def draftSpan (s : State) (d : Draft) (k : Nat) : Int × Int :=
  let t := draftStart s d k
  blankSpan s k t (t + (draftTime s d : Int) * 65536)

/-- A protected window of an RX link that ends after mesh time `t` (R181), and whether its guard was cut. -/
def protectedWindow (s : State) (l : Link) (t : Int) : Int × Int :=
  let d := (nodeOf s l.node).drift
  let tp := sfTemplate s l.frame
  let x := (xPred s d t).round 65536
  let g := (guardOf s d t tp).1
  let tail := g + tmplTime s tp 4
  let a := linkSlot s l (slotAt s (t - x - tail - tmplTime s tp 1))
  let a := if expectedAt s d tp a + tail < t then a + sfLength s l.frame else a
  (expectedAt s d tp a - g - tmplTime s tp 3, expectedAt s d tp a + tail)

/-- The RX links with PROTECT = 1. -/
def protectedLinks (s : State) : List Link :=
  (liveLinks s).filter (fun l => l.rx && l.protect && !l.broadcast && sfEnabled s l.frame && decide (0 < sfLength s l.frame))

/-- A blanking interval of a sector meets a protected window on it or on a sector that it blanks. -/
def meetsProtected (s : State) (k : Nat) (span : Int × Int) : Bool :=
  let m := (toMesh s span.1, toMesh s span.2)
  (protectedLinks s).any (fun l =>
    let d := (nodeOf s l.node).drift
    ((blanks s k).contains d.best || (blanks s k).contains d.alt) && spanMeets m (protectedWindow s l m.1))

/-- Cuts of the guards of protected links in a slot (R197). -/
def countCuts (a : Nat) (s : State) : State :=
  let cut := (slotLinks s a).filter (fun l => l.rx && l.protect && !l.broadcast
    && (guardOf s (nodeOf s l.node).drift (scheduledAt s (sfTemplate s l.frame) a) (sfTemplate s l.frame)).2)
  ctrAdd .mac 0 20 cut.length s

/-- A sector can take a draft: the channel in its band, a transmit channel free, no protected window met. -/
def sectorTakes (s : State) (d : Draft) (ch : Nat × Nat) (k : Nat) : Bool :=
  let e := bandEdges (sectorBand s k)
  decide (e.1 ≤ ch.1) && decide (ch.1 ≤ e.2) && channelFree s k (draftSpan s d k) && !meetsProtected s k (draftSpan s d k)

/-- A PPDU request crosses X11. -/
def commitDraft (d : Draft) (k : Nat) (ch : Nat × Nat) (cls : Nat) (node frame : Option Nat) (psdu : List Byte) (facet : Nat) (xUsed : Int) (s : State) : State :=
  let q : PpduReq :=
    { id := s.mesh.nextReq, sector := k, txStart := draftStart s d k, refEvent := ofMesh s d.ref, duration := draftTime s d, centre := ch.1, spacing := ch.2,
      power := d.link.power, cls, phy := d.phy, option := d.option, mcs := d.mcs, fcs32 := d.fcs32, dw := d.dw, preamble := draftPreamble s d, psdu, node,
      frame, ackReq := d.ackReq, template := d.template, facet, xUsed }
  let s := modMesh (fun m => { m with nextReq := m.nextReq + 1 }) s
  modRadio (fun r => { r with x11 := Sparse.update (fun _ => []) r.x11 k (· ++ [q]) }) s

/-! ### Campaigns (R257 to R259) -/

/-- A block that a member has reported missing (R259). -/
def blockMissing (p : MemberProgress) (b : Nat) : Bool :=
  p.reported && decide (p.nextMissing ≤ b) && (decide (p.nextMissing + 64 ≤ b) || bit p.bitmap.toNat (b - p.nextMissing))

/-- The blocks of a later pass. -/
def passPlan (s : State) (k : Campaign) : List Nat :=
  let l := (campaignMembers s k).map (progressOf k)
  (List.range k.blockCount).filter (fun b => l.any (fun p => blockMissing p b))

/-- The block that a campaign sends next, a pass that is done giving way to the next one. -/
def nextBlock (c : Nat) (s : State) : Option Nat × State :=
  match campaignOf s c with
  | none => (none, s)
  | some k =>
    let l := campaignMembers s k
    if !l.isEmpty && l.all (memberDone k) then (none, endCampaign c 1 s)
    else
      let todo := match k.plan with | some p => p.head? | none => if k.nextBlock < k.blockCount then some k.nextBlock else none
      match todo with
      | some b => (some b, s)
      | none =>
        if k.maxPasses ≤ k.pass then (none, endCampaign c 2 s)
        else
          let p := passPlan s k
          (p.head?, setCampaign c (some { k with pass := k.pass + 1, plan := some p }) s)

/-- A block was committed. -/
def blockSent (c : Nat) (s : State) : State :=
  match campaignOf s c with
  | some k =>
    match k.plan with
    | some p => setCampaign c (some { k with plan := some (p.drop 1) }) s
    | none => setCampaign c (some { k with nextBlock := k.nextBlock + 1 }) s
  | none => s

/-- The data of a block of an image. -/
def imageBlock (s : State) (slot b : Nat) : List Byte :=
  let x : ImageSlot := Sparse.get (fun _ => ImageSlot.reset) s.store.images slot
  (List.range (min x.blockLen (x.length - b * x.blockLen))).map (fun i => Sparse.get (fun _ => 0) x.bytes (b * x.blockLen + i))

/-- A payload IE as it is sent. -/
def payloadIe (group : Nat) (content : List Byte) : List Byte := leBytes 2 (content.length + group * 2048 + 32768) ++ content

/-- A block frame without its FCS (R258). -/
def blockFrame (s : State) (c b : Nat) (k : Campaign) : List Byte :=
  broadcastHeader s false (b % 256) true ++ headerIe 0x7E []
    ++ payloadIe 2 (leBytes 3 vendorId ++ leBytes 1 3 ++ leBytes 2 k.imageId ++ leBytes 3 b ++ leBytes 3 k.blockCount ++ leBytes 1 c ++ zeros 1 ++ imageBlock s k.slot b)

/-- The campaigns of a slotframe, the one whose turn it is first. -/
def campaignsIn (s : State) (h : Nat) : List Nat :=
  (((List.range 4).map (fun i => (s.store.campaignTurn + i) % 4)).filter (fun c => match campaignOf s c with | some k => k.slotframe == h | none => false))

/-! ### Broadcast links -/

/-- An enhanced beacon: the TSCH synchronization element with the slot's ASN (log 40). -/
def beaconFrame (s : State) (a : Nat) : List Byte :=
  broadcastHeader s true (s.mesh.bcastSeq.toNat) true ++ headerIe 0x7E [] ++ payloadIe 1 (leBytes 2 (6 + 0x1A * 256) ++ leBytes 5 a ++ zeros 1)

/-- A broadcast draft of a frame on the default profile, or on that of a campaign. -/
def broadcastDraft (s : State) (v : State) (l : Link) (a phy option mcs len : Nat) : Draft :=
  let tp := sfTemplate v l.frame
  { link := l, template := tp, phy, option, mcs, fcs32 := false, dw := false, len := len + 2, ref := scheduledAt v tp a, slotEnd := slotStart s (a + 1), ackReq := false }

/-- The fate of a broadcast draft: 0 sent on some sector, 1 never fits, 2 too long for the slot, 3 no airtime, 4 held. -/
def planBroadcast (v : State) (d : Draft) (a cls : Nat) (frame : Option Nat) (body : List Byte) (s : State) : Nat × State :=
  match linkChannel v d.link a with
  | none => (4, ctrInc .mac 0 11 s)
  | some ch =>
    let f := draftFits v d
    if f ≠ 0 then (f, if f = 2 then ctrInc .mac 0 13 s else s)
    else
      let psdu := withFcs false body
      (bitList 8 d.link.sectors).foldl (fun (x : Nat × State) k =>
        let s := x.2
        let fit := dutyFit s k ch (draftTime v d)
        if fit = 1 then (if x.1 = 0 then 0 else 1, s)
        else if fit = 3 then (if x.1 = 0 then 0 else 3, ctrInc .mac 0 14 s)
        else if sectorTakes { s with cfg := v.cfg } d ch k then (0, commitDraft d k ch cls none frame psdu 0 0 s)
        else (x.1, ctrInc .mac 0 11 s)) (4, s)

/-- A request of the broadcast frame that heads the queue is on its way. -/
def broadcastPlanned (s : State) : Bool :=
  (List.range 8).any (fun k => (sectorRequests s k).any (fun q => (q.cls == 1 || q.cls == 3) && q.frame == some s.mesh.bcastSeq.toNat))

/-- The campaigns of a slotframe take a cell in turn. -/
def planCampaign (v : State) (l : Link) (a : Nat) (s : State) : State :=
  match campaignsIn s l.frame with
  | c :: _ =>
    let s := modStore (fun t => { t with campaignTurn := (c + 1) % 4 }) s
    match nextBlock c s with
    | (some b, s) =>
      match campaignOf s c with
      | some k =>
        let body := blockFrame s c b k
        let (r, s) := planBroadcast v (broadcastDraft s v l a k.phy k.option k.mcs body.length) a 3 none body s
        if r = 0 then blockSent c s else if r = 1 then blockSent c (ctrInc .mac 0 15 s) else s
      | none => s
    | (none, s) => s
  | [] => s

/-- A broadcast link of a slot: a beacon, the frame that heads the broadcast queue, or a campaign's block. -/
def planBroadcastLink (v : State) (a : Nat) (l : Link) (s : State) : State :=
  if l.advertising then
    let body := beaconFrame s a
    (planBroadcast v (broadcastDraft s v l a 0 0 0 body.length) a 1 none body s).2
  else
    match s.mesh.broadcast with
    | (_, f) :: _ =>
      if broadcastPlanned s then s
      else
        let body := broadcastHeader s false s.mesh.bcastSeq.toNat false ++ f
        let (r, s) := planBroadcast v (broadcastDraft s v l a 0 0 0 body.length) a 3 (some s.mesh.bcastSeq.toNat) body s
        if r = 1 then modMesh (fun m => { m with broadcast := m.broadcast.drop 1, bcastSeq := m.bcastSeq + 1 }) (ctrInc .mac 0 15 s) else s
    | [] => planCampaign v l a s

/-! ### Unicast links -/

/-- The head of a node's queue is on its way, or its acknowledgement window is open. -/
def inFlight (s : State) (n seq : Nat) : Bool :=
  s.mesh.sent.any (fun w => w.node == n && w.frame == seq)
    || (List.range 8).any (fun k => (sectorRequests s k).any (fun q => q.cls == 2 && q.node == some n && q.frame == some seq))

/-- The level at which a node is sent to: that of its last accepted frame, never below SEC_MIN (R212). -/
def sendLevel (s : State) (n : Nat) : Nat :=
  let l := max (workOf s n).level (nodeOf s n).secMin
  if l = 4 then 5 else if l = 0 then 1 else l

/-- A key of a node at its generation enters the Facet's cache, where the master slot yields one. -/
def keyForSend (facet n : Nat) (s : State) : Option CachedKey × State :=
  let r := nodeOf s n
  let gen := r.keyGen.toNat
  match cachedKey s facet n gen with
  | some k => (some k, touchKey facet k s)
  | none =>
    if masterUsable s gen then
      let k : CachedKey := { node := n, gen, key := nodeKeyOf s r.eui.toNat gen }
      (some k, touchKey facet k s)
    else (none, s)

/-- The secured frame to a node without its FCS (R211, R212). -/
def unicastFrame (s : State) (n : Nat) (f : DdqFrame) (key : List Byte) (counter a : Nat) : List Byte :=
  let r := nodeOf s n
  let level := sendLevel s n
  sealFrame key (frameNonce s r true level counter a) (dataHeader s n (f.seq % 256) f.ackReq (auxHeader level counter r.keyGen.toNat r.gobaix)) f.body level

/-- The frame is taken: its counter, its PPDU on the sector, and the node's exchange of the slot. -/
def sendUnicast (d : Draft) (k : Nat) (ch : Nat × Nat) (n : Nat) (f : DdqFrame) (key : CachedKey) (xUsed : Int) (a : Nat) (s : State) : State :=
  let (counter, s) := takeCounter n s
  let psdu := withFcs d.fcs32 (unicastFrame s n f key.key counter a)
  let s := modMesh (fun m => { m with exchanged := Sparse.set (fun _ => 0) m.exchanged n (a + 1) }) s
  commitDraft d k ch 2 (some n) (some f.seq) psdu (facetOf s n) xUsed s

/-- A node's frame in a TX link of a slot (R177, R180, R182 to R184, R218). -/
def planUnicast (v : State) (a : Nat) (l : Link) (s : State) : State :=
  let n := l.node
  let s := dropExpired n s
  match (ddqOf s n).chip with
  | [] => s
  | f :: _ =>
    if nodeState s n ≠ 1 ∨ facetHalted s (facetOf s n) ∨ Sparse.get (fun _ => 0) s.mesh.exchanged n = a + 1 ∨ inFlight s n f.seq then s
    else
      let r := nodeOf s n
      let dr := resolvePending r.drift
      let s := if dr = r.drift then s else saveNode n { r with drift := dr } s
      let w := workOf s n
      let tp := sfTemplate v l.frame
      let x := xPred s dr (scheduledAt v tp a)
      let len := (unicastFrame s n f (zeros 16) 0 a).length + fcsLen w.fcs32
      let d : Draft := { link := l, template := tp, phy := w.phy, option := w.option, mcs := w.mcs, fcs32 := w.fcs32, dw := w.dw, len,
                         ref := scheduledAt v tp a + x.round 65536, slotEnd := slotStart s (a + 1) + x.round 65536, ackReq := f.ackReq }
      match draftFits v d, linkChannel v l a with
      | 1, _ => ctrInc .mac 0 15 (popHead n s)
      | 2, _ => ctrInc .mac 0 13 s
      | _, none => ctrInc .mac 0 10 (ctrInc .mac 0 11 s)
      | _, some ch =>
        match [dr.best, dr.alt].find? (sectorTakes { s with cfg := v.cfg } d ch) with
        | none => ctrInc .mac 0 10 (ctrInc .mac 0 11 s)
        | some k =>
          match dutyFit s k ch (draftTime v d) with
          | 1 => ctrInc .mac 0 15 (popHead n s)
          | 3 => ctrInc .mac 0 14 s
          | _ =>
            if !counterReady s n then ctrInc .sec 0 13 (ctrInc .mac 0 11 s)
            else match keyForSend (facetOf s n) n s with
              | (some key, s) => sendUnicast d k ch n f key (x.round 16) a s
              | (none, s) => ctrInc .sec 0 12 (ctrInc .mac 0 11 s)

/-- DOWNLINK_PLAN: the Facets plan a slot, once, in the order of R181. -/
def planSlot (a : Nat) (s : State) : State :=
  if !meshServes s ∨ a < s.mesh.planned then s
  else
    let v := slotView s a
    let links := slotLinks v a
    let s := countCuts a (modMesh (fun m => { m with planned := a + 1 }) s)
    let s := (links.filter (fun l => l.tx && l.broadcast)).foldl (fun s l => planBroadcastLink v a l s) s
    let s := (links.filter (fun l => l.tx && !l.broadcast && !l.shared)).foldl (fun s l => planUnicast v a l s) s
    (links.filter (fun l => l.tx && !l.broadcast && l.shared)).foldl (fun s l => planUnicast v a l s) s

/-- DOWNLINK_PLAN -/
def execDownlinkPlan (dt slot : Nat) : State → Host.Outcome State Fault Refusal := radioEvent dt (planSlot slot)

/-! ### The acknowledgement window (R186, R195) -/

/-- A window that ended without an acknowledgement: a miss, which may reset the model, and the limit of retries. -/
def missed (w : SentPpdu) (s : State) : State :=
  let s := modMesh (fun m => { m with sent := m.sent.filter (fun x => x != w) }) s
  let r := nodeOf s w.node
  let k := min 7 (r.drift.misses + 1)
  let s := if cfgNat s 0x0821 9 0 ≤ k then resetDrift w.node s else saveNode w.node { r with drift := { r.drift with misses := k } } s
  retryLimit w.node w.frame w.template s

/-- ACK_WINDOW_EXPIRY: no acknowledgement of a node met its window; the longest one that could have is over. -/
def ackWindowExpiry (n : Nat) (s : State) : State :=
  match s.mesh.sent.find? (fun w => w.node == n && decide (w.closeAt + tmplTime s w.template 7 ≤ merNow s)) with
  | some w => missed w s
  | none => s

/-- ACK_WINDOW_EXPIRY -/
def execAckWindowExpiry (dt node : Nat) : State → Host.Outcome State Fault Refusal := radioEvent dt (ackWindowExpiry node)

end Sys2Proof.Machine
end

