-- ==== Sys2Proof/Machine/PortMac.lean ====
section
/-!
DEFINITION. The MACs of the Ethernet and management ports (R262 to R280, R352, R365 to R369): frames
received and sent, PAUSE and PFC, link state, transmit underrun, duplicate discard.
-/
namespace Sys2Proof.Machine

/-- The MAC of a port sends: the switch forwards, or the port carries a PRP path in standby (R279). -/
def macSends (s : State) (p : Nat) : Bool :=
  macRuns s p && (swPort s p).linkUp && (forwards s || (standsBy s && (pairOf s p).isSome))

/-! ### Pause (R274 to R276) -/

/-- The latest instant until which anything on a port is held. -/
def holdEnd (x : SwPort) : Nat := (x.hold.map (·.2)).foldl max 0

/-- Count the whole microseconds held so far in TX_PAUSED_US (R274). -/
def accruePause (p : Nat) (s : State) : State :=
  let x := swPort s p
  match x.heldFrom with
  | some t =>
    let us := (min s.now (holdEnd x) - t) / usTicks
    setSwPort p { x with heldFrom := some (t + us * usTicks) } (ctrAdd .port p 38 us s)
  | none => s

/-- Write the hold of priority `i`, or of the port at 8, and follow whether anything is held. -/
def setHold (p i until_ : Nat) (s : State) : State :=
  let s := accruePause p s
  let x := swPort s p
  let x := { x with hold := Sparse.set (fun _ => 0) (x.hold.filter (fun h => decide (s.now < h.2))) i until_ }
  setSwPort p { x with heldFrom := if s.now < holdEnd x then some (x.heldFrom.getD s.now) else none } s

/-- The instant at which `quanta` of 512 bit times end at the port's rate (R274). -/
def quantaEnd (s : State) (p quanta : Nat) : Nat :=
  let r := portRate s p
  if quanta = 0 ∨ r = 0 then 0 else s.now + (quanta * 512 * 800 + r - 1) / r

/-- The reserved address of MAC Control frames. -/
def pauseDa : Nat := 0x0180C2000001

/-- A PAUSE frame is received (R274). -/
def pauseReceived (p da quanta : Nat) (s : State) : State :=
  if portCfg s p 13 ≠ 1 then portCount p 21 s
  else if da = pauseDa ∨ da = portCfg s p 5 then portCount p 12 (setHold p 8 (quantaEnd s p quanta) s)
  else s

/-- A PFC frame is received: class-enable vector and times (R274). -/
def pfcReceived (p da vector : Nat) (times : List Nat) (s : State) : State :=
  if portCfg s p 13 ≠ 2 then portCount p 21 s
  else if da = pauseDa ∨ da = portCfg s p 5 then
    (bitList 8 (vector &&& portCfg s p 14)).foldl (fun s i => portCount p (13 + i) (setHold p i (quantaEnd s p (times.getD i 0)) s)) s
  else s

/-- A MAC Control frame (R274). -/
def macControl (p : Nat) (f : List Byte) (s : State) : State :=
  match fldBE f 14 2 with
  | 0x0001 => pauseReceived p (frameDa f) (fldBE f 16 2) s
  | 0x0101 => pfcReceived p (frameDa f) (fldBE f 16 2) ((List.range 8).map (fun i => fldBE f (18 + 2 * i) 2)) s
  | _ => portCount p 22 s

/-- A port receives: its MAC runs and its link is up. -/
def macReceives (s : State) (p : Nat) : Bool := macRuns s p && isMac p && (swPort s p).linkUp

/-- PAUSE_FRAME_RECEIVED (R274). -/
def execPauseFrameReceived (dt port da quanta : Nat) (s : State) : Host.Outcome State Fault Refusal :=
  event dt (fun s => if macReceives s port then pauseReceived port da quanta s else s) s

/-- PFC_FRAME_RECEIVED (R274). -/
def execPfcFrameReceived (dt port da vector : Nat) (times : List Nat) (s : State) : Host.Outcome State Fault Refusal :=
  event dt (fun s => if macReceives s port then pfcReceived port da vector times s else s) s

/-- PAUSE_TIMER_EXPIRY: a timer that has run out holds nothing more (R274). -/
def execPauseTimerExpiry (dt port : Nat) (s : State) : Host.Outcome State Fault Refusal :=
  event dt (fun s =>
    if (swPort s port).hold.any (fun h => decide (h.2 ≤ s.now)) then
      let s := accruePause port s
      modSwPort port (fun x =>
        let hold := x.hold.filter (fun h => decide (s.now < h.2))
        { x with hold, heldFrom := if hold.isEmpty then none else x.heldFrom }) s
    else s) s

/-- A PAUSE or PFC frame that the port generates (R276): 8 in `l` names the port, the others priorities. -/
def sendPause (p : Nat) (l : List Nat) (quanta : Nat) (s : State) : State :=
  let head := beBytes 6 pauseDa ++ beBytes 6 (portCfg s p 5) ++ beBytes 2 0x8808
  if l.contains 8 then portCount p 29 (emit (.frame p (padTo 60 (head ++ beBytes 2 1 ++ beBytes 2 quanta)) false) s)
  else
    let times := ((List.range 8).map (fun i => beBytes 2 (if l.contains i then quanta else 0))).flatten
    let s := emit (.frame p (padTo 60 (head ++ beBytes 2 0x0101 ++ beBytes 2 (bitMap l) ++ times)) false) s
    l.foldl (fun s i => portCount p (30 + i) s) s

/-- The counts that a port watches: 8 for PAUSE, the enabled priorities for PFC (R276). -/
def watched (s : State) (p : Nat) : List Nat :=
  match portCfg s p 13 with
  | 1 => [8]
  | 2 => bitList 8 (portCfg s p 14)
  | _ => []

/-- The count of one of them. -/
def watchCount (s : State) (p i : Nat) : Nat := portCells s p (if i = 8 then none else some i)

/-- Write the asserted state of counts. -/
def setXoff (p : Nat) (l : List Nat) (on : Bool) (s : State) : State :=
  modSwPort p (fun x =>
    let m := bitList 9 x.xoff
    { x with xoff := bitMap (if on then m ++ l else m.filter (fun i => !l.contains i)),
             xoffAt := l.foldl (fun a i => Sparse.set (fun _ => 0) a i (if on then s.now else 0)) x.xoffAt }) s

/-- The counts of a port that satisfy a condition, where the MAC sends: one frame covers them (R276). -/
def watchDue (s : State) (p : Nat) (c : Nat → Bool) : List Nat := if macSends s p then (watched s p).filter c else []

/-- XOFF_THRESHOLD: counts that have reached XOFF_CELLS assert (R276). -/
def execXoffThreshold (dt port : Nat) (s : State) : Host.Outcome State Fault Refusal :=
  event dt (fun s =>
    let l := watchDue s port (fun i => !bit (swPort s port).xoff i && decide (portCfg s port 15 ≤ watchCount s port i))
    if l.isEmpty then s else setXoff port l true (sendPause port l (portCfg s port 17) s)) s

/-- XON_THRESHOLD: counts that have fallen to XON_CELLS release (R276). -/
def execXonThreshold (dt port : Nat) (s : State) : Host.Outcome State Fault Refusal :=
  event dt (fun s =>
    let l := watchDue s port (fun i => bit (swPort s port).xoff i && decide (watchCount s port i ≤ portCfg s port 16))
    if l.isEmpty then s else setXoff port l false (sendPause port l 0 s)) s

/-- PAUSE_REFRESH: half of TX_QUANTA has passed with the count above XON_CELLS (R276). -/
def execPauseRefresh (dt port : Nat) (s : State) : Host.Outcome State Fault Refusal :=
  event dt (fun s =>
    let q := portCfg s port 17
    let half := fun t => decide (t + (quantaEnd s port q - s.now) / 2 ≤ s.now)
    let l := watchDue s port (fun i =>
      bit (swPort s port).xoff i && decide (portCfg s port 16 < watchCount s port i) && half (Sparse.get (fun _ => 0) (swPort s port).xoffAt i))
    if l.isEmpty then s else setXoff port l true (sendPause port l q s)) s

/-! ### Ingress (R268 to R271, R352) -/

/-- TAGGED of a filter entry agrees with the frame's tags (Table 10.3). -/
def taggedOk (code : Nat) (t : TagInfo) (provider : Bool) : Bool :=
  match code with
  | 0 => true
  | 1 => !t.tagged
  | 2 => t.tagged
  | _ => provider && t.double

/-- A filter entry matches a frame (R271). -/
def filterMatch (e : Nat) (t : TagInfo) (provider : Bool) : Bool :=
  bit e 68 && decide ((bits e 0 16 ^^^ t.etype) &&& bits e 16 16 = 0) && decide ((bits e 32 12 ^^^ t.vid) &&& bits e 44 12 = 0)
    && decide ((bits e 56 3 ^^^ t.pcp) &&& bits e 59 3 = 0) && taggedOk (bits e 62 2) t provider

/-- The filters of a port choose the ingress queue, or none where they drop (R271). -/
def ingressQueue (s : State) (p : Nat) (t : TagInfo) : Option Nat :=
  match ((List.range 16).map (fun i => cfgNat s (0x0200 + p) 12 i)).find? (fun e => filterMatch e t (portCfg s p 6 == 1)) with
  | some e => if bit e 67 then none else some (bits e 64 3)
  | none => some (cfgNat s (0x0200 + p) 11 t.pcp)

/-- The redundancy control trailer of a frame: SEQ and LAN_ID, where SUFFIX and LSDU_SIZE match (R352). -/
def trailerOf (t : TagInfo) (f : List Byte) : Option (Nat × Nat) :=
  let n := f.length
  let o := n - 6
  if 20 ≤ n ∧ fldBE f (n - 2) 2 = 0x88FB ∧ fldBE f (o + 2) 2 % 4096 = (n - 12 - t.tagBytes) % 4096 then
    some (fldBE f o 2, fldBE f (o + 2) 2 / 4096)
  else none

/-- What duplicate discard decides of a frame with a trailer on a pair port (R352): whether it passes,
and the state after. -/
def prpLookup (pair port lan sa seq : Nat) (s : State) : Bool × State :=
  let mine := match prpPair s pair with
    | some (a, _) => if a = port then 0xA else 0xB
    | none => 0xA
  let s := if lan = mine then s else ctrInc .prp pair 3 s
  match s.sw.prpTable.find? (fun e => e.pair == pair && e.sa == sa && e.seq == seq) with
  | some e =>
    if e.port = port then (true, ctrInc .prp pair 1 s)
    else (false, ctrInc .prp pair 0 (modSw (fun w => { w with prpTable := w.prpTable.erase e }) s))
  | none =>
    if 65536 ≤ s.sw.prpTable.length then (true, ctrInc .prp pair 2 s)
    else
      let e : PrpEntry := { pair, sa, seq, port, since := s.now }
      (true, modSw (fun w => { w with prpTable := w.prpTable ++ [e] }) s)

/-- Count a frame committed to X12 (Table 10.6). -/
def countRx (p : Nat) (f : List Byte) (s : State) : State := countDest p 2 f (portCount p 1 (ctrAdd .port p 0 (f.length + 4) s))

/-- A flush of the port's X12 was requested while this frame was arriving (R19). -/
def flushCatches (s : State) (p start : Nat) : Option Flush :=
  s.sw.flushes.find? (fun x => x.port == p && x.ingress && decide (start < x.since))

/-- A frame that passed every check is committed over X12 (R268), or falls to a flush (R19). -/
def commitFrame (p queue : Nat) (t : TagInfo) (bytes : List Byte) (trailer ago : Nat) (s : State) : State :=
  let time := (merTimeAgo s.time.mer ago - cfgGet s (0x0200 + p) 22 0 * 16384).toNat
  let (id, s) := newPacketId s
  let md := entryMeta s p queue queue t.pcp t.vid bytes.length none time
  let k := mkPacket id md bytes trailer (s.time.mer.c - BitVec.ofNat 64 ago)
  match flushCatches s p (s.now - ago) with
  | some x =>
    if x.rewound then s
    else latticeAdd (ingressCrossing p) 1 1 (modSw (fun w => { w with flushes := modFlush p (fun y => y == x) (fun y => { y with items := y.items + 1 }) w.flushes }) s)
  | none => (commitPacket k s).1

/-- A data frame (R268, R271, R279, R352). -/
def dataFrame (p : Nat) (f : List Byte) (ago : Nat) (s : State) : State :=
  let t := portTag s p f
  if t.vid = 0xFFF then portCount p 10 s
  else match ingressQueue s p t with
    | none => portCount p 10 s
    | some q =>
      let pair := pairOf s p
      if !forwards s ∧ !(standsBy s ∧ pair.isSome) then portCount p 23 (countRx p f s)
      else if 64 ≤ (ingressList s p).length then portCount p 11 (noCredit p s)
      else if freeCells s < cellsFor f.length then noCredit p s
      else match pair with
        | none => commitFrame p q t f 0 ago (countRx p f s)
        | some i =>
          match trailerOf t f with
          | none => commitFrame p q t f 0 ago (countRx p f (ctrInc .prp i 4 s))
          | some (seq, lan) =>
            let (pass, s) := prpLookup i p lan (frameSa f) seq s
            if pass then commitFrame p q t (f.take (f.length - 6)) 6 ago (countRx p f s) else s

/-- The checks of a received frame (R270), then MAC Control or data. -/
def receiveFrame (p : Nat) (f : List Byte) (fcsOk codeErr : Bool) (ago : Nat) (s : State) : State :=
  let n := f.length + 4
  if n < 64 then portCount p 7 s
  else if portCfg s p 4 < n then portCount p (if fcsOk then 8 else 9) s
  else if codeErr then portCount p 6 s
  else if !fcsOk then portCount p 5 s
  else if fldBE f 12 2 = 0x8808 then macControl p f s
  else dataFrame p f ago s

/-- INGRESS_FRAME: a frame has been received whole, its first bit `ago` ticks before (R268). -/
def execIngressFrame (dt port : Nat) (frame : List Byte) (fcsOk codeErr : Bool) (ago fecFixed fecBad : Nat) (s : State) :
    Host.Outcome State Fault Refusal :=
  event dt (fun s =>
    if macReceives s port then receiveFrame port frame fcsOk codeErr ago (ctrAdd .port port 44 fecBad (ctrAdd .port port 43 fecFixed s))
    else s) s

/-- PRP_FORGET_EXPIRY: an entry not removed within PRP_FORGET is removed (R352). -/
def execPrpForgetExpiry (dt pair sa seq : Nat) (s : State) : Host.Outcome State Fault Refusal :=
  event dt (fun s =>
    let old := fun (e : PrpEntry) => e.pair == pair && e.sa == sa && e.seq == seq && decide (e.since + cfgNat s 0x0502 2 0 * msTicks ≤ s.now)
    modSw (fun w => { w with prpTable := w.prpTable.filter (fun e => !old e) }) s) s

/-! ### PTP at the egress (R368, R369) -/

/-- Keep a UDP checksum over IPv6 right when 16-bit words of a message change: the last two bytes of
the payload take up the change (R368). -/
def absorb (f f' : List Byte) (off last : Nat) : List Byte :=
  let old := onesSum (f.drop off)
  let new := onesSum (f'.drop off)
  let d := onesAdd old (0xFFFF - new)
  let even := (last - off) % 2 = 0
  let d := if even then d else d % 256 * 256 + d / 256
  putBytes f' last (beBytes 2 (onesAdd (fldBE f' last 2) d))

/-- Change `n` bytes of a PTP message at an offset and mend its UDP checksum (R368); none where an IPv6
message has no room for that. -/
def ptpWrite (k : Packet) (off : Nat) (b : List Byte) : Option (List Byte) :=
  let f := k.bytes
  let f' := putBytes f off b
  match ptpHeader k.md with
  | some (_, none) => some f'
  | some (_, some (4, _, uo)) => some (putBytes f' (uo + 6) (zeros 2))
  | some (o, some (_, _, uo)) =>
    let payload := fldBE f (uo + 4) 2 - 8
    if fldBE f (o + 2) 2 + 2 ≤ payload ∧ uo + 8 + payload ≤ f.length then some (absorb f f' uo (uo + 8 + payload - 2)) else none
  | none => none

/-- The residence time of a packet in 2^-16 ns (R368). -/
def residence (s : State) (k : Packet) : Int :=
  ((s.time.mer.c - k.rawC).toNat : Int) * 81920 * (281474976710656 + s.time.mer.rate) / 281474976710656

/-- The correction of a forwarded event message (R366 to R368). -/
def ptpCorrect (p : Nat) (r : Replica) (s : State) : Replica × State :=
  match ptpHeader r.pkt.md, r.kind with
  | some (o, _), .data =>
    let type := byteAt r.pkt.bytes o % 16
    let a := ptpOf s r.pkt.md.src
    let b := ptpOf s p
    if !isMac r.pkt.md.src ∨ 3 < type then (r, s)
    else if a.mode ≠ b.mode then (r, ctrInc .time 0 2 s)
    else if a.mode = 1 ∨ (a.mode = 2 ∧ type = 0) then
      let add := residence s r.pkt + (if a.mode = 2 then a.peerDelay else 0)
      let cur := toSigned 64 (fldBE r.pkt.bytes (o + 8) 8)
      match ptpWrite r.pkt (o + 8) (beBytes 8 (ofSigned 64 (cur + add))) with
      | some f => ({ r with pkt := { r.pkt with bytes := f } }, ctrInc .time 0 0 s)
      | none => (r, ctrInc .time 0 1 s)
    else (r, s)
  | _, _ => (r, s)

/-- The egress timestamp in ns: the Meridian time at the ball plus TX_TS_DELAY (R277). -/
def txStamp (s : State) (p : Nat) : Nat := (merTimeAgo s.time.mer 0 + cfgGet s (0x0200 + p) 22 1 * 16384).toNat / 65536

/-- TS_INSERT writes the egress timestamp into originTimestamp (R369). -/
def tsInsert (p : Nat) (r : Replica) (s : State) : Replica :=
  match ptpHeader r.pkt.md with
  | some (o, _) =>
    if r.pkt.tsInsert then
      let t := txStamp s p
      match ptpWrite r.pkt (o + 34) (beBytes 6 (t / 1000000000) ++ beBytes 4 (t % 1000000000)) with
      | some f => { r with pkt := { r.pkt with bytes := f } }
      | none => r
    else r
  | none => r

/-- TS_REQ: the timestamp and TS_ID go to TSQp (R369). -/
def queueStamp (p : Nat) (r : Replica) (s : State) : State := if r.pkt.tsReq then tsqAppend p (txStamp s p) r.pkt.tsId s else s

/-! ### Egress (R269, R272, R273) -/

/-- TX_START_THRESH at its cap: MAX_FRAME rounded up to a multiple of 256 (R272). -/
def threshCap (s : State) (p : Nat) : Nat := (portCfg s p 4 + 255) / 256 * 256

/-- THRESH_BASE in bytes (Table 10.1). -/
def threshBase (s : State) (p : Nat) : Nat := portCfg s p 18 * 256

/-- A frame is sent whole (R269, R272, R277). -/
def sendFrame (p : Nat) (r : Replica) (s : State) : State :=
  let (r, s) := ptpCorrect p r s
  let r := tsInsert p r s
  let f := egressFrame s r
  if portCfg s p 4 < f.length + 4 then portCount p 40 s
  else
    let s := countDest p 26 f (portCount p 25 (ctrAdd .port p 24 (f.length + 4) (emit (.frame p f false) s)))
    queueStamp p r (modSwPort p (fun x => { x with good := x.good + 1 }) s)

/-- EGRESS_FRAME_SEND: the MAC starts the next frame of X07 and sends it whole (R269). -/
def execEgressFrameSend (dt port : Nat) (s : State) : Host.Outcome State Fault Refusal :=
  event dt (fun s =>
    if isMac port ∧ macSends s port ∧ !pauseHeld s port 8 then
      match egressList s port with
      | r :: rest => sendFrame port r (setEgressList port rest s)
      | [] => s
    else s) s

/-- TX_UNDERRUN: the FIFO empties after `sent` bytes of a frame longer than the threshold (R272). -/
def execTxUnderrun (dt port sent : Nat) (s : State) : Host.Outcome State Fault Refusal :=
  event dt (fun s =>
    if isMac port ∧ macSends s port then
      match egressList s port with
      | r :: rest =>
        let f := egressFrame s r
        let x := swPort s port
        if f.length ≤ sent ∨ f.length + 4 ≤ x.thresh ∨ portCfg s port 4 < f.length + 4 then s
        else
          let cap := threshCap s port
          let thresh := max x.thresh (min (x.thresh + 256) cap)
          let s := portCount port 39 (emit (.frame port (f.take sent) true) (setEgressList port rest s))
          let s := setSwPort port { x with thresh, good := 0 } s
          if x.thresh < cap ∧ cap ≤ thresh then raise 0x0202 (leBytes 1 port ++ zeros 1 ++ leBytes 2 thresh) s else s
      | [] => s
    else s) s

/-- UNDERRUN_DECAY: after UNDERRUN_DECAY frames without underrun the threshold falls one step (R273). -/
def execUnderrunDecay (dt port : Nat) (s : State) : Host.Outcome State Fault Refusal :=
  event dt (fun s =>
    let x := swPort s port
    if portCfg s port 19 ≤ x.good then setSwPort port { x with good := 0, thresh := max (threshBase s port) (x.thresh - 256) } s
    else s) s

/-! ### Link state (R264 to R266) -/

/-- Host software reported the port's reachability within the last second, where PROBE_REQUIRED asks for it (R41). -/
def probeFresh (s : State) (p : Nat) : Bool :=
  let r := Sparse.get (fun _ => 0) s.mode.reportAt p
  !cfgBit s 0x0100 3 || (decide (r ≠ 0) && decide (s.now + 1 ≤ r + secTicks))

/-- A port counts as up for R41. -/
def backhaulUp (s : State) (p : Nat) : Bool := Sparse.get (fun _ => 0) s.mode.backhaulSince p % 2 == 1

/-- The instant since which a port has counted as it does. -/
def backhaulAt (s : State) (p : Nat) : Nat := Sparse.get (fun _ => 0) s.mode.backhaulSince p / 2

/-- The history of a port for R41: a change of what it counts as, with its instant. -/
def noteBackhaul (p : Nat) (link : Bool) (s : State) : State :=
  let up := link && probeFresh s p
  if up = backhaulUp s p then s
  else { s with mode := { s.mode with backhaulSince := Sparse.set (fun _ => 0) s.mode.backhaulSince p (2 * s.now + b2n up) } }

/-- The link of a port comes up (R265, R273). -/
def portUp (p : Nat) (s : State) : State :=
  let s := modSwPort p (fun x => { x with linkUp := true, thresh := threshBase s p, good := 0 }) s
  raiseExit 0x0201 (leBytes 1 p ++ leBytes 1 1 ++ leBytes 1 (portCfg s p 1)) (noteBackhaul p true s)

/-- The link of a port goes down (R264 to R266): `cause` 2 for a failed condition, 3 for a commit or a
speed change, which also flushes X12; `sending` where a frame is on the line. -/
def portDown (p cause : Nat) (sending : Bool) (s : State) : State :=
  let s := accruePause p s
  let s := match egressList s p with
    | _ :: rest => if sending then portCount p 41 (setEgressList p rest s) else s
    | [] => s
  let s := modSwPort p (fun x => { x with linkUp := false, hold := [], heldFrom := none, xoff := 0, xoffAt := [] }) s
  let s := raise 0x0201 (leBytes 1 p ++ leBytes 1 0 ++ leBytes 1 (portCfg s p 1)) (noteBackhaul p false (portCount p 42 s))
  let flush := portCfg s p 21 = 1
  if flush ∨ cause = 3 then startFlush p (if flush then 255 else 0) cause true (cause == 3) (holdsFor s p) none s else s

/-- LINK_UP: the link conditions have held for LINK_DEBOUNCE (R265); on a port that QUIESCENT stopped it
is wake source 0x2 (Table 2.9). -/
def execLinkUp (dt port : Nat) (s : State) : Host.Outcome State Fault Refusal :=
  event dt (fun s =>
    if !isMac port ∨ portDisabled s port ∨ (swPort s port).linkUp then s
    else if macRuns s port then portUp port s
    else if datapath s = .quiescent then wake 2 s
    else s) s

/-- LINK_DOWN: a link condition fails (R265, R266). -/
def execLinkDown (dt port : Nat) (sending : Bool) (s : State) : Host.Outcome State Fault Refusal :=
  event dt (fun s => if isMac port ∧ (swPort s port).linkUp then portDown port 2 sending s else s) s

/-- SGMII_SPEED_CHANGE: the PHY signals another rate: the link goes down and up under the flush of R264. -/
def execSgmiiSpeedChange (dt port rate : Nat) (sending : Bool) (s : State) : Host.Outcome State Fault Refusal :=
  event dt (fun s =>
    if (port = 0x40 ∨ port = 0x41) ∧ portCfg s port 1 = 7 ∧ [10, 100, 1000].contains rate then
      if (swPort s port).linkUp then portUp port (modSwPort port (fun x => { x with sgmii := rate }) (portDown port 3 sending s))
      else modSwPort port (fun x => { x with sgmii := rate }) s
    else s) s

/-- The body of a FRAME message enters the switch from the Chord port; a standby discards it (R419, R353). -/
def frameMessage (src compat : Nat) (body : List Byte) (s : State) : State :=
  if chordRuns s ∧ forwards s ∧ !compatFar s compat ∧ src ≠ memberId s then
    let (k, s) := innerPacket chordPort body s
    (commitPacket k s).1
  else s

/-- FRAME_MESSAGE_RECEIVED (R419) -/
def execFrameMessageReceived (dt src compat : Nat) (body : List Byte) (s : State) : Host.Outcome State Fault Refusal :=
  event dt (frameMessage src compat body) s

end Sys2Proof.Machine
end

