-- ==== Sys2Proof/Machine/SwitchCmd.lean ====
section
/-!
DEFINITION. The mailbox commands of family 0x02, ports and switch (R477 to R479), and of family 0x03,
tables (R480).
-/
namespace Sys2Proof.Machine

/-- A group from `lo` to `hi`. -/
def groupIn (lo hi g : Nat) : Bool := decide (lo ≤ g) && decide (g ≤ hi)

/-! ### Ports -/

/-- PORT_CFG_SET (R262). -/
def execPortCfgSet (e : Entry) (s : State) : Host.Outcome State Fault Refusal :=
  mailbox (opGset 0x0201) (gset (groupIn 0x0200 0x0241)) e s

/-- PORT_CFG_GET (R262). -/
def execPortCfgGet (e : Entry) (s : State) : Host.Outcome State Fault Refusal :=
  mailbox (opGget 0x0202) (gget (groupIn 0x0200 0x0241) noData) e s

/-- Pause state of a port: bit 0 while the port is held by PAUSE; and the PFC timers as a map (R274). -/
def pauseState (s : State) (p : Nat) : Nat := b2n (pauseHeld s p 8)
def pfcMap (s : State) (p : Nat) : Nat := bitMap ((List.range 8).filter (pauseHeld s p))

/-- The receive equalizer settings in force on a lane: CTLE as configured when FIXED, else a free value;
the DFE taps are free values (R267, log 6). -/
def equalizer (p : Nat) (s : State) : List Byte × State :=
  let fixed := cfgNat s (0x0300 + p) 5 0 = 2
  let (c, s) := drawFree 16 s
  let (d, s) := drawFree (2 ^ 24) s
  (leBytes 1 (if fixed then cfgNat s (0x0300 + p) 6 0 else c) ++ leBytes 3 d, s)

/-- The lanes of a port: four at 100 Gb/s (R263). -/
def lanesOf (s : State) (p : Nat) : List Nat := if portCfg s p 1 = 6 then [p, p + 1, p + 2, p + 3] else [p]

/-- PORT_STATUS (R477). -/
def portStatus (c : Cmd) (s : State) : Answer :=
  let p := fld c.req 0 2
  if isMac p then
    let x := swPort s p
    let (l, s) := (lanesOf s p).foldl (fun (a : List Byte × State) q => let (b, s) := equalizer q a.2; (a.1 ++ b, s)) ([], s)
    .ok (padTo 32 (leBytes 1 (b2n x.linkUp) ++ leBytes 1 (portCfg s p 1) ++ leBytes 2 x.thresh ++ leBytes 1 (pauseState s p)
      ++ leBytes 1 (pfcMap s p) ++ zeros 2 ++ l)) s
  else .fail .notFound 0 s

/-- PORT_STATUS (R477). -/
def execPortStatus (e : Entry) (s : State) : Host.Outcome State Fault Refusal := mailbox (opRead 0x0203 2) portStatus e s

/-- PORT_COUNTERS_GET (R280). -/
def execPortCountersGet (e : Entry) (s : State) : Host.Outcome State Fault Refusal :=
  mailbox (opRead 0x0204 8)
    (fun c s => let r := ctrReq c.req; if isMac r.inst then ctrTable r .port r.inst 45 (accruePause r.inst s) else .bad 0 s) e s

/-- A SERDES group: of a port or of a Chord lane (R267). -/
def serdesGroup (g : Nat) : Bool := groupIn 0x0300 0x0341 g || groupIn 0x0360 0x036B g

/-- PORT_SERDES_SET (R267). -/
def execPortSerdesSet (e : Entry) (s : State) : Host.Outcome State Fault Refusal := mailbox (opGset 0x0205) (gset serdesGroup) e s

/-- PORT_SERDES_GET (R267). -/
def execPortSerdesGet (e : Entry) (s : State) : Host.Outcome State Fault Refusal := mailbox (opGget 0x0206) (gget serdesGroup noData) e s

/-! ### Switch -/

/-- SW_BUFFER_SET (R336). -/
def execSwBufferSet (e : Entry) (s : State) : Host.Outcome State Fault Refusal := mailbox (opGset 0x0207) (gset (· == 0x0500)) e s

/-- SW_BUFFER_GET (R336). -/
def execSwBufferGet (e : Entry) (s : State) : Host.Outcome State Fault Refusal := mailbox (opGget 0x0208) (gget (· == 0x0500) noData) e s

/-- SW_QOS_SET (R336). -/
def execSwQosSet (e : Entry) (s : State) : Host.Outcome State Fault Refusal := mailbox (opGset 0x0209) (gset (groupIn 0x0400 0x0451)) e s

/-- SW_QOS_GET (R336). -/
def execSwQosGet (e : Entry) (s : State) : Host.Outcome State Fault Refusal :=
  mailbox (opGget 0x020A) (gget (groupIn 0x0400 0x0451) noData) e s

/-- SW_MIRROR_SET (R346). -/
def execSwMirrorSet (e : Entry) (s : State) : Host.Outcome State Fault Refusal := mailbox (opGset 0x020B) (gset (· == 0x0501)) e s

/-- SW_MIRROR_GET (R346). -/
def execSwMirrorGet (e : Entry) (s : State) : Host.Outcome State Fault Refusal := mailbox (opGget 0x020C) (gget (· == 0x0501) noData) e s

/-- SW_QUEUE_FLUSH (R349): it completes with the flush. -/
def queueFlush (c : Cmd) (s : State) : Answer :=
  let p := fld c.req 0 2
  if egressOk s p then .wait (startFlush p (byteAt c.req 2) 1 (bit (byteAt c.req 3) 0) false false (some c) s)
  else .fail .notFound 0 s

/-- SW_QUEUE_FLUSH (R349). -/
def execSwQueueFlush (e : Entry) (s : State) : Host.Outcome State Fault Refusal :=
  mailbox { code := 0x020D, modes := modesFwdSB, len := lenIs 4, read := false } queueFlush e s

/-- SW_PRP_SET (R350). -/
def execSwPrpSet (e : Entry) (s : State) : Host.Outcome State Fault Refusal := mailbox (opGset 0x020E) (gset (· == 0x0502)) e s

/-- The PRP counters of every pair (R353). -/
def prpData (s : State) : List Byte := ((List.range 16).map (fun i => ctrBytes s .prp i 0 6)).flatten

/-- SW_PRP_GET (R350, R353). -/
def execSwPrpGet (e : Entry) (s : State) : Host.Outcome State Fault Refusal := mailbox (opGget 0x020F) (gget (· == 0x0502) prpData) e s

/-- One queue in SW_QUEUE_STATUS (R355; layout DESIGN CHOICE, log 20). -/
def queueStatusBytes (s : State) (p q : Nat) : List Byte :=
  let l := queueList s p q
  leBytes 4 (chargeOf .guaranteed l) ++ leBytes 4 (chargeOf .shared l) ++ leBytes 4 (chargeOf .headroom l) ++ leBytes 4 l.length
    ++ leBytes 4 (Sparse.get (fun _ => 0) s.sw.hwm (8 * p + q)) ++ leBytes 4 (deficitOf (schedOf s p) q)
    ++ leBytes 8 (ofSigned 64 (bucketLevel s (queueBucket p q) (qosCfg s p 6 q) (qosCfg s p 7 q)))
    ++ leBytes 1 (b2n (pauseHeld s p q)) ++ zeros 7

/-- SW_QUEUE_STATUS (R355). -/
def swQueueStatus (c : Cmd) (s : State) : Answer :=
  let p := fld c.req 0 2
  if egressOk s p then
    let reply := ((List.range 8).map (queueStatusBytes s p)).flatten
      ++ leBytes 8 (ofSigned 64 (bucketLevel s (portBucket p) (qosCfg s p 8 0) (qosCfg s p 9 0)))
      ++ leBytes 1 (pauseState s p) ++ zeros 3 ++ leBytes 4 (qosCfg s p 11 0 - headroomUsed s p)
      ++ leBytes 4 (sharedCells s) ++ leBytes 4 (freeShared s) ++ leBytes 4 (pendingCells s) ++ leBytes 4 (freeDescs s)
      ++ leBytes 4 (freeCells s) ++ zeros 4
    let clear := bit (byteAt c.req 2) 0
    .ok reply (if clear then modSw (fun w => { w with hwm := Sparse.drop (fun k => k / 8 == p) w.hwm }) s else s)
  else .fail .notFound 0 s

/-- SW_QUEUE_STATUS (R355). -/
def execSwQueueStatus (e : Entry) (s : State) : Host.Outcome State Fault Refusal := mailbox (opRead 0x0210 3) swQueueStatus e s

/-- The counters of SW_COUNTERS_GET by number: Table 13.9 for Q0 to Q7, ADM_NO_EGRESS with the host port,
then the copies made and refused of each session (Table 18.7). -/
def swCounter (p i : Nat) : CtrTable × Nat × Nat :=
  let n := if p = hostPort then 121 else 120
  if i < n then (.queue, p, i) else (.mirror, (i - n) / 2, (i - n) % 2)

/-- SW_COUNTERS_GET (R355). -/
def swCounters (c : Cmd) (s : State) : Answer :=
  let r := ctrReq c.req
  if egressOk s r.inst then
    let n := if r.inst = hostPort then 129 else 128
    ctrAnswer r (List.replicate n 8) (fun i => let (t, k, j) := swCounter r.inst i; ctrGet s t k j)
      (fun i s => let (t, k, j) := swCounter r.inst i; ctrSet t k j 0 s) [] s
  else .bad 0 s

/-- SW_COUNTERS_GET (R355). -/
def execSwCountersGet (e : Entry) (s : State) : Host.Outcome State Fault Refusal := mailbox (opRead 0x0211 8) swCounters e s

/-! ### The host port (R478, R479) -/

/-- The offsets of the entries of a PORT_HOST_TX payload; none where they do not come out. -/
def txEntries (req : List Byte) : Nat → Nat → Option (List Nat)
  | 0, off => if off = req.length then some [] else none
  | n + 1, off =>
    if off = req.length then some []
    else
      let next := off + 16 + (fld req off 2 + 7) / 8 * 8
      if off + 16 ≤ req.length ∧ next ≤ req.length then (txEntries req n next).map (off :: ·) else none

/-- The entries of a payload: each takes at least 16 bytes. -/
def txList (req : List Byte) : Option (List Nat) := txEntries req (req.length / 16 + 1) 0

/-- A host transmit header is good: LEN, and EGRESS of a DIRECT frame (Table 18.8). -/
def txGood (s : State) (req : List Byte) (off : Nat) : Bool :=
  let h := fld req off 16
  decide (14 ≤ bits h 0 16) && decide (bits h 0 16 ≤ 9212) && (!bit h 18 || egressOk s (bits h 48 7))

/-- A DIRECT frame is offered to admission: it counts as taken unless every replica is refused (R478). -/
def sendDirect (k : Packet) (port queue : Nat) (s : State) : Bool × State :=
  let k := modMd (fun m => { m with queue, egress := some port }) (parseInto s k)
  let (l, s) := egressReplicas k port s
  l.foldl (fun a r =>
    let ok := match decideReplica a.2 r with
      | .enqueue _ => true
      | .hold => true
      | .refuse _ => false
    (a.1 || ok, (offer r a.2).1)) (false, s)

/-- One frame of PORT_HOST_TX (R478): whether it was taken. -/
def sendHost (req : List Byte) (off : Nat) (s : State) : Bool × State :=
  let h := fld req off 16
  let (k, s) := innerPacket hostPort (slice req (off + 16) (bits h 0 16)) s
  let k := { k with tsReq := bit h 16, tsInsert := bit h 17, tsId := bits h 32 16 }
  if bit h 18 then sendDirect k (bits h 48 7) (bits h 19 3) s
  else let (s, ok) := commitPacket k s; (ok, s)

/-- PORT_HOST_TX (R478). -/
def hostTx (c : Cmd) (s : State) : Answer :=
  let l := (txList c.req).getD []
  match l.find? (fun o => !txGood s c.req o) with
  | some o => .bad o s
  | none =>
    let (n, s) := l.foldl (fun (a : Nat × State) o => let (ok, s) := sendHost c.req o a.2; (a.1 + b2n ok, s)) (0, s)
    .ok (leBytes 4 n ++ leBytes 4 (l.length - n)) s

/-- PORT_HOST_TX (R478). -/
def execPortHostTx (e : Entry) (s : State) : Host.Outcome State Fault Refusal :=
  mailbox { code := 0x0212, modes := modesFwd, len := fun r => decide (r ≠ []) && (txList r).isSome, read := false } hostTx e s

/-- PORT_HOST_RX_SET (R479): WRITTEN and CONSUMED start at 0 with the ring (DESIGN CHOICE, log 21). -/
def hostRxSet (c : Cmd) (s : State) : Answer :=
  let base := fld c.req 0 8
  let entries := fld c.req 8 2
  let size := fld c.req 10 2
  let vector := byteAt c.req 12
  let enable := bit (byteAt c.req 13) 1
  if base % 4096 ≠ 0 then .bad 0 s
  else if !([16, 32, 64, 128, 256, 512, 1024, 2048, 4096].contains entries) then .bad 8 s
  else if size < 2048 ∨ 10240 < size ∨ size % 1024 ≠ 0 then .bad 10 s
  else if 32 ≤ vector then .bad 12 s
  else if s.sw.ring.enable ∧ enable then .fail .busy 0 s
  else
    let port := (queueOf s c.queue).owner.getD .h0
    let r : HostRing :=
      { enable, port, base, entries, size, vector, irqEn := bit (byteAt c.req 13) 0, written := if enable then 0 else s.sw.ring.written,
        consumed := if enable then 0 else s.sw.ring.consumed, tooLong := s.sw.ring.tooLong }
    .ok [] (modSw (fun w => { w with ring := r }) s)

/-- PORT_HOST_RX_SET (R479). -/
def execPortHostRxSet (e : Entry) (s : State) : Host.Outcome State Fault Refusal := mailbox (opAll 0x0213 14) hostRxSet e s

/-- PORT_HOST_RX_RELEASE (R479). -/
def hostRxRelease (c : Cmd) (s : State) : Answer :=
  let r := s.sw.ring
  let v := BitVec.ofNat 32 (fld c.req 0 4)
  let ahead := (v - r.written).toNat
  if 0 < ahead ∧ ahead < 2 ^ 31 then .bad 0 s
  else
    let consumed := if (r.written - v).toNat ≤ (r.written - r.consumed).toNat then v else r.consumed
    let s := modSw (fun w => { w with ring := { w.ring with consumed } }) s
    let queued := ((List.range 8).map (fun q => (queueList s hostPort q).length)).sum
    .ok (leBytes 4 r.written.toNat ++ leBytes 4 consumed.toNat ++ leBytes 4 r.tooLong ++ leBytes 4 queued) s

/-- PORT_HOST_RX_RELEASE (R479). -/
def execPortHostRxRelease (e : Entry) (s : State) : Host.Outcome State Fault Refusal := mailbox (opAll 0x0214 4) hostRxRelease e s

/-! ### Classification stages (R293, R300, R301) -/

/-- The mode column of a command that names a group outside a G-SET. -/
def modesOf (group : List Byte → Nat) (s : State) (req : List Byte) : Bool := stageable s (group req)

/-- The stage group of an entry command. -/
def stageGroup (req : List Byte) : Nat := 0x0600 + byteAt req 0

/-- The staged entries of a stage. -/
def stagedEntries (s : State) (g : Nat) : Sparse (Option Nat) :=
  let keep := fun k => decide (keyGroup k = g) && decide (keyRow k = 5)
  let places := (Sparse.keys s.cfg.live ++ Sparse.keys s.cfg.staged).filter keep
  places.foldl (fun m k =>
    let e := (cfgStaged s g 5 (keyIdx k)).toNat
    setEntry (keyIdx k) (if bit e 127 then some e else none) m) []

/-- Make the staged entries of a stage those of a table. -/
def stageEntries (q g : Nat) (m : Sparse (Option Nat)) (s : State) : State :=
  let places := (Sparse.keys (stagedEntries s g) ++ Sparse.keys m).eraseDups
  places.foldl (fun s p =>
    let v : Int := (((entryAt m p).getD 0 : Nat) : Int)
    if cfgStaged s g 5 p = v then s else stageField q g 5 p v s) s

/-- The fields whose change empties a stage: KIND, KEYn, SIZE (R293). -/
def layoutChanged (old new : State) (g : Nat) : Bool :=
  cfgStaged old g 1 0 != cfgStaged new g 1 0 || cfgStaged old g 3 0 != cfgStaged new g 3 0
    || (List.range 8).any (fun i => cfgStaged old g 2 i != cfgStaged new g 2 i)

/-- CLS_STAGE_SET: a change of KIND, SIZE or a key empties the staged entries (R293). -/
def clsStageSet (c : Cmd) (s : State) : Answer :=
  let g := reqGroup c.req
  match gset (groupIn 0x0600 0x0605) c s with
  | .done st d r s' => .done st d r (if layoutChanged s s' g then stageEntries c.queue g [] s' else s')
  | .wait s' => .wait s'

/-- CLS_STAGE_SET (R293). -/
def execClsStageSet (e : Entry) (s : State) : Host.Outcome State Fault Refusal := mailbox (opGset 0x0301) clsStageSet e s

/-- CLS_STAGE_GET (R293). -/
def execClsStageGet (e : Entry) (s : State) : Host.Outcome State Fault Refusal :=
  mailbox (opGget 0x0302) (gget (groupIn 0x0600 0x0605) noData) e s

/-- The key of an entry as CRC-32C takes it (R295). -/
def entryHash (e : Nat) : List Byte := beBytes 40 (entryKey e)

/-- The places of a key in a HASH stage of `n` buckets. -/
def clsPlaces (n e : Nat) : List Nat := keyPlaces n (entryHash e)

/-- The entry that a request spells: key or value at 8, mask at 48, action word at 88 (R480). -/
def reqEntry (l : List Byte) : Nat := entryWord (fld l 88 16) (fldBE l 8 40) (fldBE l 48 40)

/-- The index of an EXACT or TERNARY entry must lie in the stage's table (R292). -/
def placeLimit (s : State) (g : Nat) : Nat :=
  if cfgStaged s g 1 0 = 1 then
    2 ^ min 16 (((List.range 8).map (fun i => let d := (cfgStaged s g 2 i).toNat; if bits d 0 2 = 0 then 0 else bits d 21 8)).sum)
  else 4096

/-- Write one entry into the staged copy (R300, R301): the status, and the state after. -/
def writeEntry (q g : Nat) (l : List Byte) (s : State) : Status × Nat × State :=
  let e := reqEntry l
  let valid := bit e 127
  let kind := cfgStaged s g 1 0
  if kind = 2 then
    let n := (cfgStaged s g 3 0).toNat / 4
    let m := stagedEntries s g
    match findEntry m (fun x => entryKey x == entryKey e) (clsPlaces n e) with
    | some (p, _) => (.ok, 0, stageEntries q g (setEntry p (if valid then some e else none) m) s)
    | none =>
      if !valid then (.ok, 0, s)
      else match relocate entryHash n 64 (clsPlaces n e) m with
        | some (p, m) => (.ok, 0, stageEntries q g (setEntry p (some e) m) s)
        | none => (.noResource, 0, s)
  else if kind = 0 then (.badParam, 0, s)
  else if placeLimit s g ≤ fld l 4 4 then (.badParam, 4, s)
  else (.ok, 0, stageField q g 5 (fld l 4 4) ((if valid then e else 0 : Nat) : Int) s)

/-- The lock of a group (R24): CFG_LOCKED with its owner in DETAIL. -/
def unlocked (c : Cmd) (g : Nat) (f : State → Answer) (s : State) : Answer :=
  match lockedBy s c.queue g with
  | some o => .fail .cfgLocked o s
  | none => f s

/-- CLS_ENTRY_WRITE (R300). -/
def clsEntryWrite (c : Cmd) (s : State) : Answer :=
  let g := stageGroup c.req
  if 5 < byteAt c.req 0 then .bad 0 s
  else unlocked c g (fun s => match writeEntry c.queue g c.req s with | (st, d, s) => .done st d [] s) s

/-- CLS_ENTRY_WRITE (R300). -/
def execClsEntryWrite (e : Entry) (s : State) : Host.Outcome State Fault Refusal :=
  mailbox { code := 0x0303, modes := modesOf stageGroup, len := lenIs 104, read := false } clsEntryWrite e s

/-- The place and value of the entry that a request addresses in a view of a stage. -/
def addressed (l : List Byte) (kind size : Nat) (m : Sparse (Option Nat)) : Option (Nat × Nat) :=
  if kind = 2 then findEntry m (fun x => entryKey x == fldBE l 8 40) (clsPlaces (size / 4) (at' 128 (fldBE l 8 40)))
  else (entryAt m (fld l 4 4)).map (fun x => (fld l 4 4, x))

/-- The live entries of a stage. -/
def liveEntries (s : State) (g : Nat) : Sparse (Option Nat) :=
  (s.cfg.live.filter (fun p => decide (keyGroup p.1 = g) && decide (keyRow p.1 = 5))).foldl
    (fun m p => setEntry (keyIdx p.1) (if bit p.2.toNat 127 then some p.2.toNat else none) m) []

/-- CLS_ENTRY_READ (R300): the entry in the layout of the write. -/
def clsEntryRead (c : Cmd) (s : State) : Answer :=
  let g := stageGroup c.req
  let view := byteAt c.req 1
  if 5 < byteAt c.req 0 then .bad 0 s
  else if 1 < view then .bad 1 s
  else
    let found := if view = 0 then addressed c.req (cfgNat s g 1 0) (cfgNat s g 3 0) (liveEntries s g)
      else addressed c.req (cfgStaged s g 1 0).toNat (cfgStaged s g 3 0).toNat (stagedEntries s g)
    match found with
    | some (p, x) => .ok (leBytes 1 (byteAt c.req 0) ++ zeros 3 ++ leBytes 4 p ++ beBytes 40 (entryKey x) ++ beBytes 40 (entryMask x)
        ++ leBytes 16 (entryAction x)) s
    | none => .fail .notFound 0 s

/-- CLS_ENTRY_READ (R300). -/
def execClsEntryRead (e : Entry) (s : State) : Host.Outcome State Fault Refusal := mailbox (opRead 0x0304 88) clsEntryRead e s

/-- CLS_ENTRY_DELETE (R300). -/
def clsEntryDelete (c : Cmd) (s : State) : Answer :=
  let g := stageGroup c.req
  if 5 < byteAt c.req 0 then .bad 0 s
  else unlocked c g (fun s =>
    match addressed c.req (cfgStaged s g 1 0).toNat (cfgStaged s g 3 0).toNat (stagedEntries s g) with
    | some (p, _) => .ok [] (stageField c.queue g 5 p 0 s)
    | none => .fail .notFound 0 s) s

/-- CLS_ENTRY_DELETE (R300). -/
def execClsEntryDelete (e : Entry) (s : State) : Host.Outcome State Fault Refusal :=
  mailbox { code := 0x0305, modes := modesOf stageGroup, len := lenIs 88, read := false } clsEntryDelete e s

/-- Write entries until one fails; DETAIL then says how many were written (R301). -/
def bulkWrite (write : List Byte → State → Status × Nat × State) : List (List Byte) → Nat → State → Answer
  | [], n, s => .ok (leBytes 8 n) s
  | l :: r, n, s => match write l s with
    | (.ok, _, s) => bulkWrite write r (n + 1) s
    | (st, _, s) => .done st (min n 0xFF) [] s

/-- Cut a byte string into pieces of `n` bytes. -/
def pieces (n : Nat) : Nat → List Byte → List (List Byte)
  | 0, _ => []
  | k + 1, l => if l.isEmpty then [] else l.take n :: pieces n k (l.drop n)

/-- CLS_ENTRY_BULK (R300, R301). -/
def clsEntryBulk (c : Cmd) (s : State) : Answer :=
  let g := stageGroup c.req
  if 5 < byteAt c.req 0 then .bad 0 s
  else unlocked c g (bulkWrite (writeEntry c.queue g) (pieces 104 c.req.length (c.req.drop 4)) 0) s

/-- CLS_ENTRY_BULK (R300). -/
def execClsEntryBulk (e : Entry) (s : State) : Host.Outcome State Fault Refusal :=
  mailbox { code := 0x0306, modes := modesOf stageGroup, len := fun r => decide (4 ≤ r.length) && decide ((r.length - 4) % 104 = 0), read := false }
    clsEntryBulk e s

/-! ### Meters, policers, parser, counters (R289, R299, R302, R344) -/

/-- FIRST and COUNT of a request name items below `n`. -/
def spanOk (req : List Byte) (n : Nat) : Bool := decide (fld req 0 4 + fld req 4 4 ≤ n)

/-- The rows of a request with `size` bytes per item: stage the fields that `cut` gives of each. -/
def stageSpan (q g size : Nat) (cut : List Byte → List (Nat × Nat)) (req : List Byte) (s : State) : State :=
  ((pieces size req.length (req.drop 8)).zipIdx (fld req 0 4)).foldl (fun s p =>
    (cut p.1).foldl (fun s f => stageField q g f.1 p.2 (f.2 : Int) s) s) s

/-- The length rule of a request of COUNT items of `size` bytes. -/
def spanLen (size : Nat) (r : List Byte) : Bool := decide (8 ≤ r.length) && decide (r.length = 8 + size * fld r 4 4)

/-- A command that stages items of a group. -/
def spanSet (g n size : Nat) (cut : List Byte → List (Nat × Nat)) (c : Cmd) (s : State) : Answer :=
  if !spanOk c.req n then .bad 0 s
  else unlocked c g (fun s => .ok [] (stageSpan c.queue g size cut c.req s)) s

/-- A command that reads items of a group: FIRST and COUNT, then what `item` gives of each. A reply above
16,384 bytes is refused (DESIGN CHOICE, log 20). -/
def spanGet (n size : Nat) (head : List Byte) (item : Nat → List Byte) (c : Cmd) (s : State) : Answer :=
  if !spanOk c.req n then .bad 0 s
  else if 16384 < head.length + size * fld c.req 4 4 then .bad 4 s
  else .ok (head ++ ((List.range (fld c.req 4 4)).map (fun i => item (fld c.req 0 4 + i))).flatten) s

/-- CLS_METER_SET (R299). -/
def execClsMeterSet (e : Entry) (s : State) : Host.Outcome State Fault Refusal :=
  mailbox { code := 0x0307, modes := modesOf (fun _ => 0x0606), len := spanLen 24, read := false }
    (spanSet 0x0606 65536 24 (fun l => [(1, fld l 0 4), (2, fld l 4 4), (3, fld l 8 4), (4, fld l 12 4), (5, byteAt l 16)])) e s

/-- A meter in CLS_METER_GET. -/
def meterBytes (s : State) (i : Nat) : List Byte :=
  let f := fun r => cfgNat s 0x0606 r i
  leBytes 4 (f 1) ++ leBytes 4 (f 2) ++ leBytes 4 (f 3) ++ leBytes 4 (f 4) ++ leBytes 1 (f 5) ++ zeros 7
    ++ leBytes 4 (bucketLevel s (meterBucket i 0) (f 1) (f 2)).toNat ++ leBytes 4 (bucketLevel s (meterBucket i 1) (f 3) (f 4)).toNat

/-- CLS_METER_GET (R299). -/
def execClsMeterGet (e : Entry) (s : State) : Host.Outcome State Fault Refusal :=
  mailbox (opRead 0x0308 8) (fun c s => spanGet 65536 32 (c.req.take 8) (meterBytes s) c s) e s

/-- CLS_PARSER_SET (R289). -/
def execClsParserSet (e : Entry) (s : State) : Host.Outcome State Fault Refusal := mailbox (opGset 0x0309) (gset (· == 0x0608)) e s

/-- CLS_PARSER_GET (R289). -/
def execClsParserGet (e : Entry) (s : State) : Host.Outcome State Fault Refusal := mailbox (opGget 0x030A) (gget (· == 0x0608) noData) e s

/-- CLS_COUNTER_GET (R302). -/
def clsCounterGet (c : Cmd) (s : State) : Answer :=
  let first := fld c.req 0 4
  let count := fld c.req 4 2
  let clear := bit (byteAt c.req 6) 0
  if 1048576 ≤ first then .bad 0 s
  else if count = 0 ∨ (if clear then 32 else 1024) < count ∨ 1048576 < first + count then .bad 4 s
  else
    let l := (List.range count).map (first + ·)
    .ok ((l.map (fun i => ctrBytes s .cls i 0 2)).flatten) (if clear then l.foldl (fun s i => ctrClear .cls i 0 2 s) s else s)

/-- CLS_COUNTER_GET (R302). -/
def execClsCounterGet (e : Entry) (s : State) : Host.Outcome State Fault Refusal := mailbox (opRead 0x030B 7) clsCounterGet e s

/-- CLS_STATS_GET (R302). -/
def execClsStatsGet (e : Entry) (s : State) : Host.Outcome State Fault Refusal :=
  mailbox (opRead 0x030C 8) (fun c s => let r := ctrReq c.req; if r.inst < 4 then ctrTable r .pipe r.inst 22 s else .bad 0 s) e s

/-- CLS_POLICER_SET (R344). -/
def execClsPolicerSet (e : Entry) (s : State) : Host.Outcome State Fault Refusal :=
  mailbox { code := 0x031C, modes := modesOf (fun _ => 0x0607), len := spanLen 8, read := false }
    (spanSet 0x0607 65536 8 (fun l => [(1, fld l 0 4), (2, fld l 4 4)])) e s

/-- A policer in CLS_POLICER_GET: the settings, then level and counts in 40 bytes. -/
def policerBytes (s : State) (i : Nat) : List Byte :=
  let rate := cfgNat s 0x0607 1 i
  let burst := cfgNat s 0x0607 2 i
  leBytes 4 rate ++ leBytes 4 burst ++ leBytes 8 (bucketLevel s (policerBucket i) rate burst).toNat ++ ctrBytes s .policer i 0 4

/-- CLS_POLICER_GET (R344). -/
def execClsPolicerGet (e : Entry) (s : State) : Host.Outcome State Fault Refusal :=
  mailbox (opRead 0x031D 8) (fun c s => spanGet 65536 48 (c.req.take 8) (policerBytes s) c s) e s

/-! ### Forwarding tables (R326, R327) -/

/-- FWD_PARAM_SET (R326). -/
def execFwdParamSet (e : Entry) (s : State) : Host.Outcome State Fault Refusal := mailbox (opGset 0x0310) (gset (· == 0x0700)) e s

/-- The slow-path Facets (R312). -/
def slowFacets (s : State) : List Byte := ((List.range (cfgNat s 0x0700 14 0)).map (fun i => leBytes 2 (Config.slowFacet i % 256))).flatten

/-- FWD_PARAM_GET (R326). -/
def execFwdParamGet (e : Entry) (s : State) : Host.Outcome State Fault Refusal := mailbox (opGget 0x0311) (gget (· == 0x0700) slowFacets) e s

/-- The group of a table number (R480): 3 L2, 4 V6, 5 V4. -/
def tableGroup (req : List Byte) : Nat := 0x0700 + byteAt req 0

/-- A table number is 3, 4 or 5. -/
def tableOk (req : List Byte) : Bool := groupIn 3 5 (byteAt req 0)

/-- A key of a table: VID and MAC, or LEN and PREFIX. -/
abbrev TableKey := Nat × Nat

/-- The key that an entry spells (Tables 12.4 and 12.5). -/
def entryTableKey (table x : Nat) : TableKey := if table = 3 then (bits x 48 12, bits x 0 48) else (bits x 128 8, bits x 0 128)

/-- An entry of a table is valid. -/
def entryValid (table x : Nat) : Bool := if table = 3 then bit x 91 else bit x 170

/-- The key at offset 8 of a request: VID in 2 bytes and MAC in 6, or LEN in 1 and PREFIX in 16 (log 20). -/
def reqTableKey (req : List Byte) : TableKey := if byteAt req 0 = 3 then (fld req 8 2, fld req 10 6) else (byteAt req 8, fld req 9 16)

/-- The staged operations of a table, in their order: insert or replace (1) or delete (2), with the entry (R327). -/
def stagedOps (s : State) (g : Nat) : List (Nat × Nat) :=
  (stagedOf s g).map (fun p => (p.2.2.toNat % 4, p.2.2.toNat / 4))

/-- Record an operation (R327). -/
def stageOp (q g kind x : Nat) (s : State) : State := stageField q g 1 (stagedOf s g).length ((kind + 4 * x : Nat) : Int) s

/-- An L2 entry in the layout of Table 12.5. -/
def l2Word (e : L2Entry) : Nat :=
  e.mac + at' 48 e.vid + at' 60 e.port + at' 67 (b2n e.static) + at' 68 (b2n e.remote) + at' 69 e.origin + at' 73 (b2n e.hit) + at' 74 e.stamp
    + at' 90 (b2n e.damped) + at' 91 1 + at' 96 (e.timeUs % 2 ^ 64)

/-- An L3 entry in the layout of Table 12.4. -/
def l3Word (v6 : Bool) (e : L3Entry) : Nat :=
  (if v6 then e.prefx else e.prefx % 2 ^ 32) + at' 128 e.len + at' 136 e.nexthop + at' 152 (b2n e.ageable) + at' 153 (b2n e.hit) + at' 154 e.stamp + at' 170 1

/-- The live entry of a key. -/
def liveTableEntry (s : State) (table : Nat) (k : TableKey) : Option Nat :=
  if table = 3 then (l2Find s k.1 k.2).map (fun p => l2Word p.2)
  else (l3Find (l3Table s (table == 4)) (table == 4) k.1 k.2).map (fun p => l3Word (table == 4) p.2)

/-- The entry of a key as staged: the last operation on it, else the live one. -/
def stagedTableEntry (s : State) (table : Nat) (k : TableKey) : Option Nat :=
  match (stagedOps s (0x0700 + table)).reverse.find? (fun o => entryTableKey table o.2 == k) with
  | some (1, x) => some x
  | some _ => none
  | none => liveTableEntry s table k

/-- Stage one entry: an insert or replace, or with VALID = 0 a deletion; at most 65,536 operations wait. -/
def writeTableEntry (q table : Nat) (l : List Byte) (s : State) : Status × Nat × State :=
  let g := 0x0700 + table
  let x := fld l 0 24
  if 65536 ≤ (stagedOf s g).length then (.noResource, 0, s)
  else (.ok, 0, stageOp q g (if entryValid table x then 1 else 2) x s)

/-- FWD_ENTRY_WRITE (R326). -/
def fwdEntryWrite (c : Cmd) (s : State) : Answer :=
  if !tableOk c.req then .bad 0 s
  else unlocked c (tableGroup c.req) (fun s => match writeTableEntry c.queue (byteAt c.req 0) (c.req.drop 8) s with | (st, d, s) => .done st d [] s) s

/-- FWD_ENTRY_WRITE (R326). -/
def execFwdEntryWrite (e : Entry) (s : State) : Host.Outcome State Fault Refusal :=
  mailbox { code := 0x0312, modes := modesOf tableGroup, len := lenIs 32, read := false } fwdEntryWrite e s

/-- The length of a request that names a key, padded to 8 bytes. -/
def tableKeyLen (r : List Byte) : Bool := decide (r.length = if byteAt r 0 = 3 then 16 else 32)

/-- FWD_ENTRY_READ (R326). -/
def fwdEntryRead (c : Cmd) (s : State) : Answer :=
  if !tableOk c.req then .bad 0 s
  else if 1 < byteAt c.req 1 then .bad 1 s
  else
    let t := byteAt c.req 0
    match (if byteAt c.req 1 = 0 then liveTableEntry s t (reqTableKey c.req) else stagedTableEntry s t (reqTableKey c.req)) with
    | some x => .ok (leBytes 24 x) s
    | none => .fail .notFound 0 s

/-- FWD_ENTRY_READ (R326). -/
def execFwdEntryRead (e : Entry) (s : State) : Host.Outcome State Fault Refusal :=
  mailbox { code := 0x0313, modes := modesAll, len := tableKeyLen, read := true } fwdEntryRead e s

/-- The entry word that holds a key alone. -/
def keyWord (table : Nat) (k : TableKey) : Nat := if table = 3 then k.2 + at' 48 k.1 else k.2 + at' 128 k.1

/-- FWD_ENTRY_DELETE (R326). -/
def fwdEntryDelete (c : Cmd) (s : State) : Answer :=
  if !tableOk c.req then .bad 0 s
  else unlocked c (tableGroup c.req) (fun s =>
    let t := byteAt c.req 0
    match stagedTableEntry s t (reqTableKey c.req) with
    | some _ => .ok [] (stageOp c.queue (tableGroup c.req) 2 (keyWord t (reqTableKey c.req)) s)
    | none => .fail .notFound 0 s) s

/-- FWD_ENTRY_DELETE (R326). -/
def execFwdEntryDelete (e : Entry) (s : State) : Host.Outcome State Fault Refusal :=
  mailbox { code := 0x0314, modes := modesOf tableGroup, len := tableKeyLen, read := false } fwdEntryDelete e s

/-- FWD_ENTRY_BULK (R326). -/
def fwdEntryBulk (c : Cmd) (s : State) : Answer :=
  if !tableOk c.req then .bad 0 s
  else unlocked c (tableGroup c.req) (bulkWrite (writeTableEntry c.queue (byteAt c.req 0)) (pieces 24 c.req.length (c.req.drop 8)) 0) s

/-- FWD_ENTRY_BULK (R326). -/
def execFwdEntryBulk (e : Entry) (s : State) : Host.Outcome State Fault Refusal :=
  mailbox { code := 0x0315, modes := modesOf tableGroup, len := fun r => decide (8 ≤ r.length) && decide ((r.length - 8) % 24 = 0), read := false }
    fwdEntryBulk e s

/-- FWD_NEXTHOP_SET (R326). -/
def execFwdNexthopSet (e : Entry) (s : State) : Host.Outcome State Fault Refusal :=
  mailbox { code := 0x0316, modes := modesOf (fun _ => 0x0702), len := spanLen 16, read := false }
    (spanSet 0x0702 65536 16 (fun l => [(1, fld l 0 16)])) e s

/-- FWD_NEXTHOP_GET (R326). -/
def fwdNexthopGet (c : Cmd) (s : State) : Answer :=
  let view := byteAt c.req 8
  if 1 < view then .bad 8 s
  else spanGet 65536 16 [] (fun i => leBytes 16 (if view = 0 then cfgGet s 0x0702 1 i else cfgStaged s 0x0702 1 i).toNat) c s

/-- FWD_NEXTHOP_GET (R326). -/
def execFwdNexthopGet (e : Entry) (s : State) : Host.Outcome State Fault Refusal := mailbox (opRead 0x0317 9) fwdNexthopGet e s

/-- FWD_VLAN_SET (R326, R305). -/
def fwdVlanSet (c : Cmd) (s : State) : Answer :=
  let vid := fld c.req 0 2
  let m := fld c.req 8 16
  if vid < 1 ∨ 4094 < vid then .bad 0 s
  else if m &&& (mapEMG + mapHost + mapChord) ≠ m then .bad 8 s
  else unlocked c 0x0701 (fun s => .ok [] (stageField c.queue 0x0701 1 vid ((byteAt c.req 2 % 4 + 4 * m : Nat) : Int) s)) s

/-- FWD_VLAN_SET (R326). -/
def execFwdVlanSet (e : Entry) (s : State) : Host.Outcome State Fault Refusal :=
  mailbox { code := 0x0318, modes := modesOf (fun _ => 0x0701), len := lenIs 24, read := false } fwdVlanSet e s

/-- FWD_VLAN_GET (R326): the live entry in the layout of the set. -/
def fwdVlanGet (c : Cmd) (s : State) : Answer :=
  let vid := fld c.req 0 2
  if vid < 1 ∨ 4094 < vid then .bad 0 s
  else let v := cfgNat s 0x0701 1 vid; .ok (leBytes 2 vid ++ leBytes 1 (v % 4) ++ zeros 5 ++ leBytes 16 (v / 4)) s

/-- FWD_VLAN_GET (R326). -/
def execFwdVlanGet (e : Entry) (s : State) : Host.Outcome State Fault Refusal :=
  mailbox { code := 0x0319, modes := modesAll, len := fun r => lenIs 2 r || lenIs 24 r, read := true } fwdVlanGet e s

/-- Remove the learned entries that match a port and a VID: the number removed (R317, R322). -/
def l2Flush (match_ : L2Entry → Bool) (s : State) : Nat × State :=
  (Sparse.keys s.sw.l2).foldl (fun a place =>
    match entryAt a.2.sw.l2 place with
    | some e =>
      if !e.static ∧ match_ e then
        let s := l2Set place none a.2
        (a.1 + 1, if e.remote then s else learnSend 2 e s)
      else a
    | none => a) (0, s)

/-- FWD_L2_FLUSH (R317). -/
def fwdL2Flush (c : Cmd) (s : State) : Answer :=
  let p := fld c.req 0 2
  let vid := fld c.req 2 2
  let (n, s) := l2Flush (fun e => (p == 0xFFFF || e.port == p) && (vid == 0 || e.vid == vid)) s
  .ok (leBytes 8 n) s

/-- FWD_L2_FLUSH (R317). -/
def execFwdL2Flush (e : Entry) (s : State) : Host.Outcome State Fault Refusal := mailbox (opAll 0x031A 4) fwdL2Flush e s

/-- FWD_COUNTERS_GET (R332). -/
def execFwdCountersGet (e : Entry) (s : State) : Host.Outcome State Fault Refusal :=
  mailbox (opRead 0x031B 8) (fun c s => let r := ctrReq c.req; if r.inst = 0xFFFF then ctrTable r .fwd 0 27 s else .bad 0 s) e s

end Sys2Proof.Machine
end

