-- ==== Sys2Proof/Machine/MeshCmd.lean ====
section
/-!
DEFINITION. The mailbox commands of family 0x04, mesh and nodes (R481, R482; R173 to R175, R191, R195,
R201 to R204, R206, R210, R222).
-/
namespace Sys2Proof.Machine

/-! ### The groups of the mesh -/

/-- MESH_TIMING_SET (R173). -/
def execMeshTimingSet (e : Entry) : State → Host.Outcome State Fault Refusal := mailbox (opGset 0x0401) (gset (· == 0x0800)) e

/-- The ASN and MESH_SHIFT in 2^-16 ns (Table 18.11). -/
def timingData (s : State) : List Byte := leBytes 8 (asnNow s) ++ leBytes 8 (ofSigned 64 (meshShiftNow s))

/-- MESH_TIMING_GET (R173). -/
def execMeshTimingGet (e : Entry) : State → Host.Outcome State Fault Refusal := mailbox (opGget 0x0402) (gget (· == 0x0800) timingData) e

/-- MESH_TEMPLATE_SET (R174). -/
def execMeshTemplateSet (e : Entry) : State → Host.Outcome State Fault Refusal := mailbox (opGset 0x0403) (gset (groupIn 0x0810 0x0817)) e

/-- MESH_TEMPLATE_GET (R174). -/
def execMeshTemplateGet (e : Entry) : State → Host.Outcome State Fault Refusal :=
  mailbox (opGget 0x0404) (gget (groupIn 0x0810 0x0817) noData) e

/-- MESH_DRIFT_PARAM_SET (R191). -/
def execMeshDriftParamSet (e : Entry) : State → Host.Outcome State Fault Refusal := mailbox (opGset 0x0407) (gset (· == 0x0821)) e

/-- MESH_DRIFT_PARAM_GET (R191). -/
def execMeshDriftParamGet (e : Entry) : State → Host.Outcome State Fault Refusal := mailbox (opGget 0x0408) (gget (· == 0x0821) noData) e

/-- MESH_SECURITY_SET (R206). -/
def execMeshSecuritySet (e : Entry) : State → Host.Outcome State Fault Refusal := mailbox (opGset 0x0416) (gset (· == 0x0822)) e

/-- The time of the last complete checkpoint, zero where there is none (R219). -/
def checkpointData (s : State) : List Byte := ptpBytes (s.store.checkpointAt.getD 0)

/-- MESH_SECURITY_GET (R206, R219). -/
def execMeshSecurityGet (e : Entry) : State → Host.Outcome State Fault Refusal := mailbox (opGget 0x0417) (gget (· == 0x0822) checkpointData) e

/-- MESH_GX_LQ_SET (R167). -/
def execMeshGxLqSet (e : Entry) : State → Host.Outcome State Fault Refusal := mailbox (opGset 0x0420) (gset (· == 0x0823)) e

/-- MESH_GX_LQ_GET (R167). -/
def execMeshGxLqGet (e : Entry) : State → Host.Outcome State Fault Refusal := mailbox (opGget 0x0421) (gget (· == 0x0823) noData) e

/-! ### The schedule (R175) -/

/-- The length of what precedes the entries of a SUB, and of an entry; none for another SUB. Byte 7 of SUB 1 is
not named and stands before the channels (DEDUCED, log 41). -/
def subShape (sub : Nat) : Option (Nat × Nat) :=
  match sub with | 1 => some (8, 8) | 2 => some (4, 8) | 3 => some (12, 16) | _ => none

/-- The length rule of MESH_SCHEDULE_SET. -/
def scheduleLen (r : List Byte) : Bool :=
  match subShape (byteAt r 0) with
  | some (head, unit) =>
    decide (head ≤ r.length) && (r.length - head) % unit == 0
      && (match byteAt r 0 with
          | 1 => r.length == head + unit * fld r 5 2
          | 3 => r.length == head + unit * fld r 8 4
          | _ => decide (head < r.length))
  | none => decide (4 ≤ r.length)

/-- The length rule of MESH_SCHEDULE_GET. -/
def scheduleGetLen (r : List Byte) : Bool :=
  match subShape (byteAt r 0) with
  | some (head, _) => r.length == head
  | none => decide (4 ≤ r.length)

/-- The first bad field of a channel, by its offset: the spacing code (Table 18.11). -/
def channelBad (l : List Byte) : Option Nat := if 4 < byteAt l 4 then some 4 else none

/-- The first bad field of a slotframe (R175). -/
def slotframeBad (l : List Byte) : Option Nat :=
  if 63 < byteAt l 0 then some 0
  else if 1 < byteAt l 1 then some 1
  else if fld l 2 2 = 0 then some 2
  else if 7 < byteAt l 4 then some 4
  else if 15 < byteAt l 5 then some 5
  else none

/-- The first bad field among entries of `unit` bytes from offset `head`. -/
def entriesBad (bad : List Byte → Option Nat) (head unit : Nat) (l : List (List Byte)) : Option Nat :=
  ((l.zipIdx).findSome? (fun p => (bad p.1).map (fun o => head + unit * p.2 + o)))

/-- A channel as it is held: centre and spacing code. -/
def channelWord (l : List Byte) : Nat := fld l 0 4 + byteAt l 4 * 2 ^ 32

/-- A slotframe as it is held. -/
def slotframeWord (l : List Byte) : Nat :=
  byteAt l 0 + byteAt l 1 * 2 ^ 8 + fld l 2 2 * 2 ^ 16 + byteAt l 4 * 2 ^ 32 + byteAt l 5 * 2 ^ 40

/-- A link without its reserved bits (Table 7.3). -/
def linkWord (v : Nat) : Nat := bits v 0 46 + bits v 48 18 * 2 ^ 48 + bits v 72 24 * 2 ^ 72

/-- MESH_SCHEDULE_SET (R175, Table 18.11). -/
def scheduleSet (c : Cmd) (s : State) : Answer :=
  let r := c.req
  match byteAt r 0 with
  | 1 =>
    let h := byteAt r 4
    let l := pieces 8 (fld r 5 2) (r.drop 8)
    if 15 < h then .bad 4 s
    else if 256 < l.length then .bad 5 s
    else match entriesBad channelBad 8 8 l with
      | some o => .bad o s
      | none => unlocked c 0x0820 (fun s =>
          .ok [] (l.zipIdx.foldl (fun s p => stageField c.queue 0x0820 2 (256 * h + p.2) (channelWord p.1 : Nat) s)
            (stageField c.queue 0x0820 1 h (l.length : Nat) s))) s
  | 2 =>
    let l := pieces 8 r.length (r.drop 4)
    match entriesBad slotframeBad 4 8 l with
    | some o => .bad o s
    | none => unlocked c 0x0820 (fun s => .ok [] (l.foldl (fun s p => stageField c.queue 0x0820 3 (byteAt p 0) (slotframeWord p : Nat) s) s)) s
  | 3 =>
    let first := fld r 4 4
    let l := pieces 16 (fld r 8 4) (r.drop 12)
    if 524288 ≤ first then .bad 4 s
    else if 524288 < first + l.length then .bad 8 s
    else unlocked c 0x0820 (fun s =>
      .ok [] ((l.zipIdx first).foldl (fun s p => stageField c.queue 0x0820 4 p.2 (linkWord (leNat p.1) : Nat) s) s)) s
  | _ => .bad 0 s

/-- MESH_SCHEDULE_SET (R175). -/
def execMeshScheduleSet (e : Entry) : State → Host.Outcome State Fault Refusal :=
  mailbox { code := 0x0405, modes := modesOf (fun _ => 0x0820), len := scheduleLen, read := false } scheduleSet e

/-- A slotframe in a reply. -/
def slotframeBytes (h v : Nat) : List Byte :=
  leBytes 1 h ++ leBytes 1 (bits v 8 1) ++ leBytes 2 (bits v 16 16) ++ leBytes 1 (bits v 32 8) ++ leBytes 1 (bits v 40 8) ++ zeros 2

/-- MESH_SCHEDULE_GET (R175): a reply above 16,384 bytes is refused (log 20). -/
def scheduleGet (c : Cmd) (s : State) : Answer :=
  let r := c.req
  let view := byteAt r 1
  let read := fun row idx => ((if view = 0 then cfgGet s else cfgStaged s) 0x0820 row idx).toNat
  let sub := byteAt r 0
  if (subShape sub).isNone then .bad 0 s
  else if 1 < view then .bad 1 s
  else match sub with
    | 1 =>
      let h := byteAt r 4
      if 15 < h then .fail .notFound 0 s
      else
        let n := read 1 h
        .ok (leBytes 1 1 ++ zeros 3 ++ leBytes 1 h ++ leBytes 2 n ++ zeros 1
          ++ ((List.range n).map (fun i => leBytes 5 (read 2 (256 * h + i)) ++ zeros 3)).flatten) s
    | 2 => .ok (leBytes 1 2 ++ zeros 3 ++ ((List.range 64).map (fun h => slotframeBytes h (read 3 h))).flatten) s
    | _ =>
      let first := fld r 4 4
      let n := fld r 8 4
      if 524288 < first + n then .fail .notFound 0 s
      else if 16384 < 12 + 16 * n then .bad 8 s
      else .ok (leBytes 1 3 ++ zeros 3 ++ slice r 4 8 ++ ((List.range n).map (fun i => leBytes 16 (read 4 (first + i)))).flatten) s

/-- MESH_SCHEDULE_GET (R175). -/
def execMeshScheduleGet (e : Entry) : State → Host.Outcome State Fault Refusal :=
  mailbox { code := 0x0406, modes := modesAll, len := scheduleGetLen, read := true } scheduleGet e

/-! ### The partition map (R12, R482) -/

/-- MESH_PARTITION_SET (R482). -/
def partitionSet (c : Cmd) (s : State) : Answer :=
  let first := fld c.req 0 2
  let l := c.req.drop 4
  if 1024 ≤ first then .bad 0 s
  else if 1024 < first + l.length then .bad 2 s
  else unlocked c 0x0824 (fun s =>
    .ok [] ((l.zipIdx first).foldl (fun s p => stageField c.queue 0x0824 1 p.2 (p.1.toNat : Nat) s) s)) s

/-- MESH_PARTITION_SET (R482). -/
def execMeshPartitionSet (e : Entry) : State → Host.Outcome State Fault Refusal :=
  mailbox { code := 0x041B, modes := modesOf (fun _ => 0x0824), len := fun r => decide (4 ≤ r.length) && r.length == 4 + fld r 2 2, read := false }
    partitionSet e

/-- MESH_PARTITION_GET: the live, the staged or the used map (Table 18.11). -/
def partitionGet (c : Cmd) (s : State) : Answer :=
  let view := byteAt c.req 0
  if 2 < view then .bad 0 s
  else
    let read := fun p => match view with
      | 0 => cfgNat s 0x0824 1 p
      | 1 => (cfgStaged s 0x0824 1 p).toNat
      | _ => facetOfPartition s p
    .ok ((List.range 1024).map (fun p => BitVec.ofNat 8 (read p))) s

/-- MESH_PARTITION_GET (R482). -/
def execMeshPartitionGet (e : Entry) : State → Host.Outcome State Fault Refusal := mailbox (opRead 0x0412 1) partitionGet e

/-! ### Nodes -/

/-- The number of node indices. -/
def nodeCount : Nat := 262144

/-- A command over a node that is not FREE (R481). -/
def nodeCmd (h : Nat → Cmd → State → Answer) (c : Cmd) (s : State) : Answer :=
  let n := fld c.req 0 4
  if nodeCount ≤ n then .bad 0 s
  else if nodeState s n = 0 then .fail .notFound 0 s
  else h n c s

/-- MESH_NODE_DRIFT_GET (R190): Table 7.4. -/
def execMeshNodeDriftGet (e : Entry) : State → Host.Outcome State Fault Refusal :=
  mailbox (opRead 0x0409 4) (nodeCmd (fun n _ s => .ok (leBytes 28 (nodeOf s n).drift.word) s)) e

/-- MESH_NODE_DRIFT_RESET (R195). -/
def execMeshNodeDriftReset (e : Entry) : State → Host.Outcome State Fault Refusal :=
  mailbox (opAll 0x040A 4) (nodeCmd (fun n _ s => .ok [] (resetDrift n s))) e

/-- MESH_NODE_SYNC_SET: SYNC_MODE (Table 7.4). -/
def nodeSyncSet (n : Nat) (c : Cmd) (s : State) : Answer :=
  let r := nodeOf s n
  if 1 < byteAt c.req 4 then .bad 4 s
  else .ok [] (saveNode n { r with drift := { r.drift with sync := byteAt c.req 4 == 1 } } s)

/-- MESH_NODE_SYNC_SET (R194). -/
def execMeshNodeSyncSet (e : Entry) : State → Host.Outcome State Fault Refusal := mailbox (opAll 0x040B 5) (nodeCmd nodeSyncSet) e

/-- MESH_MAC_COUNTERS_GET (Table 7.7). -/
def execMeshMacCountersGet (e : Entry) : State → Host.Outcome State Fault Refusal :=
  mailbox (opRead 0x040C 8) (fun c s => let r := ctrReq c.req; if r.inst = 0xFFFF then ctrTable r .mac 0 21 s else .bad 0 s) e

/-- MESH_SEC_COUNTERS_GET (Table 8.7). -/
def execMeshSecCountersGet (e : Entry) : State → Host.Outcome State Fault Refusal :=
  mailbox (opRead 0x0418 8) (fun c s => let r := ctrReq c.req; if r.inst = 0xFFFF then ctrTable r .sec 0 15 s else .bad 0 s) e

/-- The working state of a node is forgotten: its keys, warnings, leases and the form of its last frame (R208, R221). -/
def forgetNode (n : Nat) (s : State) : State :=
  let s := dropNodeKeys n (setLeasePending n none s)
  modMesh (fun m => { m with fcWarned := Sparse.set (fun _ => 0) m.fcWarned n 0,
                             work := Sparse.set (fun _ => NodeWork.reset) m.work n NodeWork.reset }) s

/-- The record that MESH_NODE_ADD writes (R204). -/
def addedRecord (r : List Byte) (drift : Drift) : NodeRec :=
  { NodeRec.reset with
    eui := BitVec.ofNat 64 (fld r 4 8), keyGen := BitVec.ofNat 8 (byteAt r 14), gobaix := bit (byteAt r 15) 0,
    secMin := bits (byteAt r 15) 1 3, rxFc := BitVec.ofNat 32 (fld r 16 4), state := 1, drift }

/-- An address belongs to another index. -/
def takenBy (o : Option Nat) (n : Nat) : Bool := match o with | some k => k != n | none => false

/-- MESH_NODE_ADD (R204); indices up to 16,383 in the compatibility modes (Table 19.8). The first TX_LEASE is recorded
before it is used (R218). -/
def nodeAdd (c : Cmd) (s : State) : Answer :=
  let r := c.req
  let n := fld r 0 4
  let short := fld r 12 2
  let sec := bits (byteAt r 15) 1 3
  if nodeCount ≤ n ∨ (16384 ≤ n ∧ inModes [.activeC, .standbyC] s) then .bad 0 s
  else if takenBy (nodeOfEui s (BitVec.ofNat 64 (fld r 4 8))) n then .bad 4 s
  else if short ≠ 0xFFFF ∧ takenBy (nodeOfShort s short) n then .bad 12 s
  else if sec < 1 ∨ sec = 4 then .bad 15 s
  else
    let old := nodeOf s n
    let free := nodeState s n = 0
    if !free ∧ !bit (byteAt r 15) 4 then .fail .modeRefused 0 s
    else
      let s := forgetNode n s
      let s := if free then s else ctrInc .mac 0 18 s
      let s := saveNode n (addedRecord r (if free then Drift.reset else old.drift.cleared)) (setShort n short s)
      .ok [] (recordLease n 2 (setRestoring n none s))

/-- MESH_NODE_ADD (R204). -/
def execMeshNodeAdd (e : Entry) : State → Host.Outcome State Fault Refusal := mailbox (opAll 0x0410 20) nodeAdd e

/-- MESH_NODE_GET (Table 8.1). -/
def execMeshNodeGet (e : Entry) : State → Host.Outcome State Fault Refusal :=
  mailbox (opRead 0x0411 4) (nodeCmd (fun n _ s => .ok (nodeOf s n).bytes s)) e

/-- MESH_NODE_STATE_SET (R202); ACTIVE of a node whose counters are exhausted is TX_EXHAUSTED, which only a
re-key ends (R221; DEDUCED, log 42). -/
def nodeStateSet (n : Nat) (c : Cmd) (s : State) : Answer :=
  let r := nodeOf s n
  let target := byteAt c.req 4
  if nodeState s n = 4 then .bad 0 s
  else if target ≠ 1 ∧ target ≠ 2 then .bad 4 s
  else
    let target := if target = 1 ∧ 0xFFFFF000 ≤ r.txFc.toNat then 3 else target
    .ok [] (saveNode n { r with state := target, secFails := 0 } s)

/-- MESH_NODE_STATE_SET (R202). -/
def execMeshNodeStateSet (e : Entry) : State → Host.Outcome State Fault Refusal := mailbox (opAll 0x0413 5) (nodeCmd nodeStateSet) e

/-- MESH_NODE_REKEY (R222). -/
def nodeRekey (n : Nat) (c : Cmd) (s : State) : Answer :=
  let r := nodeOf s n
  let st := nodeState s n
  if st ≠ 1 ∧ st ≠ 3 then .fail .modeRefused 0 s
  else .ok (leBytes 4 (pendingGen r)) (saveNode n { r with rekey := !bit (byteAt c.req 4) 0 } s)

/-- MESH_NODE_REKEY (R222). -/
def execMeshNodeRekey (e : Entry) : State → Host.Outcome State Fault Refusal := mailbox (opAll 0x0414 5) (nodeCmd nodeRekey) e

/-- The attribute word of an exported node key: AES-128, HOST, CCM alone, LC_BIND of the master (R404). -/
def nodeKeyAttr (master : Nat) : Nat := 2 + bits master 20 4 * 2 ^ 20

/-- MESH_NODE_KEY_EXPORT (R210). -/
def nodeKeyExport (n : Nat) (c : Cmd) (s : State) : Answer :=
  let r := nodeOf s n
  let which := byteAt c.req 4
  let w := fld c.req 6 2
  if 1 < which then .bad 4 s
  else
    let gen := if which = 0 then r.keyGen.toNat else pendingGen r
    let m := masterOf s gen
    if (wrapRefusal s w 0).isSome ∨ !masterUsable s gen ∨ !bit (slotOf s m).attr.toNat 17 then .fail .authFail 0 s
    else
      match checkTag m s with
      | (false, s) => .fail .internal 0 s
      | (true, s) =>
        match checkTag w s with
        | (false, s) => .fail .internal 0 s
        | (true, s) => .ok (wrapBlob (slotOf s w).key (nodeKeyAttr (slotOf s m).attr.toNat) (nodeKeyOf s r.eui.toNat gen)) s

/-- MESH_NODE_KEY_EXPORT (R210). -/
def execMeshNodeKeyExport (e : Entry) : State → Host.Outcome State Fault Refusal := mailbox (opAll 0x0415 8) (nodeCmd nodeKeyExport) e

/-- MESH_NODE_REMOVE (R204). -/
def nodeRemove (n : Nat) (_ : Cmd) (s : State) : Answer :=
  let s := (discardDdq n (setRestoring n none (forgetNode n s))).2
  .ok [] (saveNode n { NodeRec.reset with secMin := 0, txLease := 0, rssi := 0 } (setShort n 0xFFFF s))

/-- MESH_NODE_REMOVE (R204). -/
def execMeshNodeRemove (e : Entry) : State → Host.Outcome State Fault Refusal := mailbox (opAll 0x0419 4) (nodeCmd nodeRemove) e

/-- MESH_NODE_RESTORE (R203): the same restoration, which completes the command; BUSY while another command waits
for it (DESIGN CHOICE, log 42). -/
def nodeRestore (n : Nat) (c : Cmd) (s : State) : Answer :=
  match restoring s n with
  | some (some _) => .fail .busy 0 s
  | _ => .wait (setRestoring n (some (some c)) s)

/-- MESH_NODE_RESTORE (R203). -/
def execMeshNodeRestore (e : Entry) : State → Host.Outcome State Fault Refusal := mailbox (opAll 0x041A 4) (nodeCmd nodeRestore) e

/-- The short addresses of MESH_ADDR_BULK in order, to the first that fails (R482). -/
def addrBulk : List (Nat × Nat) → Nat → State → Status × Nat × Nat × State
  | [], k, s => (.ok, 0, k, s)
  | (n, short) :: r, k, s =>
    if nodeCount ≤ n then (.badParam, 8 + 2 * k, k, s)
    else if nodeState s n = 0 then (.notFound, 0, k, s)
    else if short ≠ 0xFFFF ∧ takenBy (nodeOfShort s short) n then (.badParam, 8 + 2 * k, k, s)
    else addrBulk r (k + 1) (saveNode n (nodeOf s n) (setShort n short s))

/-- MESH_ADDR_BULK (R482). -/
def nodeAddrBulk (c : Cmd) (s : State) : Answer :=
  let first := fld c.req 0 4
  if nodeCount ≤ first then .bad 0 s
  else
    let (st, d, k, s) := addrBulk ((pieces 2 (fld c.req 4 4) (c.req.drop 8)).zipIdx.map (fun p => (first + p.2, leNat p.1))) 0 s
    .done st (min d 0xFF) (leBytes 4 k ++ zeros 28) s

/-- MESH_ADDR_BULK (R482). -/
def execMeshAddrBulk (e : Entry) : State → Host.Outcome State Fault Refusal :=
  mailbox { code := 0x041C, modes := modesAll, len := fun r => decide (8 ≤ r.length) && r.length == 8 + 2 * fld r 4 4, read := false }
    nodeAddrBulk e

end Sys2Proof.Machine
end

