-- ==== Sys2Proof/Machine/RadioCmd.lean ====
section
/-!
DEFINITION. The mailbox commands of family 0x05, radio (R483, R484; R86 to R88, R100 to R102, R106, R114,
R141), and DIAG_FRAME_CAPTURE with its read (R486).
-/
namespace Sys2Proof.Machine

/-! ### The groups of the sectors -/

/-- RADIO_SECTOR_SET (R87). -/
def execRadioSectorSet (e : Entry) : State → Host.Outcome State Fault Refusal := mailbox (opGset 0x0501) (gset (groupIn 0x0900 0x0907)) e

/-- RADIO_SECTOR_GET (R87). -/
def execRadioSectorGet (e : Entry) : State → Host.Outcome State Fault Refusal :=
  mailbox (opGget 0x0502) (gget (groupIn 0x0900 0x0907) noData) e

/-- RADIO_FRONTEND_SET (R88). -/
def execRadioFrontendSet (e : Entry) : State → Host.Outcome State Fault Refusal := mailbox (opGset 0x0503) (gset (groupIn 0x0910 0x0917)) e

/-- RADIO_FRONTEND_GET (R88). -/
def execRadioFrontendGet (e : Entry) : State → Host.Outcome State Fault Refusal :=
  mailbox (opGget 0x0504) (gget (groupIn 0x0910 0x0917) noData) e

/-- RADIO_RX_SET (R109). -/
def execRadioRxSet (e : Entry) : State → Host.Outcome State Fault Refusal := mailbox (opGset 0x050D) (gset (groupIn 0x0930 0x0937)) e

/-- RADIO_RX_GET (R109). -/
def execRadioRxGet (e : Entry) : State → Host.Outcome State Fault Refusal :=
  mailbox (opGget 0x050E) (gget (groupIn 0x0930 0x0937) noData) e

/-! ### Calibration tables and detectors (R86, R114) -/

/-- The request names a sector and entries below `n`; the offset of the first bad field otherwise. -/
def entrySpanBad (n : Nat) (view : Bool) (r : List Byte) : Option Nat :=
  if 7 < byteAt r 0 then some 0
  else if view ∧ 1 < byteAt r 1 then some 1
  else if n ≤ fld r 2 2 then some 2
  else if n < fld r 2 2 + fld r 4 2 then some 4
  else none

/-- Stage 8-byte entries from offset `head` of the request, each as `clean` leaves it. -/
def stageEntrySpan (q g head : Nat) (clean : Nat → Nat) (r : List Byte) (s : State) : State :=
  ((pieces 8 (fld r 4 2) (r.drop head)).zipIdx (fld r 2 2)).foldl (fun s p => stageField q g 1 p.2 (clean (leNat p.1) : Nat) s) s

/-- The entries that a view of a group holds. -/
def entrySpanBytes (s : State) (g : Nat) (r : List Byte) : List Byte :=
  ((List.range (fld r 4 2)).map (fun i =>
    leBytes 8 ((if byteAt r 1 = 0 then cfgGet s else cfgStaged s) g 1 (fld r 2 2 + i)).toNat)).flatten

/-- A calibration entry without its reserved bits (Table 4.5). -/
def calClean (v : Nat) : Nat := bits v 0 48 + bits v 63 1 * 2 ^ 63

/-- RADIO_CAL_WRITE (R86). -/
def calWrite (c : Cmd) (s : State) : Answer :=
  let k := byteAt c.req 0
  match entrySpanBad 2048 false c.req with
  | some o => .bad o s
  | none => unlocked c (0x0920 + k) (fun s =>
      let s := stageEntrySpan c.queue (0x0920 + k) 8 calClean c.req s
      .ok [] (if bit (byteAt c.req 1) 0 then modRadio (fun r => { r with calPersist := r.calPersist ||| 2 ^ k }) s else s)) s

/-- RADIO_CAL_WRITE (R86). -/
def execRadioCalWrite (e : Entry) : State → Host.Outcome State Fault Refusal :=
  mailbox { code := 0x0505, modes := modesOf (fun r => 0x0920 + byteAt r 0),
            len := fun r => decide (8 ≤ r.length) && r.length == 8 + 8 * fld r 4 2, read := false } calWrite e

/-- RADIO_CAL_READ (R86). -/
def calRead (c : Cmd) (s : State) : Answer :=
  match entrySpanBad 2048 true c.req with
  | some o => .bad o s
  | none => .ok (entrySpanBytes s (0x0920 + byteAt c.req 0) c.req) s

/-- RADIO_CAL_READ (R86). -/
def execRadioCalRead (e : Entry) : State → Host.Outcome State Fault Refusal := mailbox (opRead 0x0506 6) calRead e

/-- RADIO_DETECTOR_SET (R114): an entry's bits above 35 are zero (Table 18.12). -/
def detectorSet (c : Cmd) (s : State) : Answer :=
  let k := byteAt c.req 0
  match entrySpanBad 512 false c.req with
  | some o => .bad o s
  | none => unlocked c (0x0940 + k) (fun s => .ok [] (stageEntrySpan c.queue (0x0940 + k) 6 (fun v => bits v 0 36) c.req s)) s

/-- RADIO_DETECTOR_SET (R114). -/
def execRadioDetectorSet (e : Entry) : State → Host.Outcome State Fault Refusal :=
  mailbox { code := 0x050F, modes := modesOf (fun r => 0x0940 + byteAt r 0),
            len := fun r => decide (6 ≤ r.length) && r.length == 6 + 8 * fld r 4 2, read := false } detectorSet e

/-- RADIO_DETECTOR_GET (R114). -/
def detectorGet (c : Cmd) (s : State) : Answer :=
  match entrySpanBad 512 true c.req with
  | some o => .bad o s
  | none => .ok (entrySpanBytes s (0x0940 + byteAt c.req 0) c.req) s

/-- RADIO_DETECTOR_GET (R114). -/
def execRadioDetectorGet (e : Entry) : State → Host.Outcome State Fault Refusal := mailbox (opRead 0x0510 6) detectorGet e

/-! ### The regulatory record (R100 to R102, R387) -/

/-- The reply of RADIO_REG_READ (R100). -/
def regReadBytes (s : State) : List Byte :=
  let unused := ((List.range 8).filter (fun k => (regSlotOf s k).isNone)).length
  let head := fun (slot : Nat) => leBytes 1 slot ++ leBytes 1 unused ++ leBytes 1 s.radio.regState ++ zeros 5
  match s.radio.regSlot with
  | some k =>
    match (if s.radio.regState = 0 then none else regSlotOf s k) with
    | some x => head k ++ x.bytes ++ x.sig
    | none => head 0xFF
  | none => head 0xFF

/-- RADIO_REG_READ (R100). -/
def execRadioRegRead (e : Entry) : State → Host.Outcome State Fault Refusal := mailbox (opRead 0x0508 0) (fun _ s => .ok (regReadBytes s) s) e

/-- The record of a request, then `extra` bytes (Table 18.12). -/
def regLen (extra : Nat) (r : List Byte) : Bool := decide (9 ≤ r.length) && r.length == recLen r + 96 + extra

/-- The highest REC_SEQ of the committed slots; none where none is committed. -/
def topSeq (s : State) : Option Nat := (topSlot (committedSlots s)).map (fun p => recSeq p.2.bytes)

/-- REC_SEQ exceeds `old` where there is one. -/
def seqExceeds (r : List Byte) (old : Option Nat) : Bool := match old with | some o => decide (o < recSeq r) | none => true

/-- RADIO_REG_WRITE (R101): the token is checked after every other refusal; the read-back of the burn matches
(DESIGN CHOICE, log 43). It takes effect at the next boot (R100). -/
def regWrite (c : Cmd) (s : State) : Answer :=
  let r := c.req.take (recLen c.req)
  if s.mode.lifecycle ≠ .provisioned ∨ s.radio.regLocked then .fail .modeRefused 0 s
  else if !recWellFormed r then .bad 0 s
  else if !seqExceeds r (topSeq s) then .bad 4 s
  else match unusedSlot s with
    | none => .fail .noResource 0 s
    | some k =>
      match checkToken 0x0509 [2] c.req s with
      | (false, s) => .fail .authFail 0 s
      | (true, s) => .ok [] (setRegSlot k (some { bytes := r, sig := slice c.req r.length 96, committed := true }) s)

/-- RADIO_REG_WRITE (R101). -/
def execRadioRegWrite (e : Entry) : State → Host.Outcome State Fault Refusal :=
  mailbox { code := 0x0509, modes := modesCfg, len := regLen 280, read := false } regWrite e

/-- RADIO_REG_UPDATE is a job (R102). -/
def regUpdate (c : Cmd) (s : State) : Answer :=
  if s.mode.lifecycle ≠ .provisioned ∧ s.mode.lifecycle ≠ .deployed then .fail .modeRefused 0 s else startJob c s

/-- RADIO_REG_UPDATE (R102). -/
def execRadioRegUpdate (e : Entry) : State → Host.Outcome State Fault Refusal :=
  mailbox { code := 0x050A, modes := modesCS, len := regLen 97, read := false } regUpdate e

/-- The update's signature verifies under the REG authority (R387). -/
def regSigned (s : State) (req r : List Byte) : Bool :=
  let sig := slice req r.length 96
  let pub := slice req (r.length + 96) 97
  let entry := authority s 2
  entry != unsetAuthority && sha384 pub == entry && ecdsaVerify p384 pub (sha384 r) sig

/-- The checks of R102 in order; where no record is in force, checks 3 and 4 compare with nothing and pass
(DEDUCED, log 43). -/
def regUpdateFault (s : State) (req : List Byte) : Option (Status × Nat) :=
  let r := req.take (recLen req)
  if !recWellFormed r then some (.badParam, 0)
  else if !regSigned s req r then some (.authFail, 0)
  else if !seqExceeds r ((record s).map recSeq) then some (.badParam, 4)
  else if (match record s with | some o => recRegion r != recRegion o | none => false) && !recRegionChange r then some (.authFail, 0)
  else if (unusedSlot s).isNone then some (.noResource, 0)
  else none

/-- REG_UPDATE_DONE: the checks and the burn of a running update end (R102). -/
def regUpdateDone (readBack : Bool) (s : State) : State :=
  match runningJob s 0x050A with
  | none => s
  | some j =>
    match regUpdateFault s j.req with
    | some (st, d) => finishJob j st d [] s
    | none =>
      let r := j.req.take (recLen j.req)
      let s := setRegSlot ((unusedSlot s).getD 0) (some { bytes := r, sig := slice j.req r.length 96, committed := readBack }) s
      if readBack then finishJob j .ok 0 [] s else finishJob j .internal 0 [] s

/-- REG_UPDATE_DONE -/
def execRegUpdateDone (dt : Nat) (readBack : Bool) : State → Host.Outcome State Fault Refusal := event dt (regUpdateDone readBack)

/-! ### Counters and accounts -/

/-- RADIO_TX_COUNTERS_GET (Table 4.12). -/
def execRadioTxCountersGet (e : Entry) : State → Host.Outcome State Fault Refusal :=
  mailbox (opRead 0x050B 8) (fun c s => let r := ctrReq c.req; if r.inst < 8 then ctrTable r .tx r.inst 15 s else .bad 0 s) e

/-- The reply of RADIO_DUTY_STATUS (R106, R379). -/
def dutyBytes (s : State) : List Byte :=
  let l : List (List Byte) := match record s with
    | some r => (dutyKeys r).map (fun p =>
        leBytes 1 p.1 ++ leBytes 1 (if p.2.1 = 15 then 0xFF else p.2.1) ++ leBytes 1 (windowChannel r p.2.2.window) ++ zeros 1
          ++ leBytes 4 (dutyUsed (dutyOf s (p.1 * 16 + p.2.1))) ++ leBytes 4 (dutyLimit p.2.2))
    | none => []
  leBytes 4 s.time.arcReserved.toNat ++ l.flatten

/-- RADIO_DUTY_STATUS (R106). -/
def execRadioDutyStatus (e : Entry) : State → Host.Outcome State Fault Refusal := mailbox (opRead 0x050C 0) (fun _ s => .ok (dutyBytes s) s) e

/-- The instance of a counter of Table 5.8: LDPC_NOCREDIT is kept once for the chip. -/
def rxInst (k n : Nat) : Nat := if n = 9 then 0 else k

/-- RADIO_RX_COUNTERS_GET (Table 5.8): lanes held, then the counters. -/
def rxCounters (c : Cmd) (s : State) : Answer :=
  let r := ctrReq c.req
  if r.inst < 8 then
    ctrAnswer r (List.replicate 16 4) (fun n => ctrGet s .rx (rxInst r.inst n) n) (fun n s => ctrSet .rx (rxInst r.inst n) n 0 s)
      (leBytes 4 (sectorLanes s r.inst).length) s
  else .bad 0 s

/-- RADIO_RX_COUNTERS_GET (Table 5.8). -/
def execRadioRxCountersGet (e : Entry) : State → Host.Outcome State Fault Refusal := mailbox (opRead 0x0511 8) rxCounters e

/-! ### Captures (R141, R484, R486) -/

/-- The modes of R141. -/
def modesIq (s : State) (_ : List Byte) : Bool :=
  [Mode.config, .service, .island, .activeN, .activeC, .standbyN, .standbyC].contains s.mode.mode

/-- A capture is armed or unread. -/
def captureBusy (s : State) : Bool := match s.radio.capture with | some c => decide (c.phase < 3) | none => false

/-- Arm a capture (R141): BUSY, or NO_RESOURCE where the shared part would fall below 32,768 cells. -/
def armCapture (c : Cmd) (frames : Bool) (phase : Nat) (s : State) : Answer :=
  let x : Capture := { frames, req := c.req, job := s.jobs.next, phase, at_ := s.now, items := [] }
  let armed := modRadio (fun r => { r with capture := some x }) s
  if captureBusy s then .fail .busy 0 s
  else if sharedCells armed < 32768 then .fail .noResource 0 s
  else match startJob c armed with
    | .done .accepted d r s => .done .accepted d r s
    | .done st d _ _ => .fail st d s
    | .wait s => .wait s

/-- The first bad field of RADIO_IQ_CAPTURE. -/
def iqBad (r : List Byte) : Option Nat :=
  if 7 < byteAt r 0 then some 0
  else if 1 < byteAt r 1 then some 1
  else if 3 < byteAt r 2 then some 2
  else if 2 < byteAt r 3 then some 3
  else if 2 < byteAt r 6 then some 6
  else if 100 < byteAt r 7 then some 7
  else if fld r 8 4 = 0 ∨ 123361 < fld r 8 4 then some 8
  else if 511 < fld r 12 2 then some 12
  else none

/-- RADIO_IQ_CAPTURE (R141): an immediate trigger occurs with the arming. -/
def iqCapture (c : Cmd) (s : State) : Answer :=
  match iqBad c.req with
  | some o => .bad o s
  | none => armCapture c false (if byteAt c.req 6 = 0 then 1 else 0) s

/-- RADIO_IQ_CAPTURE (R141). -/
def execRadioIqCapture (e : Entry) : State → Host.Outcome State Fault Refusal :=
  mailbox { code := 0x0512, modes := modesIq, len := lenIs 26, read := false } iqCapture e

/-- Read items of a held capture; the read of the last one releases the area (R484). -/
def captureRead (frames : Bool) (first count most : Nat) (s : State) : Answer :=
  match s.radio.capture with
  | some c =>
    let reply := ((c.items.drop first).take count).flatten
    if c.frames != frames || decide (c.phase < 2) || decide (c.items.length < first + count) then .fail .notFound 0 s
    else if count = 0 ∨ most < count ∨ 16384 < reply.length then .bad 4 s
    else
      let done := c.phase = 2 ∧ first + count = c.items.length
      .ok reply (if done then modRadio (fun r => { r with capture := some { c with phase := 3, at_ := s.now } }) s else s)
  | none => .fail .notFound 0 s

/-- RADIO_IQ_READ (R141, R484). -/
def execRadioIqRead (e : Entry) : State → Host.Outcome State Fault Refusal :=
  mailbox { code := 0x0513, modes := modesIq, len := lenIs 8, read := true } (fun c s => captureRead false (fld c.req 0 4) (fld c.req 4 4) 481 s) e

/-- DIAG_FRAME_CAPTURE (R486). -/
def frameCapture (c : Cmd) (s : State) : Answer :=
  let n := fld c.req 4 4
  if 7 < byteAt c.req 0 then .bad 0 s
  else if fld c.req 2 2 = 0 ∨ 4096 < fld c.req 2 2 then .bad 2 s
  else if nodeCount ≤ n ∧ n ≠ 0xFFFFFFFF then .bad 4 s
  else armCapture c true 0 s

/-- DIAG_FRAME_CAPTURE (R486). -/
def execDiagFrameCapture (e : Entry) : State → Host.Outcome State Fault Refusal := mailbox (opAll 0x0A0D 8) frameCapture e

/-- DIAG_FRAME_READ (R484, R486). -/
def execDiagFrameRead (e : Entry) : State → Host.Outcome State Fault Refusal :=
  mailbox (opRead 0x0A0E 6) (fun c s => captureRead true (fld c.req 0 4) (fld c.req 4 2) 4096 s) e

end Sys2Proof.Machine
end

