-- ==== Sys2Proof/Machine/StoreCmd.lean ====
section
/-!
DEFINITION. Meanings of the storage commands and of the events of the drives (R229, R232 to R238, R243
to R256, R260, R261): the array, its members, the journal, the link histories and the image library.
-/
namespace Sys2Proof.Machine

/-! ### The array -/

/-- The groups that STORE_PARAM_SET and STORE_PARAM_GET reach. -/
def isStoreGroup (g : Nat) : Bool := g == 0x0A00

/-- The head of the journal: BLOCK_SEQ of the oldest block. -/
def journalHead (j : JournalState) : Nat := match j.blocks with | b :: _ => b.seq | [] => j.nextSeq

/-- The reply of STORE_STATUS (R229): 48 bytes in the order of the rule (log 15). -/
def storeStatus (s : State) : List Byte :=
  let a := s.store.array
  leBytes 1 a.mode.code ++ leBytes 1 a.present ++ leBytes 1 a.rebuilding ++ zeros 1
    ++ ((List.range 4).map (fun p => leBytes 1 ((positionPort s p).getD 0xFF))).flatten
    ++ leBytes 8 a.arrayId ++ leBytes 4 a.generation ++ leBytes 4 a.chunks ++ leBytes 4 a.rebuildPoint ++ leBytes 4 a.highWater
    ++ leBytes 6 a.histOrigin ++ leBytes 5 (journalHead s.store.journal) ++ leBytes 5 s.store.journal.nextSeq
    ++ leBytes 8 (heldBytes s.store.journal)

/-- A drive may join a new array: usable, and blank or named for erasure (R232). -/
def formatOk (erase : Nat) (s : State) (p : Nat) : Bool :=
  match driveOf s p with
  | some d => (unusable oneTB { d.info with lba4096 := d.info.lba4096 || bit erase p }).isNone && (d.info.label.isNone || bit erase p)
  | none => false

/-- STORE_FORMAT (R232). -/
def storeFormat (c : Cmd) (s : State) : Answer :=
  let ports := byteAt c.req 0
  let erase := byteAt c.req 1
  if arrayUp s then .fail .modeRefused 0 s
  else if 16 ≤ ports ∨ ¬(popCount ports = 3 ∨ popCount ports = 4) ∨ ¬(bitList 4 ports).all (formatOk erase s) then .bad 0 s
  else if 16 ≤ erase then .bad 1 s
  else startJob c s

/-- MEMBER_CHUNKS of a new array: from the smallest member, at most 8 TB each (R226, R232). -/
def chunksFor (caps : List Nat) : Nat :=
  (caps.foldl min (8 * oneTB) - 1048576) / 131072

/-- The drives' contents after a format: every region zero but for the journal, which begins anew (R232). -/
def formatRegions (s : State) : State :=
  let j := s.store.journal
  let s := modStore (fun t =>
    { t with journal := { JournalState.reset with open_ := j.open_, openAt := j.openAt, staging := j.staging, lost := j.lost, x08 := j.x08 },
             ddq := t.ddq.map (fun p => (p.1, { p.2 with spill := [] })), history := [], images := [], savedCal := [], savedDuty := none,
             checkpoint := [], checkpointAt := none, leases := [] }) s
  let s := { s with fw := { s.fw with inForce := FwSet.none, previous := FwSet.none, staged := FwSet.none },
                    compat := { s.compat with saved := none } }
  modInteg (fun i => { i with dumps := [] }) s

/-- Formatting completes and the array is mounted (R232). -/
def formatDone (s : State) : State :=
  match runningJob s 0x0902 with
  | none => s
  | some j =>
    let ports := bitList 4 (byteAt j.req 0)
    let caps := ports.filterMap (fun p => (driveOf s p).map (·.info.capacity))
    let (idBytes, s) := randomBytes 8 s
    let id := leNat idBytes
    let chunks := chunksFor caps
    let members := ports.zipIdx
    let s := formatRegions s
    let s := modArray (fun _ =>
      { mode := if ports.length = 4 then .normal else .degraded, arrayId := id, generation := 0, chunks,
        present := bitMap (members.map (·.2)), rebuilding := 0, rebuildPoint := 0, highWater := 0, histOrigin := nowSec s,
        ports := members.foldl (fun a p => Sparse.set (fun _ => 0) a p.2 (p.1 + 1)) [], rebuild := none }) s
    let s := ports.foldl (fun s p => modDrive p (fun d => { d with info := { d.info with lba4096 := true } }) s) s
    finishJob j .ok 0 (leBytes 4 chunks) (journalMount (writeLabels s))

/-- The modes of STORE_DRIVE_ADD (R235). -/
def modesDriveAdd (s : State) (_ : List Byte) : Bool :=
  oneOf [.config, .service, .activeN, .activeC, .standbyN, .standbyC, .island] s.mode.mode

/-- STORE_DRIVE_ADD (R235): the drive on a port is placed into the absent position. -/
def storeDriveAdd (c : Cmd) (s : State) : Answer :=
  let p := byteAt c.req 0
  let erase := bit (byteAt c.req 1) 0
  if s.store.array.mode ≠ .degraded then .fail .modeRefused 0 s
  else
    match driveOf s p, absentPosition s.store.array with
    | some d, some pos =>
      let info := { d.info with lba4096 := d.info.lba4096 || erase }
      if (portPosition s p).isSome ∨ (d.info.label.isSome ∧ !erase) then .fail .modeRefused 0 s
      else
        match unusable (needFor s.store.array.chunks) info with
        | some why => .fail .noResource 0 (raise 0x0901 (leBytes 1 p ++ leBytes 1 why) s)
        | none =>
          match startJob c s with
          | .done .accepted d' r s =>
            let s := if erase then emit (.nvme p 0x80 0) (modDrive p (fun d => { d with info := { info with label := none } }) s) else s
            .done .accepted d' r (startRebuild pos p (s.jobs.running.getLast?.map (·.handle)) s)
          | a => a
    | _, _ => .bad 0 s

/-- STORE_DRIVE_RETIRE (R237). -/
def storeDriveRetire (c : Cmd) (s : State) : Answer :=
  let pos := byteAt c.req 0
  if 4 ≤ pos then .bad 0 s
  else if s.store.array.mode ≠ .normal then .fail .modeRefused 0 s
  else
    let port := (positionPort s pos).getD 0
    .ok [] (modDrive port (fun d => { d with idled := true }) (dropMember pos s))

/-! ### NVMe events -/

/-- The region of a stripe, as its row of Table 9.3. -/
def regionOf (k : Nat) : Nat :=
  if k < 64 then 1 else if k < 128 then 2 else if k < 1152 then 3 else if k < 3200 then 4 else if k < 3883 then 5
  else if k < 47574 then 6 else if k < journalBase then 7 else 8

/-- A stripe's chunks have redundancy (R234). -/
def redundant (a : ArrayState) (k : Nat) : Bool :=
  match a.mode with
  | .normal => true
  | .rebuilding => decide (k < a.rebuildPoint)
  | .degraded => false
  | .absent => false
  | .failed => false

/-- The journal blocks of a stripe are lost (R234, R252). -/
def loseBlocks (k : Nat) (s : State) : State :=
  let a := s.store.array
  modJournal (fun j => { j with blocks := j.blocks.map (fun b => if (ringStripes a b.pos b.stored).contains k then { b with lost := true } else b) }) s

/-- An unrecovered read error (R234): repaired from the other chunks, or the loss is reported. -/
def readError (p k : Nat) (s : State) : State :=
  if redundant s.store.array k then issueIo p true k true none (ctrInc .store 0 0 s)
  else if regionOf k = 8 then loseBlocks k s
  else raise 0x0907 (leBytes 1 (regionOf k) ++ zeros 3 ++ leBytes 4 k) s

/-- A block is durable once no write of it is outstanding (R248). -/
def settleBlock (seq : Nat) (s : State) : State :=
  if s.store.drives.any (fun p => match p.2 with | some d => d.io.any (fun i => i.block == some seq) | none => false) then s
  else modJournal (fun j => { j with blocks := j.blocks.map (fun b => if b.seq = seq then { b with durable := true } else b) }) s

/-- A write fails: it is retried once, and a second failure fails the member (R233). -/
def writeError (p : Nat) (io : DriveIo) (s : State) : State :=
  if io.retried then failPort p 1 s else issueIo p true io.stripe true io.block s

/-- An I/O command completes: 0 success, 1 an unrecovered read error, 2 another failure (R233, R234). -/
def nvmeComplete (p id status : Nat) (s : State) : State :=
  match (driveOf s p).bind (fun d => d.io.find? (fun i => i.id == id)) with
  | none => s
  | some io =>
    let s := modDrive p (fun d => { d with io := d.io.filter (fun i => i.id != id), resetAt := none }) s
    if status = 0 then
      match io.block with
      | some seq => settleBlock seq s
      | none => s
    else if io.write then writeError p io s
    else readError p io.stripe s

/-- An I/O command not complete in 2 s is aborted; the third timeout within 60 s fails the member (R233). -/
def nvmeTimeout (p id : Nat) (s : State) : State :=
  match (driveOf s p).bind (fun d => d.io.find? (fun i => i.id == id)) with
  | none => s
  | some io =>
    if io.abortAt.isSome ∨ since s io.since < 2 * secTicks then s
    else
      let recent := (((driveOf s p).map (·.timeouts)).getD []).filter (fun t => decide (s.now < t + 60 * secTicks)) ++ [s.now]
      let abort := fun (i : DriveIo) => if i.id = id then { i with abortAt := some s.now } else i
      let s := modDrive p (fun d => { d with timeouts := recent, io := d.io.map abort }) s
      if 3 ≤ recent.length then failPort p 2 s else emit (.nvme p 0x08 io.stripe) s

/-- An abort not done in 1 s more resets the controller (R233). -/
def nvmeAbortTimeout (p id : Nat) (s : State) : State :=
  match (driveOf s p).bind (fun d => d.io.find? (fun i => i.id == id)) with
  | none => s
  | some io =>
    match io.abortAt with
    | none => s
    | some t =>
      if since s t < secTicks then s
      else modDrive p (fun d => { d with resetAt := some s.now, io := d.io.map (fun i => { i with abortAt := none, since := s.now }) }) s

/-- SMART warnings of a drive (R233): read-only media fails the member, reliability degraded is reported. -/
def smartWarn (p : Nat) (readOnly worn : Bool) (s : State) : State :=
  let s := if worn then
      match portPosition s p with
      | some pos => healthAdd (pcieLocus (2 + p)) 0x30 2 (raise 0x0905 (leBytes 1 p ++ leBytes 1 pos) s)
      | none => s
    else s
  if readOnly then failPort p 6 s else s

/-- The 60 s reading of a drive's logs (R238). -/
def smartPoll (p : Nat) (readOnly worn : Bool) (s : State) : State :=
  if s.mode.mode.mailboxes ∧ (driveOf s p).isSome ∧ 60 * secTicks ≤ since s (Sparse.get (fun _ => 0) s.store.smartAt p) then
    smartWarn p readOnly worn (modStore (fun t => { t with smartAt := Sparse.set (fun _ => 0) t.smartAt p s.now }) s)
  else s

/-- A drive link down for more than 1 s: the member fails and the port is empty (R233, R237). -/
def driveLinkTimeout (p : Nat) (s : State) : State := setDrive p none (failPort p 4 s)

/-- A drive appears on a port (R227, R235). -/
def driveInserted (p : Nat) (i : DriveInfo) (s : State) : State :=
  if 4 ≤ p ∨ portFailed s (0x82 + p) ∨ (portPosition s p).isSome then s
  else
    let s := setDrive p (some (Drive.fresh i)) s
    let a := s.store.array
    if s.mode.mode.mailboxes then
      match unusable (if arrayUp s then needFor a.chunks else needOf i) i with
      | some why => raise 0x0901 (leBytes 1 p ++ leBytes 1 why) s
      | none =>
        match absentPosition a with
        | some pos =>
          let fits := match i.label with
            | none => true
            | some l => l.arrayId == a.arrayId && l.position == pos
          if cfgBit s 0x0A00 11 ∧ a.mode = .degraded ∧ fits = true then startRebuild pos p none s else s
        | none => s
    else s

/-! ### Rebuild -/

/-- The rebuild has not written more than REBUILD_RATE allows (R236). -/
def rebuildPaced (s : State) (r : Rebuild) : Bool :=
  decide (r.done * 131072 * secTicks ≤ cfgNat s 0x0A00 10 0 * 1000000 * (since s r.since + 1))

/-- The next stripe is rebuilt, the labels at every 65,536 of them (R228, R236). -/
def rebuildNext (r : Rebuild) (port : Nat) (s : State) : State :=
  let s := modArray (fun a => { a with rebuildPoint := r.next + 1, rebuild := some { r with next := r.next + 1, done := r.done + 1 } }) s
  let s := issueIo port true r.next false none s
  if (r.next + 1) % 65536 = 0 then writeLabels s else s

/-- The next stripe not written since is zeroed (R236). -/
def zeroNextStripe (r : Rebuild) (port : Nat) (s : State) : State :=
  let s := modArray (fun a => { a with rebuild := some { r with zeroNext := r.zeroNext + 1 } }) s
  if r.written.contains r.zeroNext then s else emit (.nvme port 0x08 r.zeroNext) s

/-- REBUILD_STRIPE: one stripe of the rebuild (R236). -/
def rebuildStripe (s : State) : State :=
  match s.store.array.rebuild with
  | none => s
  | some r =>
    let port := (positionPort s r.position).getD 0
    if r.next < r.highWater then (if rebuildPaced s r then rebuildNext r port s else s)
    else if r.zeroNext < s.store.array.chunks then zeroNextStripe r port s
    else s

/-- REBUILD_COMPLETE: rebuild and zeroing are done (R236). -/
def rebuildComplete (s : State) : State :=
  match s.store.array.rebuild with
  | none => s
  | some r =>
    if r.next < r.highWater ∨ r.zeroNext < s.store.array.chunks then s
    else
      let s := modArray (fun a => { a with rebuilding := 0, rebuild := none }) s
      let s := writeLabels (setArrayMode .normal s)
      let s := raise 0x0908 (leBytes 1 r.position ++ zeros 3 ++ leBytes 4 r.highWater) s
      match r.job.bind (fun h => s.jobs.running.find? (fun j => j.handle == h)) with
      | some j => finishJob j .ok 0 (leBytes 1 r.position) s
      | none => s

/-! ### The journal -/

/-- JOURNAL_RECORD: the oldest record on X08 is added to the open block (R243). -/
def journalRecord (s : State) : State :=
  if journalRuns s then
    match s.store.journal.x08 with
    | r :: rest => journalAdd r (modJournal (fun j => { j with x08 := rest }) s)
    | [] => s
  else s

/-- The time after which an open block is closed, in ticks (R248). -/
def flushTicks (s : State) : Nat :=
  let ms := cfgNat s 0x0A00 6 0
  (if s.mode.mode = .quiescent then max ms 10000 else ms) * msTicks

/-- JOURNAL_BLOCK_CLOSE: the open block is closed on its time (R248). -/
def journalBlockClose (s : State) : State :=
  if s.store.journal.open_.isEmpty ∨ since s s.store.journal.openAt < flushTicks s then s else closeBlock s

/-- The records of a block as STORE_JOURNAL_READ gives them: a lost block reads as one MARK (R252). -/
def readRecords (b : JBlock) : List (List Byte) :=
  if b.lost then
    match b.recs with
    | r :: _ => [({ type := 4, seconds := r.seconds, nanos := r.nanos, body := leBytes 4 3 ++ leBytes 4 b.recs.length } : JRec).bytes]
    | [] => []
  else b.recs.map JRec.bytes

/-- The blocks that STORE_JOURNAL_READ reads: those on the drives. -/
def readBlocks (j : JournalState) : List JBlock := j.blocks.filter (·.durable)

/-- The time of a block's first record, in ns. -/
def blockTime (b : JBlock) : Nat := match b.recs with | r :: _ => r.seconds * 1000000000 + r.nanos | [] => 0

/-- Bytes of data that fit a reply beside its 16-byte position (R252). -/
def readRoom : Nat := 16384 - 16

/-- Records from block `b` and index `idx` on, as many as fit: the data and the next position. -/
def gatherRecords : List JBlock → Nat → Nat → Nat → List Byte × (Nat × Nat)
  | [], _, _, end_ => ([], (end_, 0))
  | b :: rest, idx, room, end_ =>
    let avail := (readRecords b).drop idx
    let (out, n) := avail.foldl (fun (p : List Byte × Nat × Bool) r =>
      if p.2.2 ∧ p.1.length + r.length ≤ room then (p.1 ++ r, p.2.1 + 1, true) else (p.1, p.2.1, false)) (([] : List Byte), 0, true)
      |> fun p => (p.1, p.2.1)
    if n < avail.length then (out, (b.seq, idx + n))
    else
      let (more, next) := gatherRecords rest 0 (room - out.length) end_
      (out ++ more, next)

/-- Whole stored blocks, as many as fit; a block longer than a reply is read in pieces that the index counts (log 16). -/
def gatherBlocks : List JBlock → Nat → Nat → Nat → List Byte × (Nat × Nat)
  | [], _, _, end_ => ([], (end_, 0))
  | b :: rest, idx, room, end_ =>
    let bytes := if b.lost then (readRecords b).flatten else blockBytes b
    if idx = 0 ∧ bytes.length ≤ room then
      let (more, next) := gatherBlocks rest 0 (room - bytes.length) end_
      (bytes ++ more, next)
    else if readRoom < bytes.length ∧ room = readRoom then
      let piece := slice bytes (idx * readRoom) readRoom
      if bytes.length ≤ (idx + 1) * readRoom then (piece, (match rest with | n :: _ => n.seq | [] => end_, 0))
      else (piece, (b.seq, idx + 1))
    else ([], (b.seq, idx))

/-- The start of a journal read: the blocks from there and the index in the first; none where it names nothing. -/
def readStart (req : List Byte) (s : State) : Option (List JBlock × Nat) :=
  let bs := readBlocks s.store.journal
  if byteAt req 1 = 0 then
    let v := fld req 8 8
    let seq := bits v 0 40
    let idx := bits v 40 12
    match bs.dropWhile (fun b => b.seq != seq) with
    | b :: rest => some (b :: rest, idx)
    | [] => if seq = s.store.journal.nextSeq ∧ idx = 0 then some ([], 0) else none
  else
    let t := fld req 12 6 * 1000000000 + fld req 8 4
    some (bs.dropWhile (fun b => decide (blockTime b < t)), 0)

/-- STORE_JOURNAL_READ (R252). -/
def storeJournalRead (c : Cmd) (s : State) : Answer :=
  if 1 < byteAt c.req 0 then .bad 0 s
  else if 1 < byteAt c.req 1 then .bad 1 s
  else
    match readStart c.req s with
    | none => .fail .notFound 0 s
    | some (bs, idx) =>
      let end_ := match (readBlocks s.store.journal).getLast? with | some b => b.seq + 1 | none => s.store.journal.nextSeq
      let (data, next) := if byteAt c.req 0 = 0 then gatherBlocks bs idx readRoom end_ else gatherRecords bs idx readRoom end_
      .ok (leBytes 8 (next.1 % 2 ^ 40 + next.2 * 2 ^ 40) ++ zeros 8 ++ data) s

/-- STORE_HISTORY_READ: a node's ring, oldest entry first (R255). -/
def storeHistoryRead (c : Cmd) (s : State) : Answer :=
  let n := fld c.req 0 4
  if 262144 ≤ n then .fail .notFound 0 s
  else
    let l := Sparse.get (fun _ => []) s.store.history n
    .ok (padTo 1024 (l.map (leBytes 8)).flatten) s

/-! ### The image library (R256) -/

/-- An image slot. -/
def imageOf (s : State) (k : Nat) : ImageSlot := Sparse.get (fun _ => ImageSlot.reset) s.store.images k

/-- Write an image slot. -/
def setImage (k : Nat) (x : ImageSlot) (s : State) : State :=
  modStore (fun t => { t with images := Sparse.set (fun _ => ImageSlot.reset) t.images k x }) s

/-- The bytes of an image. -/
def imageBytes (x : ImageSlot) : List Byte := (List.range x.length).map (Sparse.get (fun _ => 0) x.bytes)

/-- A piece whose data is given is written; LAST = 1 completes the image (R256). -/
def imagePiece (k off : Nat) (last : Bool) (data : List Byte) (x : ImageSlot) (s : State) : Answer :=
  if x.length < off + data.length then .bad 4 s
  else
    let x := { x with bytes := Sparse.setRun (fun _ => 0) x.bytes off data }
    let s := writeStripe (regionStripe 47574 (k * 67108864 + off)) none s
    if last then
      if sha256 (imageBytes x) = x.digest then .ok [] (setImage k { x with mode := .ready } s)
      else .fail .authFail 0 (setImage k ImageSlot.reset s)
    else .ok [] (setImage k x s)

/-- STORE_IMAGE_PUT (R256, log 15): 0 slot, 1 [0] FIRST [1] LAST, 4-7 offset; the first piece then gives
8-9 IMAGE_ID, 10-11 BLOCK_LEN, 12-15 LENGTH, 16-47 the digest; the data follows. -/
def storeImagePut (c : Cmd) (s : State) : Answer :=
  let k := byteAt c.req 0
  let first := bit (byteAt c.req 1) 0
  let last := bit (byteAt c.req 1) 1
  let off := fld c.req 4 4
  let x := imageOf s k
  if !arrayUp s then .fail .noResource 0 s
  else if first then
    if x.mode = .ready then .fail .busy 0 s
    else if fld c.req 10 2 < 64 ∨ 1536 < fld c.req 10 2 then .bad 10 s
    else if fld c.req 12 4 = 0 ∨ 67108864 < fld c.req 12 4 then .bad 12 s
    else imagePiece k off last (c.req.drop 48)
      { mode := .loading, imageId := fld c.req 8 2, length := fld c.req 12 4, blockLen := fld c.req 10 2, digest := slice c.req 16 32, bytes := [] } s
  else if x.mode ≠ .loading then .fail .notFound 0 s
  else imagePiece k off last (c.req.drop 8) x s

/-- The length rule of STORE_IMAGE_PUT. -/
def imagePutLen (r : List Byte) : Bool := decide ((if bit (byteAt r 1) 0 then 48 else 8) ≤ r.length)

/-- ImageMode codes of STORE_IMAGE_LIST. -/
def ImageMode.code : ImageMode → Nat
  | .free => 0 | .loading => 1 | .ready => 2

/-- STORE_IMAGE_LIST: 16 bytes per slot: state, IMAGE_ID, LENGTH, BLOCK_LEN (R256, log 15). -/
def imageListBytes (s : State) : List Byte :=
  ((List.range 256).map (fun k =>
    let x := imageOf s k
    leBytes 1 x.mode.code ++ zeros 1 ++ leBytes 2 x.imageId ++ leBytes 4 x.length ++ leBytes 2 x.blockLen ++ zeros 6)).flatten

/-- A campaign uses an image slot. -/
def campaignUses (s : State) (k : Nat) : Bool :=
  s.store.campaigns.any (fun p => match p.2 with | some c => c.slot == k | none => false)

/-- STORE_IMAGE_DELETE (R256). -/
def storeImageDelete (c : Cmd) (s : State) : Answer :=
  let k := byteAt c.req 0
  if (imageOf s k).mode = .free then .fail .notFound 0 s
  else if campaignUses s k then .fail .busy 0 s
  else .ok [] (setImage k ImageSlot.reset s)

/-! ### Meanings of the rows -/

def execStoreStatus (e : Entry) (s : State) : Host.Outcome State Fault Refusal :=
  mailbox (opRead 0x0901 0) (fun _ s => .ok (storeStatus s) s) e s

def execStoreFormat (e : Entry) (s : State) : Host.Outcome State Fault Refusal :=
  mailbox { code := 0x0902, modes := modesCfg, len := lenIs 2, read := false } storeFormat e s

def execStoreDriveAdd (e : Entry) (s : State) : Host.Outcome State Fault Refusal :=
  mailbox { code := 0x0903, modes := modesDriveAdd, len := lenIs 2, read := false } storeDriveAdd e s

def execStoreDriveRetire (e : Entry) (s : State) : Host.Outcome State Fault Refusal :=
  mailbox (opAll 0x0904 1) storeDriveRetire e s

def execStoreParamSet (e : Entry) (s : State) : Host.Outcome State Fault Refusal :=
  mailbox (opGset 0x0905) (gset isStoreGroup) e s

def execStoreParamGet (e : Entry) (s : State) : Host.Outcome State Fault Refusal :=
  mailbox (opGget 0x0906) (gget isStoreGroup noData) e s

def execStoreImagePut (e : Entry) (s : State) : Host.Outcome State Fault Refusal :=
  mailbox { code := 0x0910, modes := modesAll, len := imagePutLen, read := false } storeImagePut e s

def execStoreImageList (e : Entry) (s : State) : Host.Outcome State Fault Refusal :=
  mailbox (opRead 0x0911 0) (fun _ s => .ok (imageListBytes s) s) e s

def execStoreImageDelete (e : Entry) (s : State) : Host.Outcome State Fault Refusal :=
  mailbox (opAll 0x0912 1) storeImageDelete e s

def execStoreJournalRead (e : Entry) (s : State) : Host.Outcome State Fault Refusal :=
  mailbox (opRead 0x0920 18) storeJournalRead e s

def execStoreHistoryRead (e : Entry) (s : State) : Host.Outcome State Fault Refusal :=
  mailbox (opRead 0x0921 4) storeHistoryRead e s

def execStoreCountersGet (e : Entry) (s : State) : Host.Outcome State Fault Refusal :=
  mailbox (opRead 0x0930 8)
    (fun c s => let r := ctrReq c.req; if r.inst = 0xFFFF then ctrTable r .store 0 9 s else .bad 0 s) e s

def execNvmeCommandComplete (dt port id status : Nat) (s : State) : Host.Outcome State Fault Refusal :=
  event dt (nvmeComplete port id status) s

def execNvmeIoTimeout (dt port id : Nat) (s : State) : Host.Outcome State Fault Refusal := event dt (nvmeTimeout port id) s

def execNvmeAbortTimeout (dt port id : Nat) (s : State) : Host.Outcome State Fault Refusal := event dt (nvmeAbortTimeout port id) s

def execDriveLinkTimeout (dt port : Nat) (s : State) : Host.Outcome State Fault Refusal := event dt (driveLinkTimeout port) s

def execDriveInserted (dt port : Nat) (info : DriveInfo) (s : State) : Host.Outcome State Fault Refusal :=
  event dt (driveInserted port info) s

def execSmartPoll (dt port : Nat) (readOnly worn : Bool) (s : State) : Host.Outcome State Fault Refusal :=
  event dt (smartPoll port readOnly worn) s

def execNvmeAsyncEvent (dt port : Nat) (readOnly worn : Bool) (s : State) : Host.Outcome State Fault Refusal :=
  event dt (smartWarn port readOnly worn) s

def execControllerReadyTimeout (dt port : Nat) (s : State) : Host.Outcome State Fault Refusal :=
  event dt (fun s => if ((driveOf s port).bind (·.resetAt)).isSome then failPort port 5 s else s) s

def execControllerFatalStatus (dt port : Nat) (s : State) : Host.Outcome State Fault Refusal := event dt (failPort port 3) s

def execRebuildStripe (dt : Nat) (s : State) : Host.Outcome State Fault Refusal := event dt rebuildStripe s

def execRebuildComplete (dt : Nat) (s : State) : Host.Outcome State Fault Refusal := event dt rebuildComplete s

def execStoreFormatDone (dt : Nat) (s : State) : Host.Outcome State Fault Refusal := event dt formatDone s

def execJournalRecord (dt : Nat) (s : State) : Host.Outcome State Fault Refusal := event dt journalRecord s

def execJournalBlockClose (dt : Nat) (s : State) : Host.Outcome State Fault Refusal := event dt journalBlockClose s

end Sys2Proof.Machine
end

