-- ==== Sys2Proof/Machine/CampaignCmd.lean ====
section
/-!
DEFINITION. The mailbox commands over the deferred-delivery queues (R239, R486) and the campaigns (R257).
-/
namespace Sys2Proof.Machine

/-- STORE_DDQ_GET (Table 18.14; layout DESIGN CHOICE, log 44): frames and bytes on chip, frames and bytes
spilled, and the age of the head in s. -/
def ddqGet (n : Nat) (_ : Cmd) (s : State) : Answer :=
  let d := ddqOf s n
  let age := match (ddqFrames d).head? with | some f => since s f.at_ / secTicks | none => 0
  .ok (leBytes 2 d.chip.length ++ leBytes 4 (ddqBytes d.chip) ++ leBytes 2 d.spill.length ++ leBytes 4 (ddqBytes d.spill) ++ leBytes 4 age) s

/-- STORE_DDQ_GET (R239). -/
def execStoreDdqGet (e : Entry) : State → Host.Outcome State Fault Refusal := mailbox (opRead 0x0907 4) (nodeCmd ddqGet) e

/-- STORE_DDQ_FLUSH (R239): the frames discarded. -/
def ddqFlush (n : Nat) (_ : Cmd) (s : State) : Answer :=
  let (k, s) := discardDdq n s
  .ok (leBytes 4 k) s

/-- STORE_DDQ_FLUSH (R239). -/
def execStoreDdqFlush (e : Entry) : State → Host.Outcome State Fault Refusal := mailbox (opAll 0x0908 4) (nodeCmd ddqFlush) e

/-- The PHY, option and MCS of a campaign exist (Tables 5.4, 5.10, 6.2). -/
def phyOk (phy option mcs : Nat) : Bool :=
  match phy with
  | 0 => decide (option ≤ 5) && decide (mcs ≤ 1)
  | 1 => decide (1 ≤ option) && decide (option ≤ 4) && ofdmMcsOk option mcs
  | 2 => decide (1 ≤ option) && decide (option ≤ 4) && (gxPermitted option).contains mcs
  | _ => false

/-- The member list of STORE_CAMPAIGN_START. -/
def campaignNodes (r : List Byte) : List Nat := (pieces 4 (fld r 8 2) (r.drop 12)).map leNat

/-- STORE_CAMPAIGN_START (R257; layout DESIGN CHOICE, log 44). -/
def campaignStart (c : Cmd) (s : State) : Answer :=
  let r := c.req
  let all := bit (byteAt r 5) 0
  let x := imageOf s (byteAt r 0)
  if x.mode ≠ .ready then .fail .notFound 0 s
  else if !phyOk (byteAt r 1) (byteAt r 2) (byteAt r 3) then .bad 1 s
  else if byteAt r 4 = 0 then .bad 4 s
  else if 63 < fld r 6 2 then .bad 6 s
  else if !all ∧ fld r 8 2 = 0 then .bad 8 s
  else match (campaignNodes r).findIdx? (fun n => decide (nodeCount ≤ n)) with
    | some i => .bad (12 + 4 * i) s
    | none =>
      match (List.range 4).find? (fun k => (campaignOf s k).isNone) with
      | none => .fail .busy 0 s
      | some k =>
        let y : Campaign :=
          { slot := byteAt r 0, imageId := x.imageId, blockCount := (x.length + x.blockLen - 1) / x.blockLen,
            members := if all then none else some (campaignNodes r), slotframe := fld r 6 2, phy := byteAt r 1, option := byteAt r 2,
            mcs := byteAt r 3, maxPasses := byteAt r 4, pass := 1, nextBlock := 0, plan := none, progress := [] }
        .ok (leBytes 4 k) (setCampaign k (some y) s)

/-- STORE_CAMPAIGN_START (R257). -/
def execStoreCampaignStart (e : Entry) : State → Host.Outcome State Fault Refusal :=
  mailbox { code := 0x0913, modes := modesAll, len := fun r => decide (12 ≤ r.length) && r.length == 12 + 4 * fld r 8 2, read := false }
    campaignStart e

/-- STORE_CAMPAIGN_STATUS (R257): pass, and members complete, incomplete and never reporting. -/
def campaignStatus (c : Cmd) (s : State) : Answer :=
  match campaignOf s (byteAt c.req 0) with
  | some k =>
    let t := campaignTally s k
    .ok (leBytes 4 k.pass ++ leBytes 4 t.1 ++ leBytes 4 t.2.1 ++ leBytes 4 t.2.2) s
  | none => .fail .notFound 0 s

/-- STORE_CAMPAIGN_STATUS (R257). -/
def execStoreCampaignStatus (e : Entry) : State → Host.Outcome State Fault Refusal := mailbox (opRead 0x0914 1) campaignStatus e

/-- STORE_CAMPAIGN_STOP (R257). -/
def campaignStop (c : Cmd) (s : State) : Answer :=
  match campaignOf s (byteAt c.req 0) with
  | some _ => .ok [] (endCampaign (byteAt c.req 0) 3 s)
  | none => .fail .notFound 0 s

/-- STORE_CAMPAIGN_STOP (R257). -/
def execStoreCampaignStop (e : Entry) : State → Host.Outcome State Fault Refusal := mailbox (opAll 0x0915 1) campaignStop e

end Sys2Proof.Machine
end

