-- ==== Sys2Proof/Machine/Takeover.lean ====
section
/-!
DEFINITION. The lease of a twin pair (R422), the preconditions of transitions 8 to 10 (R432), takeover on lease
expiry (R433) and planned handover (R435).
-/
namespace Sys2Proof.Machine

/-! ### The twin as its HELLOs describe it -/

/-- The mode that HELLO announces: that of the datapath, and once a transition between twins has begun its target. -/
def announced (s : State) : Mode :=
  match s.mode.trans with
  | some t => if t.row = 8 ∨ t.row = 9 ∨ t.row = 10 then t.toMode else datapath s
  | none => datapath s

/-- The mode that a code names, as far as HELLO tells it apart. -/
def servingCode (c : Nat) : Bool := [Mode.activeN, .activeC, .island, .quiescent].any (fun m => m.code == c)

/-- A code of a standby mode. -/
def standbyCode (c : Nat) : Bool := [Mode.standbyN, .standbyC].any (fun m => m.code == c)

/-- The family of a mode code: 1 N, 2 C, 0 neither. QUIESCENT and ISLAND are entered from ACTIVE_N only (Table 2.5). -/
def familyOf (c : Nat) : Nat :=
  if [Mode.activeN, .standbyN, .island, .quiescent].any (fun m => m.code == c) then 1
  else if [Mode.activeC, .standbyC].any (fun m => m.code == c) then 2 else 0

/-- The twin as its HELLOs describe it. -/
def twinMember (s : State) : Member := memberOf s (twinId s)

/-- Insert into a rising list. -/
def insertRising (x : Int) : List Int → List Int
  | [] => [x]
  | y :: r => if x ≤ y then x :: y :: r else y :: insertRising x r

/-- The median of the last offsets of a member, in 2^-16 ns (R421); 0 before the first. -/
def median (l : List Int) : Int :=
  let a := l.foldr insertRising []
  let n := a.length
  if n = 0 then 0 else if n % 2 = 1 then a.getD (n / 2) 0 else (a.getD (n / 2 - 1) 0 + a.getD (n / 2) 0) / 2

/-- θ of a member. -/
def theta (s : State) (m : Nat) : Int := median (memberOf s m).offsets

/-- A precondition of transition 8 (Table 16.6), as the chip that takes over sees it. -/
def precondition (s : State) (n : Nat) : Bool :=
  let m := twinMember s
  match n with
  | 1 => s.chord.twin.synced
  | 2 => decide (s.cfg.epoch.toNat = m.epoch)
  | 3 => !compatFar s m.compat
  | 4 => s.chord.twin.ownHealthy
  | 6 => familyOf m.mode != 0 && familyOf m.mode == familyOf (datapath s).code
  | _ => true

/-- The first precondition of 1 to 4 and 6 that fails. -/
def failing (s : State) : Option Nat := [1, 2, 3, 4, 6].find? (fun n => !precondition s n)

/-- The same preconditions of a standby twin as its active twin sees them (Table 16.6, transition 9). -/
def standbyMeets (s : State) : Bool :=
  let m := twinMember s
  s.chord.twin.synced && decide (s.cfg.epoch.toNat = m.epoch) && !compatFar s m.compat && s.chord.twin.healthOk
    && standbyCode m.mode && familyOf m.mode == familyOf (datapath s).code

/-! ### The lease (R422) -/

/-- The chip claims the lease: one more than the highest generation held or seen. -/
def claimLease (s : State) : State :=
  modTwin (fun t =>
    { t with genHigh := t.genHigh + 1, gen := t.genHigh + 1, held := true, renewal := 0, ackAt := some s.now, leaseAt := none, blocked := none,
             peerLost := false, isolatedUntil := none, synced := false, split := false, resync := none, leaseSentAt := s.now }) s

/-- The chip no longer holds the lease, and what belonged to it ends. -/
def dropLease (s : State) : State :=
  modTwin (fun t => { t with held := false, isolatedUntil := none, peerLost := false, waits := [], backfillTo := none, ackAt := none }) s

/-- A generation is seen (R422). -/
def seeGen (g : Nat) (s : State) : State :=
  modTwin (fun t => if t.genHigh.toNat < g then { t with genHigh := BitVec.ofNat 32 g } else t) s

/-- The self-test step in progress is abandoned and its unit restored; it counts as passed (R453). -/
def abandonStep (s : State) : State := modInteg (fun i => { i with stepUnit := none }) s

/-! ### Takeover (R433) -/

/-- The received frame that a FRAME record keeps (R247): node and frame. -/
def frameOfRecord (l : List Byte) : Nat × RxFrame :=
  let b := l.drop 16
  let w := fld b 0 20
  let t := fld l 4 6 * 1000000000 + fld l 10 4
  (bits w 0 18,
   { psdu := b.drop 20, phy := bits w 22 2, option := bits w 24 4, mcs := bits w 28 3, fcs32 := bit w 31, dw := bit w 32, qsuspect := bit w 33,
     settleBody := bit w 34, aerialB := bit w 21, skipped := false, holdover := bit w 35, node := some (bits w 0 18), sector := bits w 18 3, layer := 0,
     channel := 0, centre := bits w 80 32, rssi := toSigned 16 (bits w 48 16), rssiAlt := 0, noise := 0, evm := bits w 64 8, snr := toSigned 8 (bits w 72 8),
     lqi := 0, detector := 0, lane := 0, start := t, duration := bits w 112 32, fcs := 0, fbReq := false })

/-- A confirmed record is delivered again to X06 (R433). -/
def redeliver (s : State) (l : List Byte) : State :=
  let (n, f) := frameOfRecord l
  let r := nodeOf s n
  let body := psduBody f.fcs32 f.psdu
  let h := mhrOf body
  let s := ctrInc .chip 0 3 s
  match findSlot s r (nodeKeyOf s r.eui.toNat h.keyIdx) body h (slotCandidates s r.drift (likelySlot s n r.drift (startMesh s f))) with
  | some (_, plain) => (deliverUp n f h plain s).1
  | none => s

/-- The records confirmed in the REDELIVER_WINDOW before the last message of the old active twin, in journal order. -/
def redeliverable (s : State) : List (List Byte) :=
  let last := (twinMember s).heardAt
  ((s.chord.twin.confirmed.filter (fun p => decide (last ≤ p.1 + cfgNat s 0x0B00 9 0 * msTicks))).map (·.2)).reverse

/-- A drain of held records goes on after the last RELEASE record (R254). -/
def resumeDrain (s : State) : State :=
  let j := s.store.journal
  if j.released ≠ 0 ∧ !(heldRecords j).isEmpty then modJournal (fun j => { j with drain := some (s.now, 0), sinceRelease := 0 }) s else s

/-- A standby begins to serve: transition 8 or 10 (Table 2.5). -/
def startServing (trigger : Nat) (cmd : Option Cmd) (s : State) : State :=
  if s.mode.mode = .standbyC then startTransition 10 .activeC trigger none cmd (abandonStep s)
  else startTransition 8 .activeN trigger none cmd (abandonStep s)

/-- Takeover on lease expiry (R433): the steps of the rule in order, then the transition. -/
def takeOver (trigger : Nat) (cmd : Option Cmd) (s : State) : State :=
  let old := s.chord.twin.gen
  let m := twinMember s
  let th := if s.time.mer.peerDisagrees then Sparse.get (fun _ => 0) s.chord.keptTheta (twinId s) else theta s (twinId s)
  let again := redeliverable s
  let s := setMeshShift (m.meshShift - th) (claimLease s)
  let s := (s.mesh.nodes.map (·.1)).foldl (fun s n => leaseStep n s) s
  let s := again.foldl redeliver s
  let s := resumeDrain (journalMark 5 0 s)
  let s := [0, 1, 2, 3].foldl (fun s c => endCampaign c 4 s) s
  let s := raise 0x080A (zeros 4 ++ leBytes 4 old.toNat ++ leBytes 4 s.chord.twin.gen.toNat ++ leBytes 4 again.length) (ctrInc .chip 0 4 s)
  startServing trigger cmd s

/-- The lease has expired at this standby, with the guard of 100 µs (R422). -/
def leaseExpired (s : State) : Bool :=
  match s.chord.twin.leaseAt with
  | some t => decide (1100 * usTicks ≤ since s t)
  | none => false

/-- LEASE_EXPIRY: the standby takes over where it is eligible, and else reports the precondition that fails; it is
evaluated again whenever that may have changed (R422, R432). -/
def leaseExpiry (s : State) : State :=
  if twinEnabled s ∧ [Mode.standbyN, .standbyC].contains s.mode.mode ∧ leaseExpired s ∧ outranks s 0x07 then
    match failing s with
    | none => takeOver 0x07 none s
    | some n =>
      if s.chord.twin.blocked = some n then s
      else raise 0x0806 (leBytes 1 n) (modTwin (fun t => { t with blocked := some n }) s)
  else s

/-- LEASE_EXPIRY -/
def execLeaseExpiry (dt : Nat) : State → Host.Outcome State Fault Refusal := event dt leaseExpiry

/-! ### The wait of R424 -/

/-- The transition that waits under R424. -/
def startingUp (s : State) : Bool := s.chord.twin.startupAt.isSome

/-- The chip claims the lease and goes on. -/
def startupClaim (s : State) : State := claimLease (modTwin (fun t => { t with startupAt := none }) s)

/-- The twin holds a valid lease: the transition goes on to the standby mode of the same family, and the command
completes with MODE_PREEMPTED (R424). -/
def startupYield (s : State) : State :=
  let s := modTwin (fun t => { t with startupAt := none }) s
  match s.mode.trans with
  | some t =>
    let s := preempt 0x07 t s
    let target := if t.toMode = .activeC then Mode.standbyC else .standbyN
    { s with mode := { s.mode with trans := some { t with toMode := target, trigger := 0x07, cmd := none } } }
  | none => s

/-- A HELLO of the twin has been received on a twin link (R424). -/
def startupHello (s : State) : State :=
  if startingUp s then (if servingCode (twinMember s).mode then startupYield s else startupClaim s) else s

/-- TWIN_STARTUP_WAIT: 10 ms have passed with no twin link up (R424). -/
def startupWait (s : State) : State :=
  match s.chord.twin.startupAt with
  | some t => if (twinLinks s).isEmpty ∧ 10 * msTicks ≤ since s t then startupClaim s else s
  | none => s

/-- TWIN_STARTUP_WAIT -/
def execTwinStartupWait (dt : Nat) : State → Host.Outcome State Fault Refusal := event dt startupWait

/-! ### Planned handover (R435) -/

/-- The first slot that begins at least `us` microseconds from now (R435, R509). -/
def slotAfter (us : Nat) (s : State) : Nat :=
  let t := meshTime s + us * usUnits
  let a := slotAt s t
  (if slotStart s a.toNat = t then a else a + 1).toNat

/-- Both chips take H (R435): this chip decides and tells its twin (log 45). -/
def beginHandover (outgoing : Bool) (trigger : Nat) (s : State) : State :=
  let a := slotAfter 5000 s
  let s := modTwin (fun t => { t with handover := some { slot := a, outgoing, trigger, offer := none, done := false } }) (abandonStep s)
  chordSend 0x04 (twinId s) 0 (leBytes 4 0 ++ leBytes 5 a ++ leBytes 3 trigger) s

/-- The instant H has come. -/
def handoverDue (s : State) (h : Handover) : Bool := decide (slotStart s h.slot ≤ meshTime s)

/-- The streams of replication to the twin, summed: the number of messages up to which they must be applied (log 45). -/
def streamSum (l : Sparse Nat) (dst : Nat) : Nat :=
  (l.filter (fun p => replicationClass (p.1 / 2048 / 32) && decide (p.1 / 2048 / 32 ≠ 0x61) && decide (p.1 / 2048 % 32 = dst))).foldl (fun a p => a + p.2) 0 % 2 ^ 32

/-- HANDOVER_INSTANT: at H the old active twin sends HANDOFF and stops renewing; it is SYNCED at once (R435). -/
def handoverInstant (s : State) : State :=
  match s.chord.twin.handover with
  | some h =>
    if h.outgoing ∧ !h.done ∧ handoverDue s h ∧ s.chord.twin.held then
      let body := leBytes 4 1 ++ leBytes 4 (s.chord.twin.gen + 1).toNat ++ leBytes 4 (streamSum s.chord.twin.txSeq (twinId s))
      let s := chordSend 0x04 (twinId s) 0 body s
      let s := modTwin (fun t => { t with held := false, synced := true, handover := some { h with done := true }, waits := [], backfillTo := none,
                                          isolatedUntil := none, peerLost := false, leaseAt := some s.now }) (ctrInc .chip 0 5 s)
      if s.mode.trans.isSome then s
      else if datapath s = .activeC then startTransition 10 .standbyC h.trigger none none s
      else startTransition 9 .standbyN h.trigger none none s
    else s
  | none => s

/-- HANDOVER_INSTANT -/
def execHandoverInstant (dt : Nat) : State → Host.Outcome State Fault Refusal := event dt handoverInstant

/-- The streams received, each less the one by which its number is stored. -/
def receivedSum (s : State) : Nat :=
  streamSum (s.chord.twin.rxSeq.map (fun p => (p.1, p.2 - 1))) (memberId s)

/-- The new active twin holds the lease once every stream has been applied (R435). -/
def takeHandoff (s : State) : State :=
  match s.chord.twin.handover with
  | some h =>
    match h.offer with
    | some (g, sum) =>
      if !h.done ∧ receivedSum s = sum ∧ outranks s 0x07 ∨ (!h.done ∧ receivedSum s = sum ∧ s.mode.trans.any (fun t => t.row == 8 || t.row == 10)) then
        let s := seeGen g (modTwin (fun t => { t with gen := BitVec.ofNat 32 g, held := true, renewal := 0, ackAt := some s.now, leaseAt := none, blocked := none,
                                                      peerLost := false, resync := none, leaseSentAt := s.now, synced := true, handover := some { h with done := true } }) s)
        let s := ctrInc .chip 0 5 s
        if s.mode.trans.isSome then s else startServing h.trigger none s
      else s
    | none => s
  | none => s

/-- HANDOFF_RECEIVED: the announcement of H, or the new lease (R435). -/
def handoff (body : List Byte) (s : State) : State :=
  let kind := fld body 0 4
  if kind = 0 then
    let h : Handover := { slot := fld body 4 5, outgoing := activeTwin s, trigger := fld body 9 3, offer := none, done := false }
    if (activeTwin s && s.chord.twin.held && s.mode.trans.isNone && s.chord.twin.handover.isNone) || (standby s && s.chord.twin.handover.isNone) then
      abandonStep (modTwin (fun t => { t with handover := some h }) s)
    else s
  else if standby s then
    takeHandoff (modTwin (fun t => { t with handover := t.handover.map (fun h => if h.outgoing then h else { h with offer := some (fld body 4 4, fld body 8 4) }) }) s)
  else s

/-- HANDOFF_TIMEOUT: 1 ms after H the standby waits for lease expiry (R435). -/
def handoffTimeout (s : State) : State :=
  match s.chord.twin.handover with
  | some h =>
    if !h.outgoing ∧ !h.done ∧ slotStart s h.slot + 1000 * usUnits ≤ meshTime s then modTwin (fun t => { t with handover := none }) s else s
  | none => s

/-- HANDOFF_TIMEOUT -/
def execHandoffTimeout (dt : Nat) : State → Host.Outcome State Fault Refusal := event dt handoffTimeout

/-- REVERT_HOLD_EXPIRY: the odd member of a pair returns the mesh to the even one (R436). -/
def revertHold (s : State) : State :=
  match s.chord.twin.healthySince with
  | some t =>
    if cfgBit s 0x0B00 7 && activeTwin s && decide (memberId s % 2 = 1) && s.chord.twin.held && decide (cfgNat s 0x0B00 8 0 * secTicks ≤ since s t)
        && standbyMeets s && s.chord.twin.handover.isNone && s.mode.trans.isNone then
      beginHandover true 0x08 s
    else s
  | none => s

/-- REVERT_HOLD_EXPIRY -/
def execRevertHoldExpiry (dt : Nat) : State → Host.Outcome State Fault Refusal := event dt revertHold

end Sys2Proof.Machine
end

