-- ==== Sys2Proof/Machine/Twin.lean ====
section
/-!
DEFINITION. Lane 0 of the Chord links: HELLO and what it brings (R416, R420, R421, R424, R425, R438), LEASE and
LEASE_ACK (R422, R423, R426), and HANDOFF.
-/
namespace Sys2Proof.Machine

/-! ### The check values of R430 -/

/-- The first 8 bytes of the node key of EUI-64 0xFFFF_FFFF_FFFF_FFFE at a generation; zero where the master slot
yields no key. -/
def checkValue (s : State) (gen : Nat) : Nat := if masterUsable s gen then fld (nodeKeyOf s 0xFFFFFFFFFFFFFFFE gen) 0 8 else 0

/-- The check values, EVEN then ODD. -/
def checkValues (s : State) : List Nat := [checkValue s 0, checkValue s 1]

/-! ### Agreement (R420, R421) -/

/-- The members that this chip compares its time with (R421). -/
def timePeers (s : State) : List Nat :=
  if standby s then (if servingCode (twinMember s).mode && !(twinLinks s).isEmpty then [twinId s] else [])
  else if servingMode (datapath s) then (bitList 16 (ownLinks s)).filter (fun m => servingCode (memberOf s m).mode)
  else []

/-- A member disagrees: beyond TIME_TOL, and once in this cause of holdover until 16 calm exchanges (R421). -/
def timeDisagrees (s : State) (m : Nat) : Bool :=
  !(memberOf s m).offsets.isEmpty
    && (if s.time.mer.peerDisagrees then decide ((memberOf s m).calm < 16) else decide (timeTol s < (theta s m).natAbs))

/-- This chip is the one that acts (R421). -/
def timeActs (s : State) : Bool :=
  let l := timePeers s
  let d := (l.filter (timeDisagrees s)).length
  if standby s then decide (0 < d)
  else decide (l.length + 1 < 2 * d) || (decide (2 * d = l.length + 1) && l.any (fun m => decide (m < memberId s)))

/-- Holdover with HOLD_CAUSE 0b100 begins or ends (R362, R421). -/
def timeCheck (s : State) : State :=
  let acts := timeActs s
  let s := if s.time.mer.peerDisagrees = acts then s else withHold (fun m => { m with peerDisagrees := acts }) s
  if s.time.mer.peerDisagrees then s
  else
    let kept := (timePeers s).foldl (fun k m => if (memberOf s m).offsets.isEmpty then k else Sparse.set (fun _ => 0) k m (theta s m)) s.chord.keptTheta
    { s with chord := { s.chord with keptTheta := kept } }

/-- A time offset of a directly linked member (R421). -/
def noteOffset (src : Nat) (th : Int) (s : State) : State :=
  let calm := decide (2 * (th.natAbs : Int) ≤ timeTol s)
  modMember src (fun m => { m with offsets := (th :: m.offsets).take 16, calm := if calm then min 16 (m.calm + 1) else 0 }) s

/-! ### Members (R438) -/

/-- A member becomes reachable or unreachable. -/
def refreshMember (s : State) (m : Nat) : State :=
  if reachable s m then
    if (memberOf s m).present then modMember m (fun x => { x with lostAt := none }) s
    else raiseExit 0x080C (leBytes 1 m) (modMember m (fun x => { x with present := true, lostAt := none }) s)
  else if (memberOf s m).present ∧ (memberOf s m).lostAt.isNone then modMember m (fun x => { x with lostAt := some s.now }) s
  else s

/-- Every other member of the cluster. -/
def refreshMembers (s : State) : State := ((bitList 16 (clusterMask s)).filter (fun m => m != memberId s)).foldl refreshMember s

/-- MEMBER_UNREACHABLE: a member leaves after 10 ms, and its REMOTE entries go (R438). -/
def memberLeft (m : Nat) (s : State) : State :=
  match (memberOf s m).lostAt with
  | some t =>
    if reachable s m ∨ since s t < 10 * msTicks then s
    else raise 0x080B (leBytes 1 m) (dropRemote m (modMember m (fun x => { x with present := false, lostAt := none }) s))
  | none => s

/-- MEMBER_UNREACHABLE -/
def execMemberUnreachable (dt member : Nat) : State → Host.Outcome State Fault Refusal :=
  event dt (fun s => if chordRuns s then memberLeft member s else s)

/-! ### Split (R425) -/

/-- Two twins are active: the lease of the higher generation, and among equals that of the lower member, is valid;
the other chip steps down and then begins as a standby. -/
def splitResolve (s : State) : State :=
  if activeTwin s ∧ s.chord.twin.held ∧ servingCode (announced s).code ∧ s.chord.twin.handover.isNone then
    let own := s.chord.twin.gen.toNat
    let peer := (twinMember s).leaseGen
    let loses := decide (own < peer) || (decide (own = peer) && decide (twinId s < memberId s))
    let s := if s.chord.twin.split then s else ctrInc .chip 0 6 (raiseSplit peer (b2n loses) s)
    if loses then stepDown (dropLease (modTwin (fun t => { t with split := false }) s)) else modTwin (fun t => { t with split := true }) s
  else s

/-- The same on a HELLO: a split lasts while the twin announces a mode that serves. -/
def splitCheck (s : State) : State :=
  if servingCode (twinMember s).mode then splitResolve s else modTwin (fun t => { t with split := false }) s

/-! ### The loss of the standby (R423, R426) -/

/-- The standby is declared lost: replication stops, the waits of R429 end, and ISOLATION_HOLD begins. -/
def declareLost (cause : Nat) (s : State) : State :=
  let due := s.mesh.due.filter (fun d => s.chord.twin.waits.any (fun w => w.ack == d.id))
  let hold := s.now + cfgNat s 0x0B00 10 0 * 100 * msTicks
  let s := modTwin (fun t => { t with peerLost := true, synced := false, waits := [], isolatedUntil := some hold, backfillTo := none }) s
  let s := raise 0x0807 (leBytes 1 cause) s
  due.foldl (fun s d => sendAck d s) s

/-- Why the standby counts as lost: 1 no LEASE_ACK for 500 µs, 2 no twin link up (R423). -/
def lostCause (s : State) : Option Nat :=
  let t := s.chord.twin
  if !(activeTwin s && t.held) || t.peerLost then none
  else if (twinLinks s).isEmpty then some 2
  else match t.ackAt with
    | some a => if 500 * usTicks ≤ since s a then some 1 else none
    | none => none

/-- LEASE_ACK_TIMEOUT (R423) -/
def leaseAckTimeout (s : State) : State := match lostCause s with | some c => declareLost c s | none => s

/-- LEASE_ACK_TIMEOUT -/
def execLeaseAckTimeout (dt : Nat) : State → Host.Outcome State Fault Refusal := event dt leaseAckTimeout

/-- ISOLATION_HOLD_EXPIRY: extensions resume, those that waited for their recording and those that wait to be asked for (R426). -/
def isolationExpiry (s : State) : State :=
  match s.chord.twin.isolatedUntil with
  | some t =>
    if t ≤ s.now then
      let s := modTwin (fun t => { t with isolatedUntil := none }) s
      let s := (s.mesh.leasing.map (·.1)).foldl (fun s n => leaseRecorded n s) s
      (s.mesh.nodes.map (·.1)).foldl (fun s n => checkTxFc n s) s
    else s
  | none => s

/-- ISOLATION_HOLD_EXPIRY -/
def execIsolationHoldExpiry (dt : Nat) : State → Host.Outcome State Fault Refusal := event dt isolationExpiry

/-! ### HELLO (R416) -/

/-- A time of 12 bytes in 2^-16 ns. -/
def timeBytes (t : Int) : List Byte := leBytes 12 (ofSigned 96 t)

/-- Meridian time now in 2^-16 ns. -/
def merInt (s : State) : Int := (merTime s.time.mer : Int)

/-- The body of HELLO on a link (log 45). -/
def helloBody (s : State) (l : Nat) : List Byte :=
  let echo := match (linkOf s l).hello with
    | some (_, t1, t2) => leBytes 4 1 ++ timeBytes t1 ++ timeBytes t2
    | none => zeros 28
  leBytes 1 (announced s).code ++ leBytes 1 (b2n (healthy s) + 2 * b2n s.chord.twin.peerLost) ++ leBytes 2 (ownLinks s)
    ++ leBytes 4 s.chord.twin.gen.toNat ++ leBytes 8 (ofSigned 64 (meshShiftNow s)) ++ leBytes 8 (asnNow s)
    ++ ((checkValues s).map (leBytes 8)).flatten ++ timeBytes (merInt s) ++ echo

/-- HELLO on a link: a broadcast, so that every member learns the graph (R416, R417). -/
def helloOn (s : State) (l : Nat) : State :=
  match linkPeer s l with
  | some p =>
    let (m, s) := newMsg 0x01 p 0 true (helloBody s l) s
    queueMsg l m s
  | none => s

/-- HELLO_SEND: every 1 ms on every link that has a peer (R416). -/
def helloSend (s : State) : State :=
  if chordRuns s ∧ msTicks ≤ since s s.chord.helloAt then chordLinks.foldl helloOn { s with chord := { s.chord with helloAt := s.now } } else s

/-- HELLO_SEND -/
def execHelloSend (dt : Nat) : State → Host.Outcome State Fault Refusal := event dt helloSend

/-- What a HELLO says of its sender. -/
def helloMember (body : List Byte) (m : Member) : Member :=
  { m with known := true, mode := byteAt body 0, healthy := bit (byteAt body 1) 0, links := BitVec.ofNat 16 (fld body 2 2), leaseGen := fld body 4 4,
           meshShift := toSigned 64 (fld body 8 8), asn := fld body 16 8, checks := [fld body 24 8, fld body 32 8] }

/-- A link is held down, its HELLOs apart (R416). -/
def holdDown (l : Nat) (mismatch conflict : Bool) (s : State) : State :=
  linkDown l (modLink l (fun x => { x with mismatch, conflict }) s)

/-- A HELLO with this chip's own number: every link is held down until its HELLOs name another member (R416). -/
def helloConflict (l : Nat) (s : State) : State :=
  if (linkOf s l).conflict then s
  else
    let s := modLink l (fun x => { x with conflict := true }) s
    let seen := chordLinks.filter (fun k => (linkOf s k).conflict)
    let s := raise 0x0803 (leBytes 1 (memberId s) ++ zeros 1 ++ leBytes 2 (bitMap seen)) s
    chordLinks.foldl (fun s k => linkDown k s) s

/-- The timestamps of a HELLO on a link (R421). -/
def helloTimes (l src : Nat) (body : List Byte) (s : State) : State :=
  let now := merInt s
  let t3 := toSigned 96 (fld body 40 12)
  let s := modLink l (fun x => { x with hello := some (src, t3, now) }) s
  if byteAt body 52 = 0 then s
  else
    let t1 := toSigned 96 (fld body 56 12)
    let t2 := toSigned 96 (fld body 68 12)
    noteOffset src (((t2 - t1) - (now - t3)) / 2) s

/-- A standby compares its check values with those of its active twin (R430), and hears that it was declared lost (R423). -/
def helloStandby (body : List Byte) (s : State) : State :=
  let s := if (twinMember s).checks = checkValues s then s else if s.chord.twin.synced then loseSync s else s
  if bit (byteAt body 1) 1 ∧ s.chord.twin.synced then loseSync s else s

/-- The effects of a HELLO that do not depend on the link it came by. -/
def helloEffects (src : Nat) (body : List Byte) (s : State) : State :=
  let before := memberOf s src
  let s := refreshMembers (modMember src (helloMember body) s)
  if src ≠ twinId s ∨ !twinEnabled s then timeCheck s
  else
    let s := seeGen (twinMember s).leaseGen s
    let s := splitCheck (startupHello s)
    let s := if standby s ∧ servingCode (twinMember s).mode then helloStandby body s else s
    let blockedNow := standby s && servingCode before.mode && familyOf before.mode == familyOf (datapath s).code && !precondition s 6
    let s := if blockedNow then raise 0x0806 (leBytes 1 6) s else s
    leaseExpiry (timeCheck s)

/-- A HELLO on the link that its sender shares with this chip (R416). -/
def helloDirect (l src : Nat) (body : List Byte) (s : State) : State :=
  match linkPeer s l with
  | none => s
  | some p =>
    if src = memberId s then helloConflict l s
    else
      let s := modLink l (fun x => { x with conflict := false }) s
      if src ≠ p then
        if (linkOf s l).mismatch then s
        else raise 0x0802 (leBytes 1 l ++ leBytes 1 p ++ leBytes 1 src) (holdDown l true false s)
      else
        let s := modLink l (fun x => { x with mismatch := false }) s
        let held := chordLinks.any (fun k => (linkOf s k).conflict)
        let first := src = twinId s ∧ (twinLinks s).isEmpty
        let s := if !(linkOf s l).lock || held then s else linkUp l s
        let s := helloEffects src body (helloTimes l src body s)
        if first ∧ !(twinLinks s).isEmpty then beginResync none s else s

/-- HELLO_RECEIVED: `hops` is 15 on the link from the sender itself, less after a relay (R416, R417). -/
def hello (link hops src compat epoch : Nat) (body : List Byte) (s : State) : State :=
  if !chordRuns s ∨ 12 ≤ link ∨ portFailed s (0x60 + link) then s
  else if hops = 15 then helloDirect link src body (noteHeader src compat epoch s)
  else if src = memberId s then s
  else helloEffects src body (noteHeader src compat epoch s)

/-- HELLO_RECEIVED -/
def execHelloReceived (dt link hops src compat epoch : Nat) (body : List Byte) : State → Host.Outcome State Fault Refusal :=
  event dt (hello link hops src compat epoch body)

/-! ### LEASE (R422) -/

/-- The body of LEASE: generation, renewal number, MESH_SHIFT and ASN (Table 16.5, log 45). -/
def leaseBody (s : State) : List Byte :=
  leBytes 4 s.chord.twin.gen.toNat ++ leBytes 4 s.chord.twin.renewal.toNat ++ leBytes 8 (ofSigned 64 (meshShiftNow s)) ++ leBytes 8 (asnNow s)

/-- A message of a class to the twin on a link. -/
def twinOn (cls : Nat) (body : List Byte) (l : Nat) (s : State) : State :=
  let (m, s) := newMsg cls (twinId s) 0 false body s
  queueMsg l m s

/-- LEASE_SEND: every 250 µs on every twin link that is up, while the lease is held (R422). -/
def leaseSend (s : State) : State :=
  let t := s.chord.twin
  if chordRuns s ∧ t.held ∧ 250 * usTicks ≤ since s t.leaseSentAt then
    let s := modTwin (fun t => { t with renewal := t.renewal + 1, leaseSentAt := s.now }) s
    (twinLinks s).foldl (fun s l => twinOn 0x02 (leaseBody s) l s) s
  else s

/-- LEASE_SEND -/
def execLeaseSend (dt : Nat) : State → Host.Outcome State Fault Refusal := event dt leaseSend

/-- A message of the twin: its header is noted, and it acts while the chip runs as a twin. -/
def twinMessage (cls src compat epoch : Nat) (f : State → State) (s : State) : State :=
  if !chordRuns s ∨ !twinEnabled s ∨ src ≠ twinId s then s
  else
    let s := noteHeader src compat epoch s
    if laneOf cls ≠ 0 ∧ compatFar s compat then s else f s

/-- LEASE at a standby extends the lease and is answered; at an active twin it settles a split (R422, R425). -/
def lease (link : Nat) (body : List Byte) (s : State) : State :=
  let g := fld body 0 4
  let s := modMember (twinId s) (fun m => { m with leaseGen := g, meshShift := toSigned 64 (fld body 8 8), asn := fld body 16 8 }) (seeGen g s)
  if standby s then
    if s.chord.twin.gen.toNat ≤ g then
      let s := modTwin (fun t => { t with gen := BitVec.ofNat 32 g, leaseAt := some s.now, blocked := none }) s
      twinOn 0x03 (leBytes 4 g ++ slice body 4 4) link s
    else s
  else splitResolve s

/-- LEASE_RECEIVED -/
def execLeaseReceived (dt link src compat epoch : Nat) (body : List Byte) : State → Host.Outcome State Fault Refusal :=
  event dt (twinMessage 0x02 src compat epoch (lease link body))

/-- LEASE_ACK notes the standby alive (R423). -/
def leaseAck (body : List Byte) (s : State) : State :=
  modTwin (fun t => if t.held ∧ fld body 0 4 = t.gen.toNat then { t with ackAt := some s.now } else t) s

/-- LEASE_ACK_RECEIVED -/
def execLeaseAckReceived (dt src compat epoch : Nat) (body : List Byte) : State → Host.Outcome State Fault Refusal :=
  event dt (twinMessage 0x03 src compat epoch (leaseAck body))

/-- HANDOFF_RECEIVED -/
def execHandoffReceived (dt src compat epoch : Nat) (body : List Byte) : State → Host.Outcome State Fault Refusal :=
  event dt (twinMessage 0x04 src compat epoch (handoff body))

end Sys2Proof.Machine
end

