-- ==== Sys2Proof/Machine/Replica.lean ====
section
/-!
DEFINITION. Replication as the standby applies it (R428 to R430), bulk resynchronization (R427), confirmations
(R429) and health reports (R436).
-/
namespace Sys2Proof.Machine

/-! ### Streams (R418, R427) -/

/-- A message of a replication stream: a gap in SRC_SEQ ends SYNCED. The number expected next is kept plus one. -/
def streamCheck (cls partition seq : Nat) (s : State) : State :=
  let key := streamKey cls (memberId s) partition
  let exp := Sparse.get (fun _ => 0) s.chord.twin.rxSeq key
  let s := if exp ≠ 0 ∧ seq + 1 ≠ exp then loseSync s else s
  modTwin (fun t => { t with rxSeq := Sparse.set (fun _ => 0) t.rxSeq key ((seq + 1) % 2 ^ 32 + 1) }) s

/-- A replication message reaches a standby: its stream is checked, it is applied, and a handover that waits for it goes on. -/
def applied? (cls partition seq : Nat) (f : State → State) (s : State) : State :=
  if standby s then takeHandoff (f (streamCheck cls partition seq s)) else s

/-! ### Node records (R428, R429) -/

/-- A journal record from its bytes (Table 9.7). -/
def recordFrom (l : List Byte) : JRec :=
  { type := fld l 0 2, seconds := fld l 4 6, nanos := fld l 10 4, body := slice l 16 (fld l 2 2 - 16) }

/-- A node record arrives, with the FRAME record of an acceptance where it has one: the record is written, the
journal record appended, and the acceptance confirmed. -/
def replNode (seq : Nat) (body : List Byte) (s : State) : State :=
  let n := fld body 0 4
  if nodeCount ≤ n then s
  else
    let r := recordOf (slice body 8 64)
    let old := nodeOf s n
    let s := if old.eui = r.eui ∧ old.keyGen = r.keyGen then s else dropNodeKeys n s
    let s := putNode n r (setShort n (fld body 4 2) s)
    let s := modTwin (fun t => { t with resync := t.resync.map (fun x => { x with nodes := if x.nodes.contains n then x.nodes else n :: x.nodes }) }) s
    let jr := body.drop 72
    if jr.isEmpty then s
    else
      let s := journalAdd (recordFrom jr) s
      let s := modTwin (fun t => { t with confirmed := ((s.now, jr) :: t.confirmed).filter (fun p => decide (s.now ≤ p.1 + 1000 * msTicks)) }) s
      chordSend 0x11 (twinId s) 0 (leBytes 4 n ++ leBytes 4 seq) s

/-- REPL_NODE_RECEIVED -/
def execReplNodeReceived (dt src compat epoch seq : Nat) (body : List Byte) : State → Host.Outcome State Fault Refusal :=
  event dt (twinMessage 0x10 src compat epoch (applied? 0x10 (fld body 0 4 / 256) seq (replNode seq body)))

/-- REPL_CONFIRM releases the acknowledgement that waits for it (R429). -/
def replConfirm (body : List Byte) (s : State) : State :=
  match s.chord.twin.waits.find? (fun w => w.node == fld body 0 4 && w.seq == fld body 4 4) with
  | some w =>
    let s := modTwin (fun t => { t with waits := t.waits.filter (fun x => x != w) }) s
    match s.mesh.due.find? (fun d => d.id == w.ack) with
    | some d => sendAck d s
    | none => s
  | none => s

/-- REPL_CONFIRM_RECEIVED -/
def execReplConfirmReceived (dt src compat epoch : Nat) (body : List Byte) : State → Host.Outcome State Fault Refusal :=
  event dt (twinMessage 0x11 src compat epoch (replConfirm body))

/-- REPL_CONFIRM_TIMEOUT: 30 µs after its REPL_NODE an acknowledgement is withheld for good and counted (R429). -/
def confirmTimeout (s : State) : State :=
  let late := s.chord.twin.waits.filter (fun w => decide (30 * usTicks ≤ since s w.sentAt))
  let s := modTwin (fun t => { t with waits := t.waits.filter (fun w => !late.contains w) }) s
  ctrAdd .chip 0 2 late.length (modMesh (fun m => { m with due := m.due.filter (fun d => !late.any (fun w => w.ack == d.id)) }) s)

/-- REPL_CONFIRM_TIMEOUT -/
def execReplConfirmTimeout (dt : Nat) : State → Host.Outcome State Fault Refusal := event dt confirmTimeout

/-! ### Queues, journal and keys -/

/-- A change of a deferred-delivery queue (R428, log 28): the standby keeps its own pool and spill slots. -/
def replDdq (body : List Byte) (s : State) : State :=
  let n := fld body 0 4
  if nodeCount ≤ n then s
  else
    let s := modTwin (fun t => { t with resync := t.resync.map (fun x => { x with queues := if x.queues.contains n then x.queues else n :: x.queues }) }) s
    match byteAt body 4 with
    | 1 =>
      let seq := fld body 6 2
      ddqPlace n { seq, at_ := s.now, body := body.drop 8, ackReq := true, attempts := 0 } (setDdq n { ddqOf s n with nextSeq := seq } s)
    | 2 => popHead n s
    | 3 => (discardDdq n s).2
    | _ => s

/-- REPL_DDQ_RECEIVED -/
def execReplDdqReceived (dt src compat epoch seq : Nat) (body : List Byte) : State → Host.Outcome State Fault Refusal :=
  event dt (twinMessage 0x20 src compat epoch (applied? 0x20 (fld body 0 4 / 256) seq (replDdq body)))

/-- A mirrored record enters the standby's own journal. A RELEASE is written for the standby's own records: the
number that it leaves unreleased tells the last one released (R254, log 28). -/
def jrnlMirror (body : List Byte) (s : State) : State :=
  let r := recordFrom body
  if r.type = 3 then
    let keys := (heldRecords s.store.journal).map (·.1)
    let left := fld body (fld body 2 2) 4
    match (keys.take (keys.length - left)).getLast? with
    | some k => journalAdd (releaseRec s k) (modJournal (fun j => { j with released := k }) s)
    | none => s
  else journalAdd r s

/-- JRNL_MIRROR_RECEIVED -/
def execJrnlMirrorReceived (dt src compat epoch seq : Nat) (body : List Byte) : State → Host.Outcome State Fault Refusal :=
  event dt (twinMessage 0x30 src compat epoch (applied? 0x30 0 seq (jrnlMirror body)))

/-- TWIN_KEY_CONFLICT: the target slot stays as it is, and the standby is not SYNCED (R427, R430). -/
def keyConflict (n : Nat) (s : State) : State := raise 0x080D (leBytes 2 n ++ leBytes 1 (twinId s)) (loseSync s)

/-- A HOST slot is created or erased as on the active twin (R404, R430). -/
def replKey (body : List Byte) (s : State) : State :=
  let n := fld body 0 2
  if 1023 ≤ n then loseSync s
  else if fld body 2 2 = 2 then
    if slotOwner (slotOf s n) = 0 then eraseSlot n (closeSlotContexts n s) else s
  else if (wrapRefusal s 1023 2).isSome then loseSync s
  else match unwrapBlob (slotOf s 1023).key (body.drop 4) with
    | none => loseSync s
    | some (attr, key) =>
      let k := slotOf s n
      if k.state = .empty then writeSlot n attr key s
      else if k.state = .valid ∧ k.attr.toNat = attr ∧ slotKey k = (if attrType attr = 0 then key.take 16 else key) then s
      else keyConflict n s

/-- REPL_KEY_RECEIVED -/
def execReplKeyReceived (dt src compat epoch seq : Nat) (body : List Byte) : State → Host.Outcome State Fault Refusal :=
  event dt (twinMessage 0x12 src compat epoch (applied? 0x12 0 seq (replKey body)))

/-! ### Bulk resynchronization (R427) -/

/-- The classes that carry the state, in the order in which it is sent. -/
def resyncClasses : List Nat := [0x10, 0x12, 0x20, 0x30]

/-- The streams of a class to the twin, with the number that each message next has. -/
def classStreams (s : State) (cls : Nat) : List (Nat × Nat) :=
  (s.chord.twin.txSeq.filter (fun p => decide (p.1 / 65536 = cls) && decide (p.1 / 2048 % 32 = twinId s))).map (fun p => (p.1 % 2048, p.2))

/-- The end of a class: what each of its streams has reached, and for the journal its next block (log 45). -/
def sendEnd (cls : Nat) (s : State) : State :=
  let l := classStreams s cls
  let rest := (l.map (fun p => leBytes 2 p.1 ++ leBytes 4 p.2)).flatten
  chordSend 0x61 (twinId s) 0 (leBytes 4 2 ++ leBytes 2 cls ++ leBytes 2 l.length ++ leBytes 8 s.store.journal.nextSeq ++ rest) s

/-- A node's queue as REPL_DDQ messages. -/
def dumpQueue (s : State) (p : Nat × Ddq) : State := (ddqFrames p.2).foldl (fun s f => replicateDdq p.1 1 (some f) s) (replicateDdq p.1 3 none s)

/-- The active twin sends every node record, every slot and every queue, and the place of its journal. -/
def sendState (s : State) : State :=
  let s := sendEnd 0x10 ((s.mesh.nodes.map (·.1)).foldl (fun s n => replicate 0x10 (n / 256) (replNodeBody s n) s) s)
  let s := sendEnd 0x12 ((s.keys.slots.map (·.1)).foldl (fun s n => replicateSlot n s) s)
  let s := sendEnd 0x20 (s.store.ddq.foldl dumpQueue s)
  sendEnd 0x30 s

/-- The oldest block of the journal. -/
def firstBlock (s : State) : Nat := match s.store.journal.blocks with | b :: _ => b.seq | [] => s.store.journal.nextSeq

/-- A standby asks for the state: replication begins again (R423, R427). -/
def resyncRequest (s : State) : State :=
  if activeTwin s && s.chord.twin.held then
    sendState (modTwin (fun t => { t with synced := false, peerLost := false, ackAt := some s.now, waits := [], backfill := firstBlock s,
                                          backfillTo := some s.store.journal.nextSeq, backfillAt := s.now }) s)
  else s

/-- The end of a class reaches the standby. -/
def resyncEnd (body : List Byte) (s : State) : State :=
  let cls := fld body 4 2
  let l := (List.range (fld body 6 2)).map (fun i => (streamKey cls (memberId s) (fld body (16 + 6 * i) 2), fld body (18 + 6 * i) 4))
  let s := modTwin (fun t => { t with resync := t.resync.map (fun x => { x with ended := cls :: x.ended, marks := x.marks ++ l }) }) s
  if cls = 0x30 ∧ s.chord.twin.resync.isSome then modJournal (fun j => { j with nextSeq := max j.nextSeq (fld body 8 5) }) (closeBlock s) else s

/-- A block of the journal from before the start enters the standby's journal in its place (R427). -/
def backfillBlock (seq : Nat) (l : List JRec) (s : State) : State :=
  let j := s.store.journal
  if !arrayUp s ∨ j.blocks.any (fun b => b.seq == seq) ∨ journalBytes s.store.array < ringUsed j + storedLen l then s
  else
    let b : JBlock := { seq, pos := j.tail, recs := l, stored := storedLen l, durable := false, lost := false }
    let put := j.blocks.filter (fun x => decide (x.seq < seq)) ++ [b] ++ j.blocks.filter (fun x => decide (seq < x.seq))
    let s := modJournal (fun j => { j with blocks := put, tail := (j.tail + b.stored) % journalBytes s.store.array }) s
    (ringStripes s.store.array b.pos b.stored).foldl (fun s k => writeStripe k (some seq) s) s

/-- The records of a run of bytes; `fuel` bounds their number. -/
def recordsOf : Nat → List Byte → List JRec
  | 0, _ => []
  | fuel + 1, l => if l.length < 16 ∨ fld l 2 2 < 16 then [] else recordFrom l :: recordsOf fuel (l.drop (fld l 2 2))

/-- Records of a block that is sent in parts: those of a block held already join it. -/
def backfillPart (body : List Byte) (s : State) : State :=
  let seq := fld body 4 5
  let l := recordsOf 4096 (body.drop 12)
  if byteAt body 9 = 0 then backfillBlock seq l s
  else modJournal (fun j => { j with blocks := j.blocks.map (fun b => if b.seq = seq then { b with recs := b.recs ++ l, stored := storedLen (b.recs ++ l) } else b) }) s

/-- RESYNC messages (log 45): 1 request, 2 end of a class, 3 the standby is SYNCED, 4 a journal block. -/
def resyncMessage (body : List Byte) (s : State) : State :=
  match fld body 0 4 with
  | 1 => resyncRequest s
  | 2 => if standby s then resyncEnd body s else s
  | 3 => if activeTwin s then modTwin (fun t => { t with synced := true }) s else s
  | 4 => if standby s then backfillPart body s else s
  | _ => s

/-- RESYNC_MESSAGE_RECEIVED -/
def execResyncMessageReceived (dt src compat epoch : Nat) (body : List Byte) : State → Host.Outcome State Fault Refusal :=
  event dt (twinMessage 0x61 src compat epoch (resyncMessage body))

/-- A mark is reached: every message of the stream up to it has been applied. -/
def markReached (s : State) (p : Nat × Nat) : Bool :=
  let v := Sparse.get (fun _ => 0) s.chord.twin.rxSeq p.1
  v != 0 && decide (((v - 1) + 2 ^ 32 - p.2) % 2 ^ 32 < 2 ^ 31)

/-- Streams that carried nothing since the start begin at their marks. -/
def takeMarks (l : List (Nat × Nat)) (s : State) : State :=
  modTwin (fun t => { t with rxSeq := l.foldl (fun m p => if Sparse.get (fun _ => 0) m p.1 = 0 then Sparse.set (fun _ => 0) m p.1 (p.2 + 1) else m) t.rxSeq }) s

/-- Nodes and queues that the active twin does not have go. -/
def dropUnsent (r : Resync) (s : State) : State :=
  let s := ((s.mesh.nodes.map (·.1)).filter (fun n => !r.nodes.contains n)).foldl (fun s n => putNode n NodeRec.reset (setShort n 0xFFFF (forgetNode n s))) s
  ((s.store.ddq.map (·.1)).filter (fun n => !r.queues.contains n)).foldl (fun s n => (discardDdq n s).2) s

/-- BULK_RESYNC_COMPLETE: the standby holds all of the state and every live stream has been applied: it is SYNCED (R427, R430). -/
def bulkComplete (s : State) : State :=
  match s.chord.twin.resync with
  | some r =>
    if standby s ∧ r.failed = false ∧ resyncClasses.all (fun c => r.ended.contains c) ∧ r.marks.all (fun p => markReached s p || p.2 == 0)
        ∧ (twinMember s).checks = checkValues s then
      let s := takeMarks r.marks (dropUnsent r s)
      let j := s.chord.twin.job
      let s := modTwin (fun t => { t with synced := true, resync := none, job := none }) s
      let s := raise 0x0809 (zeros 4 ++ leBytes 4 s.chord.twin.gen.toNat) s
      let s := if j.isSome then finishJobOf 0x0805 .ok 0 [] s else s
      leaseExpiry (chordSend 0x61 (twinId s) 0 (leBytes 4 3) s)
    else s
  | none => s

/-- BULK_RESYNC_COMPLETE -/
def execBulkResyncComplete (dt : Nat) : State → Host.Outcome State Fault Refusal := event dt bulkComplete

/-! ### Journal backfill (R427) -/

/-- The records of a block as RESYNC messages, each of as many whole records as fit. -/
def blockParts : List JRec → List (List JRec)
  | [] => []
  | r :: rest =>
    match blockParts rest with
    | p :: ps => if rawLen (r :: p) ≤ 9216 then (r :: p) :: ps else [r] :: p :: ps
    | [] => [[r]]

/-- A block goes to the standby. -/
def sendBlock (b : JBlock) (s : State) : State :=
  (blockParts b.recs).zipIdx.foldl (fun s p =>
    chordSend 0x61 (twinId s) 0 (leBytes 4 4 ++ leBytes 5 b.seq ++ leBytes 1 (b2n (p.2 != 0)) ++ zeros 2 ++ (p.1.map JRec.bytes).flatten) s) s

/-- JOURNAL_BACKFILL: the next block from before the start, at JRNL_BACKFILL_RATE. -/
def journalBackfill (s : State) : State :=
  match s.chord.twin.backfillTo with
  | some target =>
    if !(replicates s && s.chord.twin.synced) then s
    else match s.store.journal.blocks.find? (fun b => decide (s.chord.twin.backfill ≤ b.seq) && decide (b.seq < target)) with
      | some b =>
        if b.stored * 800 ≤ since s s.chord.twin.backfillAt * cfgNat s 0x0B00 11 0 then
          sendBlock b (modTwin (fun t => { t with backfill := b.seq + 1, backfillAt := s.now }) s)
        else s
      | none => modTwin (fun t => { t with backfill := target, backfillTo := none }) s
  | none => s

/-- JOURNAL_BACKFILL -/
def execJournalBackfill (dt : Nat) : State → Host.Outcome State Fault Refusal := event dt journalBackfill

/-! ### Health reports (R436) -/

/-- HEALTH_SEND: every 100 ms the standby sends its health report. -/
def healthSend (s : State) : State :=
  if standby s ∧ twinEnabled s ∧ chordRuns s ∧ 100 * msTicks ≤ since s s.chord.twin.healthSentAt then
    let s := countReport s
    let s := modTwin (fun t => { t with healthSentAt := s.now, ownHealthy := healthy s }) s
    leaseExpiry (chordSend 0x60 (twinId s) 0 (healthReport s) s)
  else s

/-- HEALTH_SEND -/
def execHealthSend (dt : Nat) : State → Host.Outcome State Fault Refusal := event dt healthSend

/-- A report of the peer: healthy where its HEALTHY bit is set (Table 17.5). -/
def healthReceived (body : List Byte) (s : State) : State :=
  let ok := bit (fld body 0 4) 12
  modTwin (fun t => { t with health := body, healthAt := some s.now, healthOk := ok,
                             healthySince := if ok then (if t.healthySince.isSome then t.healthySince else some s.now) else none }) s

/-- HEALTH_RECEIVED -/
def execHealthReceived (dt src compat epoch : Nat) (body : List Byte) : State → Host.Outcome State Fault Refusal :=
  event dt (twinMessage 0x60 src compat epoch (healthReceived body))

/-- HEALTH_GAP: more than 300 ms between reports counts as an unhealthy one. -/
def healthGap (s : State) : State :=
  match s.chord.twin.healthAt with
  | some t => if 300 * msTicks < since s t then modTwin (fun t => { t with healthOk := false, healthySince := none }) s else s
  | none => s

/-- HEALTH_GAP -/
def execHealthGap (dt : Nat) : State → Host.Outcome State Fault Refusal := event dt healthGap

end Sys2Proof.Machine
end

