-- ==== Sys2Proof/Machine/ChordRx.lean ====
section
/-!
DEFINITION. The receiving side of a Chord link (R413 to R417): link frames, acknowledgements, credits, and the
delivery of whole messages; the loss of a link; the commands of family 0x08 (R439, R440).
-/
namespace Sys2Proof.Machine

/-! ### Messages -/

/-- A learning message by its TYPE (Table 12.8). -/
def learnClass (m : ChordMsg) (s : State) : State :=
  let w := fld m.body 0 32
  let type := bits w 0 8
  if type = 4 then resyncReq m.src m.compat m.epoch (bits w 32 32) s
  else learnMessage m.src m.compat m.epoch type (bits w 16 12) (bits w 32 32) (bits w 64 48) (bits w 112 7) (bits w 128 64) s

/-- A whole message acts by its class (Table 16.2). -/
def deliverMsg (l : Nat) (m : ChordMsg) (s : State) : State :=
  let b := m.body
  let tw := twinMessage m.cls m.src m.compat m.epoch
  match m.cls with
  | 0x01 => hello l m.hops m.src m.compat m.epoch b s
  | 0x02 => tw (lease l b) s
  | 0x03 => tw (leaseAck b) s
  | 0x04 => tw (handoff b) s
  | 0x10 => tw (applied? 0x10 (fld b 0 4 / 256) m.seq (replNode m.seq b)) s
  | 0x11 => tw (replConfirm b) s
  | 0x12 => tw (applied? 0x12 0 m.seq (replKey b)) s
  | 0x20 => tw (applied? 0x20 (fld b 0 4 / 256) m.seq (replDdq b)) s
  | 0x30 => tw (applied? 0x30 0 m.seq (jrnlMirror b)) s
  | 0x40 => learnClass m s
  | 0x50 => frameMessage m.src m.compat b (noteHeader m.src m.compat m.epoch s)
  | 0x60 => tw (healthReceived b) s
  | 0x61 => tw (resyncMessage b) s
  | _ => s

/-- A message arrives whole on a link: it counts, acts where it is for this chip, and goes on where it is for others
(R417). A HELLO goes on from one of its sender's links only. -/
def takeMsg (l : Nat) (m : ChordMsg) (s : State) : State :=
  let s := if chordClasses.contains m.cls then ctrInc .chord l (16 + classIndex m.cls) s else s
  let me := memberId s
  let s := if (m.bcast ∧ (m.src ≠ me ∨ m.cls = 0x01)) ∨ (!m.bcast ∧ m.dst = me) then deliverMsg l m s else s
  if m.src = me then s
  else if m.cls = 0x01 ∧ m.hops = 15 ∧ (linksTo s m.src).head? ≠ some l then s
  else relay m s

/-! ### Link frames (R413 to R415) -/

/-- The acknowledgement and the credits of a header (Table 16.10). -/
def takeHeader (h : Nat) (now : Nat) (x : ChordLink) : ChordLink :=
  let ack := bits h 16 12
  let done := match x.unacked.findIdx? (fun f => f.seq == ack) with | some i => i + 1 | none => 0
  let back := fun a n => Sparse.update (fun _ => 0) a n (fun v => v - bits h (32 + 4 * n) 4)
  { x with unacked := x.unacked.drop done, resends := if done = 0 then x.resends else 0, sentAt := if done = 0 then x.sentAt else now,
           spent := (List.range 7).foldl back x.spent }

/-- A message frame in order: its payload joins the lane's message, its credits are to be returned (R414, R415). -/
def takePayload (lane : Nat) (payload : List Byte) (last : Bool) (x : ChordLink) : List Byte × ChordLink :=
  let all := Sparse.get (fun _ => []) x.partial_ lane ++ payload
  (all, { x with expectSeq := (x.expectSeq + 1) % 4096, ackOwed := true, owed := Sparse.update (fun _ => 0) x.owed lane (· + creditsFor payload),
                 partial_ := Sparse.set (fun _ => []) x.partial_ lane (if last then [] else all) })

/-- A lane is honoured on this link: lane 0 always, the others while the link is up and its member's firmware agrees (R416, R420). -/
def laneHonoured (s : State) (l lane : Nat) : Bool :=
  lane == 0 || ((linkOf s l).up && !(match linkPeer s l with | some p => (memberOf s p).compatBad | none => true))

/-- LINK_FRAME_RECEIVED: a frame whose CRC is bad, or whose number is not the next, is discarded and acknowledged again. -/
def linkFrameIn (l : Nat) (frame : List Byte) (s : State) : State :=
  if !chordRuns s ∨ 12 ≤ l ∨ portFailed s (0x60 + l) then s
  else
    let s := modLink l (fun x => { x with lock := true }) s
    let n := frame.length
    let b := frame.take (n - 4)
    let answer := fun s => sendControl l (pump l s)
    if n < 44 ∨ crc32c b ≠ fld frame (n - 4) 4 then
      answer (modLink l (fun x => { x with ackOwed := true }) (ctrInc .chord l 0 s))
    else
      let h := fld b 0 8
      let lane := bits h 0 3
      let s := modLink l (takeHeader h s.now) s
      if lane = 7 then answer s
      else if bits h 4 12 ≠ (linkOf s l).expectSeq then answer (modLink l (fun x => { x with ackOwed := true }) s)
      else
        let last := bit h 3
        let (all, x) := takePayload lane (b.drop 8) last (linkOf s l)
        let s := setLink l x s
        answer (if last ∧ laneHonoured s l lane then takeMsg l (msgOfBytes all) s else s)

/-- LINK_FRAME_RECEIVED -/
def execLinkFrameReceived (dt link : Nat) (frame : List Byte) : State → Host.Outcome State Fault Refusal := event dt (linkFrameIn link frame)

/-- What follows the loss of a link: members, the twin's view of its standby, and a blocked takeover. -/
def afterLinkLoss (s : State) : State := leaseAckTimeout (refreshMembers s)

/-- A link that was up goes down (R413). -/
def loseLink (l : Nat) (s : State) : State := afterLinkLoss (linkDown l s)

/-- Every frame not acknowledged is sent again, from the first (R413). -/
def resendAll (l : Nat) (s : State) : State :=
  let x := linkOf s l
  let s := x.unacked.foldl (fun s f => ctrInc .chord l 1 (emit (.chord l (linkFrame (linkHeader x f.lane f.last f.seq) f.payload)) s)) s
  setLink l { headerSent x with sentAt := s.now, resends := x.resends + 1 } s

/-- LINK_FRAME_RESEND: 8 µs without acknowledgement; after 16 resends of one frame the link goes down (R413). -/
def linkResend (l : Nat) (s : State) : State :=
  let x := linkOf s l
  if !chordRuns s ∨ x.unacked.isEmpty ∨ since s x.sentAt < 8 * usTicks then s
  else if 16 ≤ x.resends then loseLink l s
  else resendAll l s

/-- LINK_FRAME_RESEND -/
def execLinkFrameResend (dt link : Nat) : State → Host.Outcome State Fault Refusal := event dt (linkResend link)

/-- CHORD_LOCK_LOSS: the PCS has been without block lock for 10 µs (R413). -/
def execChordLockLoss (dt link : Nat) : State → Host.Outcome State Fault Refusal :=
  event dt (fun s => if link < 12 then loseLink link (modLink link (fun x => { x with lock := false }) s) else s)

/-! ### Commands (Table 16.9) -/

/-- CLUSTER_SET (R411) -/
def execClusterSet (e : Entry) : State → Host.Outcome State Fault Refusal := mailbox (opGset 0x0801) (gset (· == 0x0B00)) e

/-- CLUSTER_GET (R411) -/
def execClusterGet (e : Entry) : State → Host.Outcome State Fault Refusal := mailbox (opGget 0x0802) (gget (· == 0x0B00) noData) e

/-- The twin role: 0 none, 1 active, 2 standby (SYS_STATUS). -/
def twinRole (s : State) : Nat := if activeTwin s then 1 else if twinEnabled s && standby s then 2 else 0

/-- Microseconds left of the lease: at the active twin until its renewal would lapse, at the standby until 1 ms after the last LEASE. -/
def leaseLeft (s : State) : Nat :=
  let t := s.chord.twin
  if t.held then 1000 - since s t.leaseSentAt / usTicks
  else match t.leaseAt with
    | some a => 1000 - since s a / usTicks
    | none => 0

/-- TWIN_STATUS (R439): the layout is the model's (log 45). -/
def twinStatusBytes (s : State) : List Byte :=
  let t := s.chord.twin
  leBytes 1 (twinRole s) ++ leBytes 1 (b2n t.synced) ++ leBytes 1 (bitMap (([1, 2, 3, 4, 6].filter (precondition s)).map (· - 1))) ++ zeros 1
    ++ leBytes 4 t.gen.toNat ++ leBytes 4 (leaseLeft s) ++ leBytes 8 (ofSigned 64 (theta s (twinId s) / 65536)) ++ leBytes 5 t.backfill ++ zeros 7

/-- TWIN_STATUS -/
def execTwinStatus (e : Entry) : State → Host.Outcome State Fault Refusal := mailbox (opRead 0x0803 0) (fun _ s => .ok (twinStatusBytes s) s) e

/-- A member's entry of CLUSTER_STATUS (R439, log 45). -/
def memberBytes (s : State) (m : Nat) : List Byte :=
  let x := memberOf s m
  if m = memberId s then
    leBytes 1 1 ++ leBytes 1 s.mode.mode.code ++ leBytes 2 (ownLinks s) ++ leBytes 4 s.cfg.epoch.toNat ++ leBytes 2 s.fw.runCompat.toNat ++ zeros 22
  else
    leBytes 1 (b2n x.present) ++ leBytes 1 x.mode ++ leBytes 2 x.links.toNat ++ leBytes 4 x.epoch ++ leBytes 2 x.compat ++ zeros 6
      ++ leBytes 8 (ofSigned 64 (theta s m / 65536)) ++ zeros 8

/-- CLUSTER_STATUS (R439) -/
def execClusterStatus (e : Entry) : State → Host.Outcome State Fault Refusal :=
  mailbox (opRead 0x0804 0) (fun _ s => .ok ((List.range 16).map (memberBytes s)).flatten s) e

/-- TWIN_RESYNC (R427): a standby of a twin pair begins a bulk resynchronization. -/
def twinResync (c : Cmd) (s : State) : Answer :=
  if !(standby s && twinEnabled s) then .fail .modeRefused 0 s
  else if s.chord.twin.job.isSome then .fail .busy 0 s
  else match startJob c s with
    | .done st d r s' => if st = .accepted then .done st d r (beginResync (some (leNat r)) s') else .done st d r s'
    | .wait s' => .wait s'

/-- TWIN_RESYNC -/
def execTwinResync (e : Entry) : State → Host.Outcome State Fault Refusal :=
  mailbox { code := 0x0805, modes := modesSB, len := lenIs 0, read := false } twinResync e

/-- CHORD_COUNTERS_GET (R440): instance a link, or 0xFFFF for the chip. -/
def execChordCountersGet (e : Entry) : State → Host.Outcome State Fault Refusal :=
  mailbox (opRead 0x0806 8) (fun c s =>
    let r := ctrReq c.req
    if r.inst < 12 then ctrTable r .chord r.inst 29 s else if r.inst = 0xFFFF then ctrTable r .chip 0 7 s else .bad 0 s) e

/-- TWIN_HEALTH_GET (R436): the peer's last report. -/
def execTwinHealthGet (e : Entry) : State → Host.Outcome State Fault Refusal :=
  mailbox (opRead 0x0807 0) (fun _ s => .ok s.chord.twin.health s) e

end Sys2Proof.Machine
end

