-- ==== Sys2Proof/Machine/HostRegs.lean ====
section
/-!
DEFINITION. Meanings of the BAR0 accesses to queues, event rings and boot registers (R53 to R62, R70
to R74).
-/
namespace Sys2Proof.Machine

/-- The registers of MQq answer a port: in the modes in which the mailboxes run (R73), and MQ15 also
through the open extension window (R491, R505). -/
def mqAnswers (s : State) (p : HostPort) (q : Nat) : Bool :=
  alive s && s.mode.mode.mailboxes && decide (q < 16) && (nativeBar0 s p || (s.compat.extOpen && decide (q = 15)))

/-- The registers of EVn answer a port. -/
def evAnswers (s : State) (p : HostPort) (n : Nat) : Bool :=
  alive s && s.mode.mode.mailboxes && decide (n < 4) && nativeBar0 s p

/-- A write to a queue's register: from the owner it acts; from another port it is ignored and sets
FOREIGN_WRITE (R55). -/
def queueWrite (p : HostPort) (q : Nat) (f : Queue → Queue) (s : State) : State :=
  if mqAnswers s p q then
    modQueue q (fun x => if x.owner = some p then f x else { x with foreignWrite := true }) s
  else s

/-- The doorbell rule (R61). -/
def tailWrite (v : W16) (x : Queue) : Queue :=
  if x.qstate = .running ∧ (v - x.sqHead).toNat ≤ 256 then { x with sqTail := v } else { x with dbErr := true }

/-- A doorbell is rung: in QUIESCENT it is also wake source 0x0 (R73). -/
def doorbell (p : HostPort) (q : Nat) (v : W16) (s : State) : State :=
  let s' := queueWrite p q (tailWrite v) s
  if mqAnswers s p q then wakeBy 0 s' else s'

/-- The completion doorbell rule (R62). -/
def headWrite (v : W16) (x : Queue) : Queue :=
  if x.qstate = .disabled ∨ (x.cqTail - v).toNat ≤ 256 then { x with cqHead := v } else { x with dbErr := true }

/-- VECTOR and IRQ_EN of a write to MQq_CTRL; PRIO only while DISABLED (R54). -/
def ctrlFields (v : W32) (x : Queue) : Queue :=
  { x with vector := v.extractLsb' 16 5, irqEn := v.getLsbD 0, prio := if x.qstate = .disabled then v.extractLsb' 24 2 else x.prio }

/-- A write of MQq_CTRL with ENABLE = 1 (R72): a DISABLED queue starts from the current indices; to a
DRAINING or HALTED queue it is ignored. -/
def ctrlEnable (v : W32) (x : Queue) : Queue :=
  match x.qstate with
  | .disabled => { ctrlFields v x with enable := true, qstate := .running, sqHead := x.sqTail, cqTail := x.cqHead }
  | .running => ctrlFields v x
  | .draining => x
  | .halted => x

/-- A write of MQq_CTRL with ENABLE = 0 (R72): RUNNING becomes DRAINING, HALTED becomes DISABLED. -/
def ctrlDisable (v : W32) (x : Queue) : Queue :=
  match x.qstate with
  | .disabled => ctrlFields v x
  | .running => { ctrlFields v x with enable := false, qstate := .draining }
  | .draining => ctrlFields v x
  | .halted => { ctrlFields v x with enable := false, qstate := .disabled }

/-- A queue that has left RUNNING: its crypto contexts close (R399). -/
def leftRunning (q : Nat) (s : State) : State := if (queueOf s q).qstate = .running then s else closeQueueContexts q s

/-- A write of MQq_SEQ_NEXT: only while DISABLED (R54); it sets N and empties the reply cache (R72). -/
def seqWrite (v : W16) (x : Queue) : Queue :=
  if x.qstate = .disabled then { x with seqNext := v, cache := [] } else x

/-- A base write: only while DISABLED, and ignored where bits [11:0] are not zero (R54). -/
def baseWrite (lo : Bool) (v : W32) (old : W64) : W64 :=
  if lo then (if v.toNat % 4096 = 0 then (old &&& 0xFFFFFFFF00000000) ||| v.setWidth 64 else old)
  else (old &&& 0xFFFFFFFF) ||| (v.setWidth 64 <<< 32)

/-- A claim of an unowned queue (R55). -/
def claimQueue (p : HostPort) (q : Nat) (s : State) : State :=
  if mqAnswers s p q then modQueue q (fun x => if x.owner = none then { x with owner := some p } else x) s else s

/-- A release by the owner of a DISABLED queue (R55). -/
def releaseQueue (p : HostPort) (q : Nat) (s : State) : State :=
  queueWrite p q (fun x => if x.qstate = .disabled then { x with owner := none } else x) s

/-- ENABLE, VECTOR and IRQ_EN of a write to EVn_CTRL. -/
def ringFields (v : W32) (r : EventRing) : EventRing :=
  { r with enable := v.getLsbD 31, vector := v.extractLsb' 16 5, irqEn := v.getLsbD 0 }

/-- OWNER of a write to EVn_CTRL. -/
def ringOwnerField (v : W32) : Nat := (v.extractLsb' 1 2).toNat

/-- A claim of an unowned event ring with its other fields (R55). -/
def claimRing (p : HostPort) (n : Nat) (v : W32) (s : State) : State :=
  if evAnswers s p n ∧ (ringOf s n).owner = none ∧ ringOwnerField v = portCode p then
    ringService n (setRing n { ringFields v (ringOf s n) with owner := some p } s)
  else s

/-- A write of EVn_CTRL by the owner that keeps the ring (R55, R70): held events are written once it is enabled. -/
def keepRing (p : HostPort) (n : Nat) (v : W32) (s : State) : State :=
  if evAnswers s p n ∧ (ringOf s n).owner = some p then ringService n (setRing n (ringFields v (ringOf s n)) s) else s

/-- A write of EVn_CTRL by the owner with OWNER = 0b00 (R55): the ring is released when it was
disabled, or when the write disables it; otherwise the other fields are taken and it keeps its owner. -/
def releaseRing (p : HostPort) (n : Nat) (v : W32) (s : State) : State :=
  if evAnswers s p n ∧ (ringOf s n).owner = some p then
    let r := ringOf s n
    let w := ringFields v r
    if !r.enable || !w.enable then setRing n { w with enable := false, owner := none } s
    else ringService n (setRing n w s)
  else s

/-- Any write of EVn_CTRL. -/
def writeRingCtrl (p : HostPort) (n : Nat) (v : W32) (s : State) : State :=
  match (ringOf s n).owner with
  | none => claimRing p n v s
  | some _ => if ringOwnerField v = 0 then releaseRing p n v s else keepRing p n v s

/-- A write of EVn_CONS by the owner (R71): taken when it lies at EVn_PROD or at most 4,096 behind. -/
def consWrite (p : HostPort) (n : Nat) (v : W32) (s : State) : State :=
  let r := ringOf s n
  if evAnswers s p n ∧ r.owner = some p ∧ (r.prod - v).toNat ≤ 4096 then ringService n (setRing n { r with cons := v } s) else s

/-- The boot ROM starts on a host image, or counts it failed where its length is out of limits (R74). -/
def serveBootDoorbell (s : State) : State :=
  let b := s.host.boot
  let b := { b with doorbellHeld := false }
  if b.len = 0 ∨ 0x00800000 < b.len.toNat then { s with host := { s.host with boot := b } }
  else { s with host := { s.host with boot := { b with verifying := some { since := s.now, addr := b.addr, len := b.len } } } }

/-- A write of BOOT_DOORBELL (R74): from H0, in BOOT, with the value 0x0000_0001. It is held while the
drives are read; one written while an image is being verified is ignored (log 9). -/
def bootDoorbell (p : HostPort) (v : W32) (s : State) : State :=
  if p = .h0 ∧ nativeBar0 s .h0 ∧ s.mode.mode = .boot ∧ s.mode.bootHalt = false ∧ v = 1 then
    if s.host.boot.hostPhase then (if s.host.boot.verifying.isSome then s else serveBootDoorbell s)
    else { s with host := { s.host with boot := { s.host.boot with doorbellHeld := true } } }
  else s

/-! ### Meanings of the rows -/

def execBootDoorbell (port : HostPort) (v : W32) (s : State) : Host.Outcome State Fault Refusal :=
  event 0 (bootDoorbell port v) s

def execMqSqTailWrite (port : HostPort) (q : Nat) (v : W32) (s : State) : Host.Outcome State Fault Refusal :=
  event 0 (doorbell port q (v.setWidth 16)) s

def execMqCqHeadWrite (port : HostPort) (q : Nat) (v : W32) (s : State) : Host.Outcome State Fault Refusal :=
  event 0 (queueWrite port q (headWrite (v.setWidth 16))) s

def execMqCtrlEnable (port : HostPort) (q : Nat) (v : W32) (s : State) : Host.Outcome State Fault Refusal :=
  event 0 (fun s => leftRunning q (queueWrite port q (if v.getLsbD 31 then ctrlEnable v else ctrlDisable v) s)) s

def execMqCtrlDisable (port : HostPort) (q : Nat) (v : W32) (s : State) : Host.Outcome State Fault Refusal :=
  event 0 (fun s => leftRunning q (queueWrite port q (if v.getLsbD 31 then ctrlEnable v else ctrlDisable v) s)) s

def execMqSeqNextWrite (port : HostPort) (q : Nat) (v : W32) (s : State) : Host.Outcome State Fault Refusal :=
  event 0 (queueWrite port q (seqWrite (v.setWidth 16))) s

def execMqClaim (port : HostPort) (q : Nat) (v : W32) (s : State) : Host.Outcome State Fault Refusal :=
  event 0 (if v = 1 then claimQueue port q else if v = 0 then releaseQueue port q else id) s

def execMqRelease (port : HostPort) (q : Nat) (v : W32) (s : State) : Host.Outcome State Fault Refusal :=
  event 0 (if v = 0 then releaseQueue port q else if v = 1 then claimQueue port q else id) s

def execEvConsWrite (port : HostPort) (n : Nat) (v : W32) (s : State) : Host.Outcome State Fault Refusal :=
  event 0 (consWrite port n v) s

def execEvCtrlClaim (port : HostPort) (n : Nat) (v : W32) (s : State) : Host.Outcome State Fault Refusal :=
  event 0 (writeRingCtrl port n v) s

def execEvCtrlRelease (port : HostPort) (n : Nat) (v : W32) (s : State) : Host.Outcome State Fault Refusal :=
  event 0 (writeRingCtrl port n v) s

def execEvCtrlEnable (port : HostPort) (n : Nat) (v : W32) (s : State) : Host.Outcome State Fault Refusal :=
  event 0 (writeRingCtrl port n v) s

end Sys2Proof.Machine
end

