-- ==== Sys2Proof/Machine/Compat.lean ====
section
/-!
DEFINITION. The UR-340 register window (R491, R492, R505) and the compatibility profile (R489).
-/
namespace Sys2Proof.Machine

/-- The UR register map answers on H0 (R490, R491, R73). -/
def urAnswers (s : State) : Bool := s.compat.inForce && s.mode.mode.mailboxes

/-- A write to a UR register. -/
def urWrite (f : CompatState → CompatState) (s : State) : State := if urAnswers s then { s with compat := f s.compat } else s

/-- Every head and tail to 0 (Table 19.2, RING_RESET). -/
def ringReset (c : CompatState) : CompatState :=
  { c with cmdTail := 0, cmdHead := 0, rspHead := 0, rspTail := 0, evtHead := 0, evtTail := 0 }

/-- A write to UR_CTRL (Table 19.2): RING_RESET acts with RUN = 0. -/
def urCtrl (v : W32) (c : CompatState) : CompatState :=
  let c' := if v.getLsbD 2 && !c.run then ringReset c else c
  { c' with run := v.getLsbD 0, irqEn := v.getLsbD 1 }

/-- A write to EXT_UNLOCK (R505). -/
def extUnlock (v : W32) (c : CompatState) : CompatState := if v = 0x5348554D then { c with extOpen := true } else c

/-- A write to EXT_FEATURES: a 1 sets its bit while the window is open (Table 19.2, R505). -/
def extFeatures (v : W32) (c : CompatState) : CompatState :=
  if c.extOpen then { c with features := c.features ||| v.setWidth 9 } else c

/-- H0 has been down for more than 100 ms: RUN clears (R492). -/
def urLinkTimeout (s : State) : State :=
  match s.host.h0.downAt with
  | some t => if !s.host.h0.linkUp && decide (100 * msTicks < since s t) then { s with compat := { s.compat with run := false } } else s
  | none => s

/-- SYS_COMPAT_PROFILE_LOAD (R489): the battery domain, and the CONFIG region when an array is mounted. -/
def profileLoad (mounted : Bool) (c : Cmd) (s : State) : Answer :=
  if fld c.req 0 2 ≠ 0x0402 then .bad 0 s
  else
    let on := bit (byteAt c.req 2) 0
    let vendor : W16 := BitVec.ofNat 16 (fld c.req 4 2)
    let id : W16 := BitVec.ofNat 16 (fld c.req 6 2)
    let x := s.compat
    .ok [] { s with compat := { x with profile := on, subsysVendor := vendor, subsysId := id,
                                       saved := if mounted then some (on, vendor, id) else x.saved } }

/-! ### Meanings of the rows -/

def execUrCtrlRun (v : W32) (s : State) : Host.Outcome State Fault Refusal := event 0 (urWrite (urCtrl v)) s

def execUrRingReset (v : W32) (s : State) : Host.Outcome State Fault Refusal := event 0 (urWrite (urCtrl v)) s

def execUrCmdTailWrite (v : W32) (s : State) : Host.Outcome State Fault Refusal :=
  event 0 (urWrite (fun c => { c with cmdTail := v.setWidth 16 })) s

def execUrRspHeadWrite (v : W32) (s : State) : Host.Outcome State Fault Refusal :=
  event 0 (urWrite (fun c => { c with rspHead := v.setWidth 16 })) s

def execUrEvtHeadWrite (v : W32) (s : State) : Host.Outcome State Fault Refusal :=
  event 0 (urWrite (fun c => { c with evtHead := v.setWidth 16 })) s

def execExtUnlock (v : W32) (s : State) : Host.Outcome State Fault Refusal := event 0 (urWrite (extUnlock v)) s

def execExtFeaturesWrite (v : W32) (s : State) : Host.Outcome State Fault Refusal := event 0 (urWrite (extFeatures v)) s

def execUrH0LinkTimeout (dt : Nat) (s : State) : Host.Outcome State Fault Refusal := event dt urLinkTimeout s

end Sys2Proof.Machine
end

