-- ==== Sys2Proof/Machine/IntegCmd.lean ====
section
/-!
DEFINITION. Integrity, self-test, health report and dump: the DIAG commands, memory errors (R443 to R445),
command-started and continuous self-test (R451 to R453), and the steps of a dump (R459 to R464).
-/
namespace Sys2Proof.Machine

/-! ### Health report and counters -/

/-- DIAG_HEALTH_GET (R454) -/
def execDiagHealthGet (e : Entry) : State → Host.Outcome State Fault Refusal :=
  mailbox (opRead 0x0A01 0) (fun _ s => let s := countReport s; .ok (healthReport s) s) e

/-- DIAG_HEALTH_RESOLVE (R457): names an entry by LOCUS and CODE. -/
def healthResolveCmd (c : Cmd) (s : State) : Answer :=
  let p := fun (e : HealthEntry) => e.locus == fld c.req 0 4 && e.code == fld c.req 4 2
  if s.integ.health.any p then .ok [] (healthResolve p s) else .fail .notFound 0 s

/-- DIAG_HEALTH_RESOLVE -/
def execDiagHealthResolve (e : Entry) : State → Host.Outcome State Fault Refusal := mailbox (opAll 0x0A02 6) healthResolveCmd e

/-- DIAG_PARAM_SET (R463) -/
def execDiagParamSet (e : Entry) : State → Host.Outcome State Fault Refusal := mailbox (opGset 0x0A05) (gset (· == 0x0C00)) e

/-- DIAG_PARAM_GET (R463) -/
def execDiagParamGet (e : Entry) : State → Host.Outcome State Fault Refusal := mailbox (opGget 0x0A06) (gget (· == 0x0C00) noData) e

/-- DIAG_ECC_COUNTERS_GET (R466): the two counts of each memory of Table 17.2, then the seven named. -/
def execDiagEccCountersGet (e : Entry) : State → Host.Outcome State Fault Refusal :=
  mailbox (opRead 0x0A0B 8) (fun c s => let r := ctrReq c.req; if r.inst = 0xFFFF then ctrTable r .ecc 0 25 s else .bad 0 s) e

/-- A list of locus codes. -/
def lociBytes (l : List Nat) : List Byte := (l.map (leBytes 4)).flatten

/-- DIAG_REPAIR_GET (R466): three counts, then the loci (log 47). -/
def repairBytes (s : State) : List Byte :=
  let i := s.integ
  leBytes 2 i.spareRows.length ++ leBytes 2 i.spareFacets.length ++ leBytes 2 i.candidates.length ++ zeros 2
    ++ lociBytes i.spareRows ++ lociBytes i.spareFacets ++ lociBytes i.candidates

/-- DIAG_REPAIR_GET -/
def execDiagRepairGet (e : Entry) : State → Host.Outcome State Fault Refusal := mailbox (opRead 0x0A0A 0) (fun _ s => .ok (repairBytes s) s) e

/-! ### Crossings (R21) -/

/-- Depth and instances of a crossing (R13, Table 1.4); an instance of X10, X13 and X14 is a direction. -/
def crossingSize (x : Nat) : Option (Nat × Nat) :=
  match x with
  | 1 => some (64, 8) | 2 => some (256, 8) | 3 => some (128, 1) | 4 => some (512, 256) | 5 => some (64, 8) | 6 => some (1024, 8)
  | 7 => some (32, 66) | 8 => some (4096, 1) | 9 => some (1024, 8) | 10 => some (2048, 2) | 11 => some (256, 8) | 12 => some (64, 66)
  | 13 => some (1024, 2) | 14 => some (1024, 2)
  | _ => none

/-- Committed items not released. X01 to X03 and X10 hold none between two steps. -/
def crossingItems (s : State) (x i : Nat) : Nat :=
  match x with
  | 4 => (rxQueueOf s i).length
  | 5 => (Sparse.get (fun _ => []) s.radio.x05 i).length
  | 6 => (ingressList s (0x48 + i)).length
  | 7 => (egressList s i).length
  | 8 => s.store.journal.x08.length
  | 9 => (egressList s (0x48 + i)).length
  | 11 => (Sparse.get (fun _ => []) s.radio.x11 i).length
  | 12 => (ingressList s i).length
  | 13 => if i = 0 then (ingressList s hostPort).length else (egressList s hostPort).length
  | 14 => if i = 0 then (ingressList s chordPort).length else (egressList s chordPort).length
  | _ => 0

/-- A flush of the crossing is not complete. -/
def flushPending (s : State) (x i : Nat) : Bool :=
  s.sw.flushes.any (fun f => egressCrossing f.port == (x, i) || (f.ingress && ingressCrossing f.port == (x, i)))

/-- The status word of a crossing (Table 1.6). -/
def crossingWord (s : State) (x i depth : Nat) : Nat :=
  let n := min depth (crossingItems s x i)
  let key := x * 1024 + i
  b2n (flushPending s x i) * 2 ^ 31 + b2n (n == depth) * 2 ^ 30 + b2n (n == 0) * 2 ^ 29
    + b2n (ctrGet s .lattice key 0 != Sparse.get (fun _ => 0) s.integ.noCreditRead key) * 2 ^ 28 + n * 2 ^ 13 + (depth - n)

/-- DIAG_LATTICE_STATUS (R21): the read clears NOCREDIT_SEEN. -/
def latticeStatus (c : Cmd) (s : State) : Answer :=
  let x := byteAt c.req 0
  let i := fld c.req 2 2
  match crossingSize x with
  | some (depth, n) =>
    if i < n then
      let key := x * 1024 + i
      .ok (leBytes 4 (crossingWord s x i depth) ++ ctrBytes s .lattice key 0 3)
        (modInteg (fun y => { y with noCreditRead := Sparse.set (fun _ => 0) y.noCreditRead key (ctrGet s .lattice key 0) }) s)
    else .fail .notFound 0 s
  | none => .fail .notFound 0 s

/-- DIAG_LATTICE_STATUS -/
def execDiagLatticeStatus (e : Entry) : State → Host.Outcome State Fault Refusal := mailbox (opRead 0x0A04 4) latticeStatus e

/-! ### Memory errors (R441, R443 to R445) -/

/-- The row of Table 17.2 of a word, from 0. -/
def memRow : MemWord → Nat
  | .buffer _ => 0
  | .nodeRecord _ => 1 | .l2 _ => 1 | .v6 _ => 1 | .v4 _ => 1 | .stage _ _ => 1 | .counter _ => 1
  | .facet _ => 2 | .apex => 3 | .staging _ => 4 | .samples => 5 | .keySlot _ => 6 | .lattice _ => 7 | .otp => 8

/-- The memory corrects: every code but parity. -/
def corrects (m : MemWord) : Bool := memRow m != 5 && memRow m != 7

/-- The replica that an egress reads ends: on the line with an inverted FCS, elsewhere it is discarded (R441, R443). -/
def abortReplica (p : Nat) (s : State) : State :=
  match egressList s p with
  | r :: rest =>
    let s := setEgressList p rest s
    if isMac p then ctrInc .ecc 0 19 (emit (.frame p (egressFrame s r) true) s) else s
  | [] => s

/-- A request on X05 or X11 is not started: a missed cell, but for an acknowledgement (R182). -/
def dropRequest (k : Nat) (ack : Bool) (s : State) : State :=
  if ack then modRadio (fun x => { x with x05 := Sparse.update (fun _ => []) x.x05 k (·.drop 1) }) s
  else match Sparse.get (fun _ => []) s.radio.x11 k with
    | q :: _ => ppduRefused q (modRadio (fun x => { x with x11 := Sparse.update (fun _ => []) x.x11 k (·.drop 1) }) s)
    | [] => s

/-- The consumer of a crossing discards an item (R441). -/
def dropItem (i : CrossItem) (s : State) : State :=
  match i with
  | .descriptor f => setRxQueue f ((rxQueueOf s f).drop 1) s
  | .ingress p => setIngressList p ((ingressList s p).drop 1) s
  | .egress p => abortReplica p s
  | .journal => modJournal (fun j => { j with x08 := j.x08.drop 1 }) s
  | .request k ack => dropRequest k ack s

/-- A Facet halts: the frames it holds are lost (Table 17.2). -/
def haltFacet (f : Nat) (s : State) : State :=
  let s := setRxQueue f [] (modInteg (fun i => { i with facetsHalted := (f :: i.facetsHalted).eraseDups }) s)
  modMesh (fun m => { m with waiters := m.waiters.filter (fun w => w.facet != f), due := m.due.filter (fun d => d.facet != f) }) s

/-- What an uncorrectable error does, by memory (Table 17.2, last column). -/
def memEffect (m : MemWord) (locus : Nat) (s : State) : State :=
  let table := fun s => ctrInc .ecc 0 23 s
  match m with
  | .buffer p => abortReplica p (modInteg (fun i => { i with cellsRetired := i.cellsRetired + 1 }) (ctrInc .ecc 0 22 s))
  | .nodeRecord n => recordBad n (table s)
  | .l2 place => l2Set place none (table s)
  | .v6 place => setL3Table true (setEntry place none s.sw.v6) (table s)
  | .v4 place => setL3Table false (setEntry place none s.sw.v4) (table s)
  | .stage n place => cfgSetLive (0x0600 + n) 5 place 0 (table s)
  | .counter key => table { s with ctr := Sparse.set (fun _ => 0) s.ctr key 0 }
  | .facet f => let s := haltFacet f s; if servingMode (datapath s) then fatal 2 locus s else s
  | .apex => fatal 1 locus s
  | .staging i => dropItem i (ctrInc .ecc 0 24 s)
  | .samples => s
  | .keySlot n => markBad n s
  | .lattice i => dropItem i (latticeParity locus s)
  | .otp => if s.mode.mode = .boot ∨ s.mode.mode = .selftest then { s with mode := { s.mode with selftestFail := true } } else s

/-- An uncorrectable error: counted, reported and recorded, then it acts (R443). -/
def memUncorrectable (m : MemWord) (locus addr : Nat) (s : State) : State :=
  let s := ctrInc .ecc 0 (2 * memRow m + 1) s
  let s := raiseLocus 0x0A01 (BitVec.ofNat 32 locus) (leBytes 1 (memRow m) ++ zeros 7 ++ leBytes 8 addr) s
  memEffect m locus (match m with | .lattice _ => s | _ => healthAdd locus 3 3 s)

/-- The third correction of a row within 24 h makes it a repair candidate, while the list has room (R445). -/
def noteCorrection (locus : Nat) (s : State) : State :=
  let l := ((Sparse.get (fun _ => []) s.integ.corrected locus).filter (fun t => decide (s.now < t + 86400 * secTicks))) ++ [s.now]
  let s := modInteg (fun i => { i with corrected := Sparse.set (fun _ => []) i.corrected locus l }) s
  if 3 ≤ l.length ∧ !s.integ.candidates.contains locus ∧ s.integ.candidates.length < 64 then
    healthAdd locus 2 2 (modInteg (fun i => { i with candidates := i.candidates ++ [locus] }) s)
  else s

/-- A corrected error: written back, counted and recorded (R443, Table 17.7). -/
def memCorrected (m : MemWord) (locus : Nat) (s : State) : State :=
  noteCorrection locus (healthAdd locus 1 1 (ctrInc .ecc 0 (2 * memRow m) s))

/-- SCRUB_PASS: the scrubber, or a read, finds an error in the row `locus` of a memory (R443). -/
def execScrubPass (dt : Nat) (word : MemWord) (uncorrectable : Bool) (locus addr : Nat) : State → Host.Outcome State Fault Refusal :=
  event dt (fun s =>
    if uncorrectable then memUncorrectable word locus addr s
    else if corrects word then memCorrected word locus s
    else s)

/-! ### Tests (R451 to R453) -/

/-- A locus lies within another: equal down to the first field that is all ones (R9). -/
def locusWithin (outer inner : Nat) : Bool :=
  let f := fun (v lo w : Nat) => v / 2 ^ lo % 2 ^ w
  let rec go : List (Nat × Nat) → Bool
    | [] => true
    | (lo, w) :: r => if f outer lo w = 2 ^ w - 1 ∧ lo < 29 then true else f outer lo w == f inner lo w && go r
  go [(31, 1), (29, 2), (26, 3), (21, 5), (16, 5), (10, 6), (0, 10)]

/-- The loci that DIAG_BIST_RUN names. -/
def bistLoci (req : List Byte) : List Nat := (pieces 4 (fld req 0 2) (req.drop 2)).map leNat

/-- Destructive tests of the key store only in MANUFACTURE and DECOMMISSIONED (Table 15.14). -/
def bistPermitted (s : State) (locus : Nat) : Bool :=
  !locusWithin (subsysLocus 3 1) locus || [LifeCycle.manufacture, .decommissioned].contains s.mode.lifecycle

/-- DIAG_BIST_RUN (R451): `inUse` where a running path uses a region named. -/
def bistRun (inUse : Bool) (c : Cmd) (s : State) : Answer :=
  if !(bistLoci c.req).all (bistPermitted s) then .fail .modeRefused 0 s
  else if inUse then .fail .busy 0 s
  else startJob c s

/-- DIAG_BIST_RUN -/
def execDiagBistRun (e : Entry) (inUse : Bool) : State → Host.Outcome State Fault Refusal :=
  mailbox { code := 0x0A03, modes := modesSB, len := fun r => decide (2 ≤ r.length) && r.length == 2 + 4 * fld r 0 2, read := false }
    (bistRun inUse) e

/-- A test of a unit failed, in service: a health entry of code 0x0020 (R451, R452, log 48). -/
def testFailed (locus : Nat) (s : State) : State := healthAdd locus 0x20 3 s

/-- BIST_RUN_DONE: the failures are reported; a restore that does not match is a fatal error (R451). -/
def execBistRunDone (dt : Nat) (failed : List Nat) (restored : Bool) : State → Host.Outcome State Fault Refusal :=
  event dt (fun s =>
    match runningJob s 0x0A03 with
    | none => s
    | some j =>
      let l := (bistLoci j.req).filter failed.contains
      if restored then finishJob j .ok 0 (leBytes 4 l.length ++ leBytes 4 (l.headD 0xFFFFFFFF)) (l.foldl (fun s x => testFailed x s) s)
      else fatal 8 ((bistLoci j.req).headD 0xFFFFFFFF) s)

/-- A continuous self-test step begins on a unit (R452); after a whole cycle a new one begins. -/
def stepBegin (locus : Nat) (s : State) : State :=
  let s := if s.integ.cyclePct = 100 then modInteg (fun i => { i with cyclePct := 0, cycleFailed := [] }) s else s
  modInteg (fun i => { i with stepUnit := some locus }) s

/-- The step ends (R452, R457): `pct` is the progress of the cycle. -/
def stepEnd (locus pct : Nat) (passed : Bool) (s : State) : State :=
  let s := modInteg (fun i => { i with stepUnit := none, cyclePct := max i.cyclePct (min 100 pct),
                                       cycleFailed := if passed then i.cycleFailed else i.cycleFailed ++ [locus] }) s
  if passed then healthResolve (fun e => locusWithin locus e.locus) s else testFailed locus s

/-- SELFTEST_STEP: a standby's continuous self-test begins a step, or ends the one in progress (R452). -/
def execSelftestStep (dt locus pct : Nat) (passed : Option Bool) : State → Host.Outcome State Fault Refusal :=
  event dt (fun s =>
    if !standby s then s
    else match passed, s.integ.stepUnit with
      | none, none => stepBegin locus s
      | some ok, some u => if u = locus then stepEnd locus pct ok s else s
      | _, _ => s)

/-! ### Fatal errors and dumps (R458 to R464) -/

/-- FATAL_ERROR: an error of Table 17.8 that no other step raises: APEX_UE, FACET_UE, WATCHDOG, FW_ASSERT, LATTICE_PROTOCOL,
RESTORE_FAIL. A halted boot ROM raises none. -/
def execFatalError (dt cause locus : Nat) : State → Host.Outcome State Fault Refusal :=
  event dt (fun s => if [1, 2, 5, 6, 7, 8].contains cause ∧ !s.mode.bootHalt then fatal cause locus s else s)

/-- DIAG_DUMP_FORCE (R458) -/
def execDiagDumpForce (e : Entry) : State → Host.Outcome State Fault Refusal :=
  mailbox (opAll 0x0A0C 0) (fun _ s => .ok [] (fatal 9 0xFFFFFFFF s)) e

/-- The dump and any host copy are complete: the header is rewritten, the record completes and the chip resets (R459). -/
def dumpDone (length : Nat) (s : State) : State :=
  match s.mode.mode, s.integ.dumping with
  | .dump, some (_, slot) =>
    let s := if slot = 0xFF then s else setDump slot { dumpOf s slot with state := 2, length } s
    internalReset (modInteg (fun i => { i with lastFatal := i.lastFatal.map (fun r => { r with state := 2 }), dumping := none }) s)
  | _, _ => s

/-- DUMP_COMPLETE: `length` slot bytes were used, in units of 4 KiB. -/
def execDumpComplete (dt length : Nat) : State → Host.Outcome State Fault Refusal := event dt (dumpDone length)

/-- DUMP_TIMEOUT: 20 s after entry to DUMP the chip resets; the record still shows WRITING (R50). -/
def execDumpTimeout (dt : Nat) : State → Host.Outcome State Fault Refusal :=
  event dt (fun s =>
    match s.mode.mode, s.integ.dumping with
    | .dump, some (t, _) => if 20 * secTicks ≤ since s t then internalReset s else s
    | _, _ => s)

/-- The last-fatal record as DIAG_DUMP_LIST returns it, 24 bytes; zeros where there is none (log 47). -/
def fatalBytes (r : Option LastFatal) : List Byte :=
  match r with
  | some r => leBytes 1 r.cause ++ leBytes 1 r.slot ++ leBytes 1 r.state ++ leBytes 1 (b2n r.reported) ++ leBytes 4 r.locus
      ++ leBytes 6 r.seconds ++ leBytes 4 r.nanos ++ zeros 6
  | none => zeros 24

/-- DIAG_DUMP_LIST (R464): both slot headers and the last-fatal record. -/
def execDiagDumpList (e : Entry) : State → Host.Outcome State Fault Refusal :=
  mailbox (opRead 0x0A07 0) (fun _ s => .ok ((dumpOf s 0).bytes ++ (dumpOf s 1).bytes ++ fatalBytes s.integ.lastFatal) s) e

/-- A slot that holds a dump. -/
def dumpHeld (s : State) (k : Nat) : Bool := arrayUp s && decide (2 ≤ (dumpOf s k).state)

/-- DIAG_DUMP_READ (R464) -/
def dumpRead (c : Cmd) (s : State) : Answer :=
  let k := byteAt c.req 0
  if 1 < k then .bad 0 s else if dumpHeld s k then startJob c s else .fail .notFound 0 s

/-- DIAG_DUMP_READ -/
def execDiagDumpRead (e : Entry) : State → Host.Outcome State Fault Refusal := mailbox (opAll 0x0A08 20) dumpRead e

/-- DUMP_READ_DONE: the copy ends; when it is whole the slot becomes READ (R464). The header goes to the host first
(log 49). -/
def dumpReadDone (ok : Bool) (s : State) : State :=
  match runningJob s 0x0A08 with
  | none => s
  | some j =>
    let k := byteAt j.req 0
    let h := dumpOf s k
    let room := fld j.req 16 4
    match (queueOf s j.queue).owner with
    | none => finishJob j .dmaError 0x02 [] s
    | some p =>
      if !ok then finishJob j .dmaError 0x02 [] s
      else if !dumpHeld s k then finishJob j .notFound 0 [] s
      else
        let s := emit (.hostWrite p (fld j.req 8 8) (h.bytes.take room)) s
        let s := if h.length * 4096 ≤ room then setDump k { h with state := 4 } s else s
        finishJob j .ok 0 (leBytes 4 (min room (h.length * 4096))) s

/-- DUMP_READ_DONE -/
def execDumpReadDone (dt : Nat) (ok : Bool) : State → Host.Outcome State Fault Refusal := event dt (dumpReadDone ok)

/-- DIAG_DUMP_ERASE (R464): the slot becomes EMPTY; its number keeps counting (R461). -/
def dumpErase (c : Cmd) (s : State) : Answer :=
  let k := byteAt c.req 0
  if 1 < k then .bad 0 s
  else if !arrayUp s then .fail .notFound 0 s
  else .ok [] (setDump k { DumpHead.reset with seq := (dumpOf s k).seq } s)

/-- DIAG_DUMP_ERASE -/
def execDiagDumpErase (e : Entry) : State → Host.Outcome State Fault Refusal := mailbox (opAll 0x0A09 1) dumpErase e

end Sys2Proof.Machine
end

