-- ==== Sys2Proof/Machine/Reset.lean ====
section
/-!
DEFINITION. Reset (R525, R465), the boot ROM (R36, R74), the power-up test (R446 to R450) and the entry to
CONFIG.
-/
namespace Sys2Proof.Machine

/-! ### What a reset leaves (R525, Table 17.13) -/

/-- Trigger code of the transition to BOOT (Table 2.3). -/
def resetTrigger : ResetKind → Nat
  | .powerOn => 0x02 | .pwronRst => 0x02 | .sysRst => 0x02 | .internal => 0x02 | .lifecycle => 0x0A

/-- The reset reaches the configuration space of H0 and H1, and clears the boot failure count (Table 20.8). -/
def reachesPorts : ResetKind → Bool
  | .powerOn => true | .pwronRst => true | .sysRst => false | .internal => false | .lifecycle => false

/-- A host port after a reset: its PCIe core keeps its link and its MSI-X table where the reset does not reach it. -/
def portAfter (k : ResetKind) (p : PortState) : PortState :=
  if reachesPorts k then PortState.reset else { p with held := [], pba := 0 }

/-- The host interface after a reset: MODE_CHANGED events that wait stay, but for a loss of power (R30). -/
def hostAfter (k : ResetKind) (h : HostState) : HostState :=
  let keep := k != .powerOn
  { HostState.reset with h0 := portAfter k h.h0, h1 := portAfter k h.h1, modeEvents := if keep then h.modeEvents else [],
                         modeLost := keep && h.modeLost }

/-- Time after a reset: C is 0 and Meridian takes the battery-domain clock (R356, R361). -/
def timeAfter (s : State) : TimeState :=
  let base := match s.time.mer.battery with
    | some _ => slowTime s * secUnits / 32768
    | none => 0
  { TimeState.reset with mer := { Meridian.reset with baseT := base, timeUnset := s.time.mer.battery.isNone, lastSync := s.now,
                                                      refLost := decide (s.power.ref ≠ .locked), battery := s.time.mer.battery },
                         shiftAt := s.now }

/-- What the drives hold of the journal: its blocks, and the last RELEASE record on them (R254). -/
def journalAfter (j : JournalState) : JournalState :=
  { JournalState.reset with blocks := j.blocks, tail := j.tail, nextSeq := j.nextSeq, released := lastRelease (j.blocks.filter (·.durable)) }

/-- A drive's controller after a reset of the chip. -/
def driveAfter (d : Drive) : Drive := Drive.fresh d.info

/-- The spilled tail of a deferred-delivery queue, which lies on the drives (Table 17.13). -/
def ddqAfter (q : Ddq) : Ddq := { Ddq.reset with spill := q.spill, nextSeq := q.nextSeq }

/-- The storage manager after a reset: what lies on the drives. -/
def storeAfter (t : StoreState) : StoreState :=
  { StoreState.reset with
      drives := t.drives.map (fun p => (p.1, p.2.map driveAfter)), nextIo := t.nextIo, journal := journalAfter t.journal,
      ddq := t.ddq.filterMap (fun p => if p.2.spill.isEmpty then none else some (p.1, ddqAfter p.2)), history := t.history, histAt := t.histAt,
      images := t.images, savedCal := t.savedCal, savedDuty := t.savedDuty, checkpoint := t.checkpoint, checkpointAt := t.checkpointAt, leases := t.leases }

/-- Integrity after a reset: the battery domain and the dump slots (Table 17.13). -/
def integAfter (i : IntegState) : IntegState :=
  { IntegState.reset with candidates := i.candidates, lastFatal := i.lastFatal, fatalDue := i.fatalDue, dumps := i.dumps }

/-- The radio after a reset: one-time-programmable storage and the coexistence pins. -/
def radioAfter (r : RadioState) : RadioState :=
  { RadioState.reset with regSlots := r.regSlots, regLocked := r.regLocked, grants := r.grants }

/-- The compatibility interface after a reset: the profile of the battery domain decides (R489, R490). -/
def compatAfter (c : CompatState) : CompatState :=
  { CompatState.reset with profile := c.profile, subsysVendor := c.subsysVendor, subsysId := c.subsysId, profileLost := c.profileLost,
                           saved := c.saved, inForce := c.profile }

/-- Modes after a reset: BOOT; DUMP_INCOMPLETE as R460 states. -/
def modeAfter (k : ResetKind) (s : State) : ModeState :=
  { ModeState.reset with lifecycle := s.mode.lifecycle, failedResets := if reachesPorts k then 0 else s.mode.failedResets,
                         dumpIncomplete := s.integ.lastFatal.any (fun r => r.state == 1 && !r.reported), releasedAt := s.now, enteredAt := s.now }

/-- The state after a reset, before its MODE_CHANGED. -/
def afterReset (k : ResetKind) (s : State) : State :=
  let t := keyReset s
  { State.reset with
      pending := s.pending, now := s.now, out := s.out, free := s.free, host := hostAfter k s.host, mode := modeAfter k s,
      fw := { s.fw with restart := none }, fuses := s.fuses, compat := compatAfter s.compat,
      power := { s.power with phase := .running, resetOutN := true, convOff := 0, drivesReleased := false, noAnswer := [] },
      time := timeAfter s, chord := { ChordState.reset with twin := { TwinState.reset with genHigh := s.chord.twin.genHigh } },
      store := storeAfter s.store, integ := integAfter s.integ, keys := t.keys, radio := radioAfter s.radio }

/-- The boot ROM sets REPORTED of the last-fatal record (R460). -/
def markReported (s : State) : State :=
  modInteg (fun i => { i with lastFatal := i.lastFatal.map (fun r => { r with reported := true }) }) s

/-- A reset is released: transition 1 or 3, to BOOT. -/
def releaseReset (k : ResetKind) (s : State) : State :=
  let old := s.mode.mode
  raiseModeChanged old.code Mode.boot.code (resetTrigger k) none (markReported (afterReset k s))

/-- RESET_RELEASE: the release delay of the reset that is asserted ends (Table 20.8). -/
def execResetRelease (dt : Nat) : State → Host.Outcome State Fault Refusal :=
  occur dt (fun s =>
    match s.power.phase with
    | .inReset k => releaseReset k s
    | _ => s)

/-! ### The boot ROM (R36, R74, R406) -/

/-- The boot ROM runs and has not halted. -/
def bootRuns (s : State) : Bool := decide (s.mode.mode = .boot) && !s.mode.bootHalt

/-- The drives have been read: their resets are released, and where VBAT was lost the CONFIG region's copy of the
profile decides (R489, Table 20.6). -/
def drivesRead (s : State) : State :=
  let c := s.compat
  let c := match c.profileLost, c.saved with
    | true, some (on, vendor, id) => { c with profile := on, subsysVendor := vendor, subsysId := id, inForce := on, profileLost := false }
    | _, _ => c
  { s with compat := c, power := { s.power with drivesReleased := true } }

/-- Transition 4: the image runs, the Perimeter is built from its region table and locked (R406), the security
die and the regulatory record are read, and SELFTEST is entered with trigger 0x03. -/
def enterSelftest (version : W32) (compat : W16) (table : List Nat) (s : State) : State :=
  let s := regBoot (keyBoot (lockPerimeter table s))
  let s := { s with fw := { s.fw with runVersion := version, runCompat := compat }, host := { s.host with boot := BootRegs.reset },
                    mode := { s.mode with mode := .selftest, enteredAt := s.now } }
  raiseModeChanged Mode.boot.code Mode.selftest.code 0x03 none s

/-- DRIVE_IMAGE_VERIFIED: while the ROM reads the drives; a held doorbell is discarded (R36, R74). -/
def execDriveImageVerified (dt : Nat) (table : List Nat) : State → Host.Outcome State Fault Refusal :=
  event dt (fun s =>
    if bootRuns s && !s.host.boot.hostPhase && decide (since s s.mode.releasedAt ≤ 200 * msTicks) then
      enterSelftest s.fw.inForce.version s.fw.inForce.compat table (drivesRead s)
    else s)

/-- DRIVE_IMAGE_TIMEOUT: 200 ms after release the ROM turns to host images; a held doorbell is served at once (R74). -/
def execDriveImageTimeout (dt : Nat) : State → Host.Outcome State Fault Refusal :=
  event dt (fun s =>
    if bootRuns s && !s.host.boot.hostPhase && decide (200 * msTicks ≤ since s s.mode.releasedAt) then
      let held := s.host.boot.doorbellHeld
      let s := drivesRead s
      let s := { s with host := { s.host with boot := { s.host.boot with hostPhase := true } } }
      if held then serveBootDoorbell s else s
    else s)

/-- HOST_IMAGE_VERIFIED: with the version and level of the image (R74). -/
def execHostImageVerified (dt version compat : Nat) (table : List Nat) : State → Host.Outcome State Fault Refusal :=
  event dt (fun s =>
    match s.host.boot.verifying with
    | some i =>
      if bootRuns s && decide (since s i.since ≤ 200 * msTicks) then
        enterSelftest (BitVec.ofNat 32 version) (BitVec.ofNat 16 compat) table s
      else s
    | none => s)

/-- HOST_IMAGE_TIMEOUT: the image is abandoned, and no failed reset is counted (R36). -/
def execHostImageTimeout (dt : Nat) : State → Host.Outcome State Fault Refusal :=
  event dt (fun s =>
    match s.host.boot.verifying with
    | some i =>
      if bootRuns s && decide (200 * msTicks ≤ since s i.since) then
        { s with host := { s.host with boot := { s.host.boot with verifying := none } } }
      else s
    | none => s)

/-- BOOT_IMAGE_DEADLINE: no image has verified 60 s after release, and the ROM halts (R36). -/
def execBootImageDeadline (dt : Nat) : State → Host.Outcome State Fault Refusal :=
  event dt (fun s =>
    if bootRuns s && decide (60 * secTicks ≤ since s s.mode.releasedAt) then { s with mode := { s.mode with bootHalt := true } } else s)

/-- SELFTEST_TIMEOUT: one failed reset is counted (R36). -/
def execSelftestTimeout (dt : Nat) : State → Host.Outcome State Fault Refusal :=
  event dt (fun s =>
    if s.mode.mode = .selftest ∧ 2500 * msTicks ≤ since s s.mode.enteredAt then failedReset s else s)

/-! ### The power-up test (R446 to R450) -/

/-- The locus of a demodulator lane (log 14). -/
def laneLocus (i : Nat) : Nat := unitLocus 0 3 (i / 16) (i % 16)

/-- The locus of an LDPC decoder (log 14). -/
def decoderLocus (i : Nat) : Nat := unitLocus 0 3 8 i

/-- The locus of a port: Ethernet and management ports, the Chord ports from 0x60, the PCIe ports from 0x80 (log 14). -/
def portLocus (p : Nat) : Nat :=
  if 0x80 ≤ p then pcieLocus (p - 0x80) else if 0x60 ≤ p then unitLocus 0 5 6 (p - 0x60) else unitLocus 0 5 (p / 16) (p % 16)

/-- A fault that repair cannot cover: SELFTEST_FAIL and an entry of code 0x0012 (R37, R448). -/
def uncovered (locus : Nat) (s : State) : State :=
  healthAdd locus 0x12 4 { s with mode := { s.mode with selftestFail := true } }

/-- A row of the key store. -/
def keyStoreRow (locus : Nat) : Bool := locusWithin (subsysLocus 3 1) locus

/-- The key store is tested destructively in this life-cycle state (Table 15.14). -/
def keyStoreTested (s : State) : Bool := [LifeCycle.manufacture, .decommissioned].contains s.mode.lifecycle

/-- Spare rows in use in the macro of a row. -/
def sparesUsed (s : State) (row : Nat) : Nat := (s.integ.spareRows.filter (fun r => r / 1024 == row / 1024)).length

/-- A failing row takes a spare of its macro, which has 8 (R448). -/
def repairRow (s : State) (row : Nat) : State :=
  if s.integ.spareRows.contains row then s
  else if sparesUsed s row < 8 then
    healthAdd row 0x10 1 (modInteg (fun i => { i with spareRows := i.spareRows ++ [row], candidates := i.candidates.filter (· != row) }) s)
  else uncovered row s

/-- A repair candidate takes a spare row where one is left, and leaves the list (R448). -/
def repairCandidate (s : State) (row : Nat) : State :=
  if sparesUsed s row < 8 then modInteg (fun i => { i with spareRows := i.spareRows ++ [row], candidates := i.candidates.filter (· != row) }) s
  else s

/-- A failing Facet: the spare of its Prism takes its position, where that is good and free; else the Facet is left out (R448). -/
def repairFacet (spares : List Nat) (s : State) (f : Nat) : State :=
  if spares.contains (f / 16) || s.integ.spareFacets.any (fun x => x / 2 ^ 21 == facetLocus f / 2 ^ 21) then
    uncovered (facetLocus f) (modInteg (fun i => { i with facetsOut := i.facetsOut ++ [f] }) s)
  else healthAdd (facetLocus f) 0x10 1 (modInteg (fun i => { i with spareFacets := i.spareFacets ++ [facetLocus f] }) s)

/-- The repair and the report of the power-up test (Table 17.3, R448, R456). -/
def applyBist (r : BistResult) (s : State) : State :=
  let rows := r.rows.filter (fun x => !keyStoreRow x || keyStoreTested s)
  let s := if keyStoreTested s then modKeys (fun k => { k with slots := [] }) s else s
  let s := rows.foldl repairRow s
  let s := s.integ.candidates.foldl repairCandidate s
  let s := r.facets.eraseDups.foldl (repairFacet r.spares) s
  let s := r.logic.foldl (fun s x => uncovered x s) s
  let s := r.lanes.foldl (fun s x => healthAdd (laneLocus x) 0x11 1 s) s
  let s := r.decoders.foldl (fun s x => healthAdd (decoderLocus x) 0x11 1 s) s
  let s := r.sectors.foldl (fun s x => healthAdd (sectorLocus x) 0x11 3 s) s
  let s := r.ports.foldl (fun s x => healthAdd (portLocus x) 0x11 3 s) s
  let s := modInteg (fun i =>
    { i with lanesOut := r.lanes, decodersOut := r.decoders, sectorsFailed := BitVec.ofNat 8 (bitMap r.sectors.eraseDups),
             portsFailed := r.ports.foldl (fun a p => Sparse.set (fun _ => false) a p true) [] }) s
  let s := if r.katOk then s else uncovered (subsysLocus 3 2) (modKeys (fun k => { k with katFailed := true }) s)
  s.integ.candidates.foldl (fun s x => healthAdd x 2 2 s) s

/-! ### Entry to CONFIG -/

/-- The storage manager on an entry to CONFIG (R231). A rebuild that goes on keeps its place and its job. -/
def configStorage (s : State) : State :=
  let old := s.store.array
  let s := mountArray s
  let a := s.store.array
  match old.rebuild, a.rebuild with
  | some r, some n => if old.arrayId = a.arrayId ∧ r.position = n.position then modArray (fun a => { a with rebuild := some r }) s else s
  | _, _ => s

/-- What every entry to CONFIG does: the array is mounted, and tamper is reported (R231, R386, R396). -/
def enterConfig (s : State) : State := keyConfigEntry (configStorage s)

/-- The persisted calibration tables are reloaded (R86). -/
def reloadCal (s : State) : State :=
  let s := modRadio (fun r => { r with calLoaded := true }) s
  if arrayUp s then { s with cfg := { s.cfg with live := Sparse.setAll cfgDefault s.cfg.live s.store.savedCal } } else s

/-- The last-fatal record at the first entry to CONFIG after it: a health entry, and a header that shows WRITING
becomes INCOMPLETE (R460). -/
def reportFatal (s : State) : State :=
  match s.integ.lastFatal with
  | some r =>
    if s.integ.fatalDue then
      let s := healthAdd r.locus 0x50 3 (modInteg (fun i => { i with fatalDue := false }) s)
      if r.state = 1 ∧ r.slot ≠ 0xFF ∧ arrayUp s then setDump r.slot { dumpOf s r.slot with state := 3 } s else s
    else s
  | none => s

/-- What the first entry to CONFIG after a reset does besides (R86, R100, R107, R220, R379, R460). -/
def enterConfigFirst (s : State) : State :=
  let s := regConfigEntry (reportFatal (enterConfig s))
  let s := loadCheckpoint (reloadCal s)
  let s := dutyBoot s
  { s with time := { s.time with arcReserved := reservedChannels s } }

/-- Transition 5 (R37): CONFIG is entered whether or not SELFTEST_FAIL is set, and the failure count clears (R36). -/
def selftestDone (r : BistResult) (s : State) : State :=
  let s := applyBist r s
  let s := { s with mode := { s.mode with mode := .config, enteredAt := s.now, failedResets := 0 } }
  enterConfigFirst (raiseModeChanged Mode.selftest.code Mode.config.code 0x03 none s)

/-- SELFTEST_COMPLETE: the tests end within 2.5 s. An image restored with another digest is a failed reset (R449). -/
def execSelftestComplete (dt : Nat) (r : BistResult) : State → Host.Outcome State Fault Refusal :=
  event dt (fun s =>
    if s.mode.mode = .selftest ∧ since s s.mode.enteredAt ≤ 2500 * msTicks then
      if r.digestOk then selftestDone r s else failedReset s
    else s)

end Sys2Proof.Machine
end

