-- ==== Sys2Proof/Machine/Power.lean ====
section
/-!
DEFINITION. The power controller: supply sequences and rail faults (R511 to R518), the reset pins (R525), the
adaptive core voltage (R519), heat (R536), the reference clock (R524), and the TAP (R408 to R410).
-/
namespace Sys2Proof.Machine

/-- Change the power controller. -/
def modPower (f : PowerState → PowerState) (s : State) : State := { s with power := f s.power }

/-! ### Power-down and power-up (R513 to R518) -/

/-- The battery domain loses its contents (R539, Table 17.13). -/
def loseBattery (s : State) : State :=
  let s := keyBatteryLost s
  let s := modInteg (fun i => { i with candidates := [], lastFatal := none, fatalDue := false }) s
  let s := modTwin (fun t => { t with genHigh := 0 }) s
  { s with time := { s.time with mer := { s.time.mer with battery := none } },
           compat := { s.compat with profile := false, subsysVendor := 0, subsysId := 0, profileLost := true } }

/-- The power-down of Table 20.3, with transition 2: OFF, RESET_OUT_N low. What is not in the battery domain, in
one-time-programmable storage or on the drives is gone (Table 17.13); MODE_CHANGED events too. -/
def powerDown (phase : PowerPhase) (s : State) : State :=
  let host := { s.host with modeEvents := [], modeLost := false, h0 := PortState.reset, h1 := PortState.reset }
  { s with power := { s.power with phase, resetOutN := false }, mode := { s.mode with mode := .off, origin := none, trans := none, held := [] }, host }

/-- The main rails are up, or rising. -/
def powered (s : State) : Bool :=
  match s.power.phase with
  | .running => true
  | .inReset _ => true
  | .waitRef => true
  | .down => false
  | .faultWait _ => false
  | .staysDown => false

/-- Main-rail faults of the last 10 minutes, the present one included. -/
def recentFaults (s : State) : List Nat := (s.power.faults.filter (fun t => decide (s.now < t + 600 * secTicks))) ++ [s.now]

/-- A main-rail fault (R515): power-down, and a restart after 1 s; after the third within 10 minutes the chip stays
down with PWR_FAULT_N low until VDD_IO is removed. -/
def mainRailFault (s : State) : State :=
  let l := recentFaults s
  if 3 ≤ l.length then modPower (fun p => { p with faults := l, pwrFaultN := true }) (powerDown .staysDown s)
  else modPower (fun p => { p with faults := l }) (powerDown (.faultWait s.now) s)

/-- The sequence of Table 20.2 from step 3 as far as step 7; step 8 is RESET_RELEASE. VDD_CORE starts at 0.75 V (R519). -/
def bringUp (r : BringUp) (s : State) : State :=
  let s := modPower (fun p => { p with vddCore := 750 }) s
  match r with
  | .good => modPower (fun p => { p with phase := .inReset .powerOn, ref := .locked }) s
  | .noRef => modPower (fun p => { p with phase := .waitRef }) s
  | .wrongIo => modPower (fun p => { p with phase := .staysDown, pwrFaultN := true }) s
  | .railFault _ => mainRailFault s

/-- POWER_UP: VDD_IO rises above 90 %; `vbat` tells whether VBAT held the battery domain up to now (R514, R539). -/
def execPowerUp (dt : Nat) (vbat : Bool) (r : BringUp) : State → Host.Outcome State Fault Refusal :=
  occur dt (fun s =>
    if s.power.vddIo then s
    else
      let s := if vbat then s else loseBattery s
      bringUp r (modPower (fun p => { p with vddIo := true, vbat, faults := [], pwrFaultN := false }) s))

/-- REF_CLK_ARRIVAL: the synthesizer locks and step 7 is done (R514). -/
def execRefClkArrival (dt : Nat) : State → Host.Outcome State Fault Refusal :=
  occur dt (fun s =>
    match s.power.phase with
    | .waitRef => modPower (fun p => { p with phase := .inReset .powerOn, ref := .locked }) s
    | _ => s)

/-- MAIN_POWER_LOST: VDD_IO falls below 85 %; with no cell on VBAT the battery domain loses its contents (R517, R518, R539). -/
def execMainPowerLost (dt : Nat) (vbat : Bool) : State → Host.Outcome State Fault Refusal :=
  occur dt (fun s =>
    if s.power.vddIo then
      let s := powerDown .down s
      let s := if vbat then s else loseBattery s
      modPower (fun p => { p with vddIo := false, vbat, faults := [], pwrFaultN := false }) s
    else s)

/-- PWR_REQ_FALL (R517). -/
def execPwrReqFall (dt : Nat) : State → Host.Outcome State Fault Refusal :=
  occur dt (fun s => if powered s then powerDown .down s else s)

/-- A converter rail. -/
def isConverter (r : Rail) : Bool := decide (r = .rfA) || decide (r = .rfB)

/-- A converter rail faults (R515): its four sectors are gated and marked failed, and the rail is off. -/
def converterFault (b : Bool) (s : State) : State :=
  if bit s.power.convOff (b2n b) then s
  else
    let l := if b then [4, 5, 6, 7] else [0, 1, 2, 3]
    let s := modPower (fun p => { p with convOff := p.convOff + 2 ^ b2n b }) s
    let s := l.foldl (fun s k => sectorOff k s) s
    let s := modInteg (fun i => { i with sectorsFailed := i.sectorsFailed ||| BitVec.ofNat 8 (bitMap l) }) s
    l.foldl (fun s k => healthAdd (sectorLocus k) 0x11 3 s) s

/-- A rail is faulted (R515). -/
def railFault (r : Rail) (s : State) : State :=
  match r with
  | .rfA => converterFault false s
  | .rfB => converterFault true s
  | .core => mainRailFault s
  | .sram => mainRailFault s
  | .serdes0v9 => mainRailFault s
  | .serdes1v2 => mainRailFault s
  | .io => mainRailFault s

/-- RAIL_FAULT: by the comparators (R515, R516). -/
def execRailFault (dt : Nat) (rail : Rail) : State → Host.Outcome State Fault Refusal :=
  occur dt (fun s => if powered s then railFault rail s else s)

/-- CONVERTER_RAIL_FAULT -/
def execConverterRailFault (dt : Nat) (b : Bool) : State → Host.Outcome State Fault Refusal :=
  occur dt (fun s => if powered s then converterFault b s else s)

/-- The number of a rail's regulator. -/
def railNum : Rail → Nat
  | .core => 0 | .sram => 1 | .serdes0v9 => 2 | .serdes1v2 => 3 | .rfA => 4 | .rfB => 5 | .io => 6

/-- One read of a regulator: a fault, or the third transaction in turn that is not answered, faults the rail (R512). -/
def regulatorRead (s : State) (p : Rail × RegulatorRead) : State :=
  if !powered s || (isConverter p.1 && bit s.power.convOff (railNum p.1 - 4)) then s
  else
    let k := railNum p.1
    let n := Sparse.get (fun _ => 0) s.power.noAnswer k
    let count := fun v => modPower (fun q => { q with noAnswer := Sparse.set (fun _ => 0) q.noAnswer k v }) s
    match p.2 with
    | .good => count 0
    | .fault => railFault p.1 (count 0)
    | .silent => if 2 ≤ n then railFault p.1 (count 0) else count (n + 1)

/-- Every regulator is read. -/
def readRegulators (l : List (Rail × RegulatorRead)) (s : State) : State := l.foldl regulatorRead s

/-- PMB_ALERT: the regulators are read at once (R515). -/
def execPmbAlert (dt : Nat) (reads : List (Rail × RegulatorRead)) : State → Host.Outcome State Fault Refusal :=
  occur dt (readRegulators reads)

/-- RAIL_POLL: the regulators are read every 10 ms (R515). -/
def execRailPoll (dt : Nat) (reads : List (Rail × RegulatorRead)) : State → Host.Outcome State Fault Refusal :=
  occur dt (readRegulators reads)

/-- RAIL_FAULT_RESTART: 1 s after a main-rail fault (R515). -/
def execRailFaultRestart (dt : Nat) (r : BringUp) : State → Host.Outcome State Fault Refusal :=
  occur dt (fun s =>
    match s.power.phase with
    | .faultWait t => if secTicks ≤ since s t then bringUp r s else s
    | _ => s)

/-! ### The reset pins (R525) -/

/-- A pulse of this length resets: always from 1 µs, never below 100 ns, and between them as `acts` tells. -/
def pulseResets (ns : Nat) (acts : Bool) : Bool := decide (1000 ≤ ns) || (decide (100 ≤ ns) && acts)

/-- A reset is asserted; one in progress whose reach is larger stays. -/
def assertReset (k : ResetKind) (s : State) : State :=
  match s.power.phase with
  | .running => modPower (fun p => { p with phase := .inReset k, resetOutN := false }) s
  | .inReset j => if reachesPorts j then s else modPower (fun p => { p with phase := .inReset (if reachesPorts k then k else j), resetOutN := false }) s
  | _ => s

/-- PWRON_RST -/
def execPwronRst (dt ns : Nat) (acts : Bool) : State → Host.Outcome State Fault Refusal :=
  occur dt (fun s => if pulseResets ns acts then assertReset .pwronRst s else s)

/-- SYS_RST: it does not leave the halt of the boot ROM (R36). -/
def execSysRst (dt ns : Nat) (acts : Bool) : State → Host.Outcome State Fault Refusal :=
  occur dt (fun s => if pulseResets ns acts && !s.mode.bootHalt then assertReset .sysRst s else s)

/-! ### Core voltage, heat and the reference -/

/-- AVS_MONITOR_TICK: each millisecond (R519). `short` is the locus of a region whose monitor shows no margin; `spare`
tells that every monitor would show margin one step lower. -/
def execAvsMonitorTick (dt : Nat) (short : Option Nat) (spare : Bool) : State → Host.Outcome State Fault Refusal :=
  event dt (fun s =>
    match short with
    | some l => if 850 ≤ s.power.vddCore then healthAdd l 0x11 3 s else modPower (fun p => { p with vddCore := min 850 (p.vddCore + 5) }) s
    | none => if spare && decide (650 < s.power.vddCore) then modPower (fun p => { p with vddCore := max 650 (p.vddCore - 5) }) s else s)

/-- THERMAL_ALERT: THERM_ALERT_N is driven low at the limit and released 5 °C below it (R536). -/
def execThermalAlert (dt : Nat) (hot : Bool) : State → Host.Outcome State Fault Refusal :=
  occur dt (fun s => if powered s then modPower (fun p => { p with thermAlert := hot }) s else s)

/-- THERMAL_SHUTDOWN: as for a main-rail fault (R536). -/
def execThermalShutdown (dt : Nat) : State → Host.Outcome State Fault Refusal :=
  occur dt (fun s => if powered s then mainRailFault s else s)

/-- REF_CLK_LOST: the synthesizer holds, and Meridian enters holdover (R524, R362). -/
def execRefClkLost (dt : Nat) : State → Host.Outcome State Fault Refusal :=
  event dt (fun s =>
    if s.power.ref = .lost then s else withHold (fun m => { m with refLost := true }) (modPower (fun p => { p with ref := .lost }) s))

/-- REF_CLK_RELOCK: 100 ms within 50 ppm (R524). -/
def execRefClkRelock (dt : Nat) : State → Host.Outcome State Fault Refusal :=
  event dt (fun s => if s.power.ref = .lost then modPower (fun p => { p with ref := .slewing }) s else s)

/-- RELOCK_SLEW_COMPLETE: holdover for this cause ends (R524). -/
def execRelockSlewComplete (dt : Nat) : State → Host.Outcome State Fault Refusal :=
  event dt (fun s =>
    if s.power.ref = .slewing then withHold (fun m => { m with refLost := false }) (modPower (fun p => { p with ref := .locked }) s) else s)

/-! ### The Perimeter (R405 to R407) -/

/-- An access of a class at a Lattice address is permitted (R405); before the lock only class 0x0 may access (R406). -/
def perimPermits (s : State) (cls : Nat) (write : Bool) (addr : Nat) : Bool :=
  if !s.keys.perim.lock then decide (cls = 0)
  else (List.range 32).any (fun i =>
    let d := perimRegion s i
    bit d 104 && decide (bits d 0 36 ≤ addr / 4096) && decide (addr / 4096 ≤ bits d 36 36) && decide (cls < 10)
      && bit (bits d (if write then 88 else 72) 16) cls)

/-- A refused access (R407): counted, the first 16 logged, and the event at most once per second per class. -/
def perimRefusal (cls : Nat) (write : Bool) (addr : Nat) (s : State) : State :=
  let rec_ : PerimRec := { cls, write, addr, seconds := nowSec s, nanos := nowNanos s }
  let s := modKeys (fun k =>
    { k with perim := { k.perim with violations := min (2 ^ 32 - 1) (k.perim.violations + 1), log := (k.perim.log ++ [rec_]).take 16 } }) s
  let last := Sparse.get (fun _ => 0) s.keys.perim.eventAt cls
  if last = 0 ∨ last - 1 + secTicks ≤ s.now then
    raise 0x0606 (leBytes 1 cls ++ leBytes 1 (b2n write) ++ zeros 2 ++ leBytes 4 s.keys.perim.violations ++ leBytes 8 addr)
      (modKeys (fun k => { k with perim := { k.perim with eventAt := Sparse.set (fun _ => 0) k.perim.eventAt cls (s.now + 1) } }) s)
  else s

/-! ### The TAP (R410, Table 15.14) -/

/-- An access port is open: `b` is the bit of KEY_DEBUG_UNLOCK that opens it in PROVISIONED and RETURNED. -/
def portOpen (s : State) (b : Nat) : Bool :=
  match s.mode.lifecycle with
  | .manufacture => true
  | .decommissioned => true
  | .deployed => false
  | .provisioned => bit s.keys.unlocked b
  | .returned => bit s.keys.unlocked b

/-- Boundary scan may seize the pins: in CONFIG, or in BOOT with the ROM halted (R410). -/
def scanMode (s : State) : Bool := decide (s.mode.mode = .config) || (decide (s.mode.mode = .boot) && s.mode.bootHalt)

/-- The instruction that acts (R410): the others act as BYPASS. -/
def tapEffective (s : State) (i : TapInstr) : TapInstr :=
  match i with
  | .idcode => .idcode
  | .bypass => .bypass
  | .extest => if portOpen s 0 && scanMode s then .extest else .bypass
  | .intest => if portOpen s 0 && scanMode s then .intest else .bypass
  | .ac => if portOpen s 0 && scanMode s then .ac else .bypass
  | .debug => if portOpen s 1 then .debug else .bypass
  | .other => .bypass

/-- TAP_OPERATION: the TAP runs from VDD_IO, whatever the reset. What a permitted debug access reads or writes lies in
the Apex's private space, which the spec does not lay out (log 52). -/
def tapOperation (op : TapOp) (s : State) : State :=
  match op with
  | .reset => modPower (fun p => { p with tap := .idcode }) s
  | .shiftInstr i => modPower (fun p => { p with tap := i }) s
  | .shiftData => emit (.tdo (if tapEffective s s.power.tap = .idcode then 0x2964054F else 0)) s
  | .access write addr =>
    if s.power.tap = .debug ∧ alive s ∧ (!portOpen s 1 || !perimPermits s 9 write addr) then perimRefusal 9 write addr s else s

/-- TAP_OPERATION -/
def execTapOperation (dt : Nat) (op : TapOp) : State → Host.Outcome State Fault Refusal :=
  occur dt (fun s => if s.power.vddIo then tapOperation op s else s)

end Sys2Proof.Machine
end

