-- ==== Sys2Proof/Machine/HostLink.lean ====
section
/-!
DEFINITION. The links of the host ports: failed transfers (R63), a link that goes down and returns, the loss of a
port (R56), and the end of a queue's drain (R72).
-/
namespace Sys2Proof.Machine

/-- The class of a host port's DMA (Table 15.12). -/
def portClass : HostPort → Nat
  | .h0 => 4 | .h1 => 5

/-- COMMAND_FETCH_FAILED: the read of the entry that the Apex fetches next fails (R63); `perim` is the Lattice address
where the Perimeter refused the transfer. -/
def execCommandFetchFailed (dt q : Nat) (perim : Option Nat) : State → Host.Outcome State Fault Refusal :=
  event dt (fun s =>
    if served s q && decide (q < 16) then
      let owner := (queueOf s q).owner.getD .h0
      let s := closeQueueContexts q (modQueue q (fun x => { x with fetchErr := true, qstate := .halted }) s)
      match perim with
      | some a => perimRefusal (portClass owner) false a s
      | none => s
    else s)

/-- A queue whose completion write failed: the reply stays in the cache (R63). -/
def completionFailed (q : Nat) (s : State) : State :=
  let x := queueOf s q
  let up := match x.owner with
    | some p => (portOf s p).linkUp
    | none => false
  if q < 16 ∧ up = true ∧ (x.qstate = .running ∨ x.qstate = .draining) then
    closeQueueContexts q (setQueue q { x with cqWriteErr := true, qstate := .halted } s)
  else s

/-- COMPLETION_WRITE_FAILED -/
def execCompletionWriteFailed (dt q : Nat) : State → Host.Outcome State Fault Refusal := event dt (completionFailed q)

/-- A port's link is down from now on. -/
def hostDown (p : HostPort) (s : State) : State :=
  let x := portOf s p
  if x.linkUp then setPort p { x with linkUp := false, downAt := some s.now } s else s

/-- HOST_LINK_DOWN -/
def execHostLinkDown (dt : Nat) (port : HostPort) : State → Host.Outcome State Fault Refusal := event dt (hostDown port)

/-- PERST: the port's PCIe core is reset, and its link counts as down (R525). -/
def execPerst (dt : Nat) (port : HostPort) : State → Host.Outcome State Fault Refusal :=
  event dt (fun s =>
    let s := hostDown port s
    setPort port { portOf s port with msixTable := [] } s)

/-- HOST_LINK_RETURN: held writes are made in order, pending messages are sent, fetching resumes (R56). -/
def execHostLinkReturn (dt : Nat) (port : HostPort) : State → Host.Outcome State Fault Refusal :=
  event dt (fun s =>
    let x := portOf s port
    if x.linkUp || portFailed s (0x80 + portNum port) then s
    else
      let s := setPort port { x with linkUp := true, downAt := none, held := [] } s
      flushMsix port (x.held.foldl (fun s h => writeCompletion port h.1 h.2 s) s))

/-- A queue that its owning port loses (R56, R72): it drains, or is DISABLED and without an owner at once. -/
def loseQueue (x : Queue) : Queue :=
  match x.qstate with
  | .running => { x with enable := false, qstate := .draining, losing := true }
  | .draining => { x with enable := false, losing := true }
  | .halted => { x with enable := false, qstate := .disabled, owner := none }
  | .disabled => { x with enable := false, owner := none }

/-- The event rings that a port owns. -/
def ringsOwned (s : State) (p : HostPort) : List Nat := (List.range 4).filter (fun n => (ringOf s n).owner == some p)

/-- HOST_PORT_LOST goes to every event ring that the other port owns (R56). -/
def raisePortLost (p : HostPort) (cause : Nat) (queues : List Nat) (s : State) : State :=
  if s.mode.mode.mailboxes then
    let body := leBytes 1 (portNum p) ++ leBytes 1 cause ++ leBytes 2 (bitMap queues)
    let e : EventRec := { code := 0x0104, severity := 3, seconds := nowSec s, nanoseconds := nowNanos s, locus := noLocus, body }
    urOfEvent 0x0104 3 noLocus body ((ringsOwned s (otherPort p)).foldl (fun s n => ringOffer n e s) s)
  else s

/-- The loss of a port (R56, R479): cause 0x01 its link, 0x02 a function-level reset. -/
def losePort (p : HostPort) (cause : Nat) (s : State) : State :=
  let queues := (List.range 16).filter (fun q => (queueOf s q).owner == some p)
  let held := (portOf s p).held
  let s := held.foldl (fun s h => discardCompletion h.1 s) s
  let s := setPort p { portOf s p with held := [], pba := 0 } s
  let s := queues.foldl (fun s q => leftRunning q (modQueue q loseQueue s)) s
  let s := (ringsOwned s p).foldl (fun s n => setRing n { ringOf s n with enable := false, owner := none } s) s
  let s := if s.sw.ring.enable ∧ s.sw.ring.port = p then { s with sw := { s.sw with ring := { s.sw.ring with enable := false } } } else s
  raisePortLost p cause queues s

/-- HOST_PORT_LOSS_TIMEOUT: the link has been down for more than 100 ms (R56, R492). -/
def execHostPortLossTimeout (dt : Nat) (port : HostPort) : State → Host.Outcome State Fault Refusal :=
  event dt (fun s =>
    match (portOf s port).downAt with
    | some t =>
      if 100 * msTicks < since s t then
        let s := if port = .h0 then urLinkTimeout s else s
        losePort port 1 (setPort port { portOf s port with downAt := none } s)
      else s
    | none => s)

/-- FUNCTION_LEVEL_RESET acts as the loss of the port (R56); the UR-340 identity has none (Table 19.1). -/
def execFunctionLevelReset (dt : Nat) (port : HostPort) : State → Host.Outcome State Fault Refusal :=
  event dt (fun s => if nativeBar0 s port then losePort port 2 s else s)

/-- QUEUE_DRAIN_DONE: IN_FLIGHT of a DRAINING queue is zero (R72); after the loss of its port the queue has no owner (R56). -/
def execQueueDrainDone (dt q : Nat) : State → Host.Outcome State Fault Refusal :=
  event dt (fun s =>
    let x := queueOf s q
    if q < 16 ∧ x.qstate = .draining ∧ x.inFlight = 0 then
      setQueue q { x with qstate := .disabled, owner := if x.losing then none else x.owner, losing := false } s
    else s)

end Sys2Proof.Machine
end

