-- ==== Sys2Proof/Machine/Regs.lean ====
section
/-!
DEFINITION. The register maps: BAR0 (Table 3.3), BAR2 (Tables 14.1 and 14.4) and the UR-340 map (Table 19.2), their
reads with the latches of R6, the pops of R369 and R372, W1C bits (R5), and the plain writes (R7).
-/
namespace Sys2Proof.Machine

/-- The block of a register array and the offset in it: `n` blocks of `size` bytes from `base`. -/
def blockAt (base size n off : Nat) : Option (Nat × Nat) :=
  if base ≤ off ∧ off < base + size * n then some ((off - base) / size, (off - base) % size) else none

/-- The low half of a 64-bit value. -/
def lo32 (v : Nat) : Nat := v % 2 ^ 32

/-- The high half of a 64-bit value. -/
def hi32 (v : Nat) : Nat := v / 2 ^ 32 % 2 ^ 32

/-- SYS_ID (Table 3.3, Table 0.1). -/
def sysId (s : State) : Nat := 0x9640 * 2 ^ 16 + s.fuses.stepping.toNat * 256 + s.fuses.variant.toNat

/-! ### Reads of BAR0 -/

/-- A register of MQq by its offset in the block (Table 3.3). -/
def queueReg (x : Queue) (r : Nat) : Nat :=
  match r with
  | 0x00 => lo32 x.sqBase.toNat | 0x04 => hi32 x.sqBase.toNat | 0x08 => lo32 x.cqBase.toNat | 0x0C => hi32 x.cqBase.toNat
  | 0x10 => queueCtrl x | 0x14 => queueStatus x | 0x18 => x.sqTail.toNat | 0x1C => x.cqHead.toNat | 0x20 => x.sqHead.toNat
  | 0x24 => x.cqTail.toNat | 0x28 => x.seqNext.toNat | 0x2C => ownerCode x.owner | _ => 0

/-- A register of EVn by its offset in the block (Table 3.3). -/
def ringReg (r : EventRing) (o : Nat) : Nat :=
  match o with
  | 0x0 => r.prod.toNat | 0x4 => r.cons.toNat | 0x8 => r.drop.toNat | 0xC => ringCtrl r | _ => 0

/-- A word of the MSI-X table. -/
def msixWord (p : PortState) (o : Nat) : Nat := leNat ((List.range 4).map (fun i => Sparse.get msixDefault p.msixTable (o + i)))

/-- HOST_PORT_STATUS (Table 3.3). -/
def hostPortStatus (s : State) (p : HostPort) : Nat := portNum p + b2n s.host.h0.linkUp * 256 + b2n s.host.h1.linkUp * 512

/-- The BAR0 registers that respond in every mode (R73). -/
def earlyReg (s : State) (p : HostPort) (off : Nat) : Option Nat :=
  match off with
  | 0x0000 => some (sysId s) | 0x0004 => some (modeStatus s) | 0x0008 => some (hostPortStatus s p)
  | 0x0010 => some (lo32 s.host.boot.addr.toNat) | 0x0014 => some (hi32 s.host.boot.addr.toNat) | 0x0018 => some s.host.boot.len.toNat
  | _ => none

/-- A BAR0 register of the native map as a port reads it (R53, R73). -/
def bar0Reg (s : State) (p : HostPort) (off : Nat) : Nat :=
  match earlyReg s p off with
  | some v => v
  | none =>
    if s.mode.mode.mailboxes then
      match blockAt 0x0100 0x10 4 off, blockAt 0x1000 0x40 16 off with
      | some (n, o), _ => ringReg (ringOf s n) o
      | _, some (q, r) => queueReg (queueOf s q) r
      | _, _ =>
        if 0x2000 ≤ off ∧ off < 0x2200 then msixWord (portOf s p) (off - 0x2000)
        else if off = 0x3000 then (portOf s p).pba.toNat
        else 0
    else 0

/-- A register of the UR-340 map (Table 19.2): in BOOT, SELFTEST and DUMP it reads zero (R73). -/
def urReg (s : State) (off : Nat) : Nat :=
  let c := s.compat
  if !s.mode.mode.mailboxes then 0
  else if 0x9000 ≤ off ∧ off < 0x9040 then (if c.extOpen then queueReg (queueOf s 15) (off - 0x9000) else 0)
  else match off with
    | 0x0000 => 0x034000C2 | 0x0004 => 0x00040002 | 0x0008 => urStatus s | 0x000C => b2n c.run + 2 * b2n c.irqEn
    | 0x0010 => c.irqStatus.toNat | 0x0020 => lo32 c.cmdBase.toNat | 0x0024 => hi32 c.cmdBase.toNat | 0x0028 => c.ringSize.toNat
    | 0x002C => c.cmdTail.toNat | 0x0030 => c.cmdHead.toNat | 0x0034 => lo32 c.rspBase.toNat | 0x0038 => hi32 c.rspBase.toNat
    | 0x003C => c.rspHead.toNat | 0x0040 => c.rspTail.toNat | 0x0044 => lo32 c.evtBase.toNat | 0x0048 => hi32 c.evtBase.toNat
    | 0x004C => c.evtHead.toNat | 0x0050 => c.evtTail.toNat | 0x0060 => urTime s
    | 0x0064 => (s.mesh.nodes.filter (fun n => n.2.state != 0)).length
    | 0x8004 => b2n c.extOpen
    | 0x8008 => if c.extOpen then c.features.toNat else 0
    | 0x800C => if c.extOpen then sysId s else 0
    | _ => 0

/-! ### Reads of BAR2 -/

/-- A latched register of a port's BAR2 window (R6). -/
def latched (s : State) (p : HostPort) (off : Nat) : Nat := (Sparse.get (fun _ => 0) s.time.mer.latches (2 * off + portNum p)).toNat

/-- Latch a register of a port's BAR2 window. -/
def latch (p : HostPort) (off v : Nat) (s : State) : State :=
  modMer (fun m => { m with latches := Sparse.set (fun _ => 0) m.latches (2 * off + portNum p) (BitVec.ofNat 32 v) }) s

/-- The offsets of the registers that a read of a low half latches, and of the two that a pop latches (Tables 14.1 and 14.4). -/
def latchedOff (off : Nat) : Bool :=
  [0x0004, 0x000C, 0x0010, 0x0014, 0x0018, 0x003C, 0x801C].contains off
    || (match blockAt 0x0100 0x40 8 off with | some (_, r) => r == 0x20 || r == 0x24 | none => false)
    || (match blockAt 0x0400 0x20 8 off with | some (_, r) => r == 0x08 || r == 0x0C | none => false)
    || (match blockAt 0x1000 0x10 0x42 off with | some (_, r) => r == 0x4 || r == 0x8 | none => false)
    || (match blockAt 0x8100 0x40 32 off with | some (_, r) => r == 0x04 || r == 0x14 | none => false)

/-- A register of the Meridian block itself (Table 14.1). -/
def merReg (m : Meridian) (off : Nat) : Nat :=
  match off with
  | 0x0000 => lo32 m.c.toNat | 0x0008 => (merTime m / 65536) % 1000000000 | 0x0020 => lo32 m.stRate.toNat | 0x0024 => hi32 m.stRate.toNat
  | 0x0028 => m.adjMode.toNat + 256 * b2n m.stHold | 0x002C => m.adjNs.toNat | 0x0030 => lo32 m.adjSec.toNat | 0x0034 => hi32 m.adjSec.toNat
  | 0x0038 => lo32 m.baseC.toNat | 0x0040 => commitWord m.commit | 0x0044 => merStatus m | _ => 0

/-- A register of a pulse output by its offset in the block (Table 14.1). -/
def toutReg (x : Tout) (r : Nat) : Nat :=
  match r with
  | 0x00 => x.staged.cfg.toNat % 4 | 0x04 => x.staged.startNs.toNat | 0x08 => lo32 x.staged.startSec.toNat | 0x0C => hi32 x.staged.startSec.toNat
  | 0x10 => x.staged.periodNs.toNat | 0x14 => x.staged.periodSec.toNat | 0x18 => x.staged.widthNs.toNat
  | 0x1C => (match x.next with | some t => t % 1000000000 | none => 0xFFFFFFFF)
  | 0x28 => b2n x.pulseEnd.isSome + 2 * b2n x.done + x.skipped.toNat * 2 ^ 16 | 0x2C => commitWord x.commit | _ => 0

/-- A register of a capture pin (Table 14.1). -/
def tinReg (x : Tin) (r : Nat) : Nat :=
  match r with
  | 0x00 => x.staged.toNat % 2048 | 0x10 => x.fifo.length + x.overflow.toNat * 2 ^ 16 | 0x14 => commitWord x.commit | _ => 0

/-- A register of an Arc channel (Table 14.4). -/
def arcReg (a : ArcCh) (r : Nat) : Nat :=
  match r with
  | 0x00 => lo32 a.count.toNat | 0x08 => a.cmpLo.toNat | 0x0C => hi32 a.cmp.toNat | 0x10 => lo32 a.cap.toNat
  | 0x18 => lo32 a.staged.top.toNat | 0x1C => hi32 a.staged.top.toNat | 0x20 => lo32 a.staged.phase.toNat | 0x24 => hi32 a.staged.phase.toNat
  | 0x28 => a.staged.cfg.toNat % 2 ^ 16 | 0x2C => a.staged.capcfg.toNat % 2 ^ 22 | 0x34 => arcStatus a | 0x38 => commitWord a.commit | _ => 0

/-- ARC_MATCH: the MATCH bits of the channels (Table 14.4). -/
def arcMatchWord (s : State) : Nat := bitMap ((List.range 32).filter (fun n => (arcOf s n).matched))

/-- A BAR2 register as a port reads it, without the effects of the read. -/
def bar2Reg (s : State) (p : HostPort) (off : Nat) : Nat :=
  if latchedOff off then latched s p off
  else match blockAt 0x0100 0x40 8 off, blockAt 0x0400 0x20 8 off, blockAt 0x1000 0x10 0x42 off, blockAt 0x8100 0x40 32 off with
    | some (n, r), _, _, _ => toutReg (toutOf s n) r
    | _, some (n, r), _, _ => tinReg (tinOf s n) r
    | _, _, some (n, r), _ => if r = 0xC then (tsqOf s n).fifo.length + (tsqOf s n).overflow.toNat * 2 ^ 16 else 0
    | _, _, _, some (n, r) => arcReg (arcOf s n) r
    | _, _, _, _ =>
      match off with
      | 0x8008 => arcMatchWord s | 0x800C => s.time.arcReserved.toNat | 0x8010 => s.time.arcWakeSel.toNat
      | 0x8018 => lo32 s.time.arcStartCnt.toNat
      | _ => merReg s.time.mer off

/-- The latches of a read of MER_TIME_NS: seconds, MER_STATUS [15:0] and C at the same tick (Table 14.1). -/
def latchTime (p : HostPort) (s : State) : State :=
  let m := s.time.mer
  let sec := nowSec s
  latch p 0x0018 (hi32 m.c.toNat) (latch p 0x0014 (lo32 m.c.toNat)
    (latch p 0x0010 (hi32 sec + (merStatus m % 2 ^ 16) * 2 ^ 16) (latch p 0x000C (lo32 sec) s)))

/-- What a read of a low half latches (R6). -/
def latchOf (p : HostPort) (off : Nat) (s : State) : State :=
  match blockAt 0x0100 0x40 8 off, blockAt 0x8100 0x40 32 off with
  | some (n, 0x1C), _ =>
    let sec := match (toutOf s n).next with
      | some t => t / 1000000000
      | none => 0
    latch p (off + 8) (hi32 sec) (latch p (off + 4) (lo32 sec) s)
  | _, some (n, 0x00) => latch p (off + 4) (hi32 (arcOf s n).count.toNat) s
  | _, _ =>
    match off with
    | 0x0000 => latch p 0x0004 (hi32 s.time.mer.c.toNat) s
    | 0x0008 => latchTime p s
    | 0x0038 => latch p 0x003C (hi32 s.time.mer.baseC.toNat) s
    | 0x8018 => latch p 0x801C (hi32 s.time.arcStartCnt.toNat) s
    | _ => s

/-- The value of a read goes to the reader. -/
def answerRead (v : Nat) (s : State) : State := emit (.regRead (BitVec.ofNat 32 v)) s

/-- A pop of {time in ns, high bits of the third register} by a read at `off`: 0xFFFF_FFFF where nothing is popped, when the
registers beside it read zero, as after reset. -/
def popRead (p : HostPort) (off : Nat) (v : Option (Nat × Nat)) (s : State) : State :=
  match v with
  | some (t, x) =>
    let sec := t / 1000000000
    answerRead (t % 1000000000) (latch p (off + 8) (hi32 sec + x * 2 ^ 16) (latch p (off + 4) (lo32 sec) s))
  | none => answerRead 0xFFFFFFFF (latch p (off + 8) 0 (latch p (off + 4) 0 s))

/-- A read of TINn_CAP_NS (R372). -/
def tinPop (p : HostPort) (n : Nat) (s : State) : State :=
  let x := tinOf s n
  let off := 0x0404 + 0x20 * n
  match x.fifo with
  | (t, rising) :: r => popRead p off (some (t, b2n rising)) (setTin n { x with fifo := r } s)
  | [] => popRead p off none s

/-- A read of TSQp_NS (R369): on a BOUNDARY port it pops nothing. -/
def tsqPop (p : HostPort) (n : Nat) (s : State) : State :=
  let x := tsqOf s n
  let off := 0x1000 + 0x10 * n
  if (ptpOf s n).mode = 3 then answerRead 0xFFFFFFFF s
  else match x.fifo with
    | (t, id) :: r => popRead p off (some (t, id)) (setTsq n { x with fifo := r } s)
    | [] => popRead p off none s

/-- A read of ARCn_CAP_LO (R377). -/
def arcCapRead (p : HostPort) (n : Nat) (s : State) : State :=
  let a := arcOf s n
  answerRead (lo32 a.cap.toNat) (setArc n { a with capValid := false } (latch p (0x8114 + 0x40 * n) (hi32 a.cap.toNat) s))

/-- A read of BAR2, with its effects. -/
def readBar2 (p : HostPort) (off : Nat) (s : State) : State :=
  match blockAt 0x0400 0x20 8 off, blockAt 0x1000 0x10 0x42 off, blockAt 0x8100 0x40 32 off with
  | some (n, 0x04), _, _ => tinPop p n s
  | _, some (n, 0x0), _ => tsqPop p n s
  | _, _, some (n, 0x10) => arcCapRead p n s
  | _, _, _ => answerRead (bar2Reg s p off) (latchOf p off s)

/-- A read of a register through a port (R6, R51, R490): while CLK_TIME is gated a read of BAR2 is served by
GATED_TIME_READ. -/
def readReg (p : HostPort) (b : Bar) (off : Nat) (s : State) : State :=
  match b with
  | .bar0 => answerRead (if nativeBar0 s p then bar0Reg s p off else urReg s off) s
  | .bar2 => if nativeBar0 s p && !s.time.mer.gated then readBar2 p off s else s

/-! ### Writes -/

/-- Replace the low or the high half of a 64-bit register. -/
def putHalf (hi : Bool) (v : W32) (old : W64) : W64 :=
  if hi then (old &&& 0xFFFFFFFF) ||| (v.setWidth 64 <<< 32) else (old &&& 0xFFFFFFFF00000000) ||| v.setWidth 64

/-- Replace the low or the high part of a 48-bit register. -/
def putHalf48 (hi : Bool) (v : W32) (old : BitVec 48) : BitVec 48 :=
  if hi then (old &&& 0xFFFFFFFF) ||| (v.setWidth 48 <<< 32) else (old &&& 0xFFFF00000000) ||| v.setWidth 48

/-- A write to a boot image register: from H0, in BOOT (Table 3.3). -/
def bootWrite (p : HostPort) (off : Nat) (v : W32) (s : State) : State :=
  if p = .h0 ∧ s.mode.mode = .boot then
    let b := s.host.boot
    let b := match off with
      | 0x0010 => { b with addr := putHalf false v b.addr }
      | 0x0014 => { b with addr := putHalf true v b.addr }
      | 0x0018 => { b with len := v }
      | _ => b
    { s with host := { s.host with boot := b } }
  else s

/-- A write to a register of MQq, by its offset in the block. -/
def queueRegWrite (p : HostPort) (q r : Nat) (v : W32) (s : State) : State :=
  match r with
  | 0x00 => queueWrite p q (fun x => if x.qstate = .disabled then { x with sqBase := baseWrite true v x.sqBase } else x) s
  | 0x04 => queueWrite p q (fun x => if x.qstate = .disabled then { x with sqBase := baseWrite false v x.sqBase } else x) s
  | 0x08 => queueWrite p q (fun x => if x.qstate = .disabled then { x with cqBase := baseWrite true v x.cqBase } else x) s
  | 0x0C => queueWrite p q (fun x => if x.qstate = .disabled then { x with cqBase := baseWrite false v x.cqBase } else x) s
  | 0x10 => leftRunning q (queueWrite p q (if v.getLsbD 31 then ctrlEnable v else ctrlDisable v) s)
  | 0x18 => doorbell p q (v.setWidth 16) s
  | 0x1C => queueWrite p q (headWrite (v.setWidth 16)) s
  | 0x28 => queueWrite p q (seqWrite (v.setWidth 16)) s
  | 0x2C => if v = 1 then claimQueue p q s else if v = 0 then releaseQueue p q s else s
  | _ => s

/-- A write to the MSI-X table: messages of vectors unmasked by it go out (R56). -/
def msixWrite (p : HostPort) (o : Nat) (v : W32) (s : State) : State :=
  let x := portOf s p
  flushMsix p (setPort p { x with msixTable := Sparse.setRun msixDefault x.msixTable o (leBytes 4 v.toNat) } s)

/-- A write to BAR0 of the native map (R53, R73). -/
def bar0Write (p : HostPort) (off : Nat) (v : W32) (s : State) : State :=
  if 0x0010 ≤ off ∧ off ≤ 0x0018 then bootWrite p off v s
  else if off = 0x001C then bootDoorbell p v s
  else if s.mode.mode.mailboxes then
    match blockAt 0x0100 0x10 4 off, blockAt 0x1000 0x40 16 off with
    | some (n, 0x4), _ => consWrite p n v s
    | some (n, 0xC), _ => writeRingCtrl p n v s
    | _, some (q, r) => queueRegWrite p q r v s
    | _, _ => if 0x2000 ≤ off ∧ off < 0x2200 then msixWrite p (off - 0x2000) v s else s
  else s

/-- A write to the UR-340 map (R491): bases and ring size only while RUN = 0. -/
def urRegWrite (off : Nat) (v : W32) (s : State) : State :=
  if 0x9000 ≤ off ∧ off < 0x9040 then (if s.compat.extOpen then queueRegWrite .h0 15 (off - 0x9000) v s else s)
  else urWrite (fun c =>
    let base := !c.run
    match off with
    | 0x000C => urCtrl v c
    | 0x0020 => if base then { c with cmdBase := putHalf false v c.cmdBase } else c
    | 0x0024 => if base then { c with cmdBase := putHalf true v c.cmdBase } else c
    | 0x0028 => if base then { c with ringSize := v &&& 0xFFFF } else c
    | 0x002C => { c with cmdTail := v.setWidth 16 }
    | 0x0034 => if base then { c with rspBase := putHalf false v c.rspBase } else c
    | 0x0038 => if base then { c with rspBase := putHalf true v c.rspBase } else c
    | 0x003C => { c with rspHead := v.setWidth 16 }
    | 0x0044 => if base then { c with evtBase := putHalf false v c.evtBase } else c
    | 0x0048 => if base then { c with evtBase := putHalf true v c.evtBase } else c
    | 0x004C => { c with evtHead := v.setWidth 16 }
    | 0x8000 => extUnlock v c
    | 0x8008 => extFeatures v c
    | _ => c) s

/-- A write to a staged field of the Meridian group: with OWNER = FIRMWARE it is ignored and sets FOREIGN_WRITE (R359). -/
def merStage (off : Nat) (v : W32) (m : Meridian) : Meridian :=
  if m.ownerFw then { m with foreignWrite := true }
  else match off with
    | 0x0020 => { m with stRate := (m.stRate &&& 0xFF00000000) ||| v.setWidth 40 }
    | 0x0024 => { m with stRate := (m.stRate &&& 0xFFFFFFFF) ||| ((v &&& 0xFF).setWidth 40 <<< 32) }
    | 0x0028 => { m with adjMode := v.setWidth 2, stHold := v.getLsbD 8 }
    | 0x002C => { m with adjNs := v }
    | 0x0030 => { m with adjSec := putHalf48 false v m.adjSec }
    | 0x0034 => { m with adjSec := putHalf48 true (v &&& 0xFFFF) m.adjSec }
    | _ => m

/-- A write to a staged field of a pulse output. -/
def toutStage (r : Nat) (v : W32) (x : Tout) : Tout :=
  let t := x.staged
  let t := match r with
    | 0x00 => { t with cfg := v &&& 3 }
    | 0x04 => { t with startNs := v }
    | 0x08 => { t with startSec := putHalf48 false v t.startSec }
    | 0x0C => { t with startSec := putHalf48 true (v &&& 0xFFFF) t.startSec }
    | 0x10 => { t with periodNs := v }
    | 0x14 => { t with periodSec := v.setWidth 16 }
    | 0x18 => { t with widthNs := v }
    | _ => t
  { x with staged := t }

/-- A write to a register of an Arc channel (R374, R375). -/
def arcStage (r : Nat) (v : W32) (a : ArcCh) : ArcCh :=
  let t := a.staged
  match r with
  | 0x08 => { a with cmpLo := v }
  | 0x0C => arcCmpHi v a
  | 0x18 => { a with staged := { t with top := putHalf false v t.top } }
  | 0x1C => { a with staged := { t with top := putHalf true v t.top } }
  | 0x20 => { a with staged := { t with phase := putHalf false v t.phase } }
  | 0x24 => { a with staged := { t with phase := putHalf true v t.phase } }
  | 0x28 => { a with staged := { t with cfg := v &&& 0xFFFF } }
  | 0x2C => { a with staged := { t with capcfg := v &&& 0x3FFFFF } }
  | 0x30 => arcArm v a
  | 0x38 => arcCommitWord v a
  | _ => a

/-- A write to ARC_WAKE_SEL: the bits of reserved channels keep their value, and a write that would change one sets its
channel's FOREIGN_WRITE (R379). -/
def wakeSelWrite (v : W32) (s : State) : State :=
  let r := s.time.arcReserved
  let old := s.time.arcWakeSel
  let hit := (bitList 32 ((v ^^^ old) &&& r).toNat)
  let s := hit.foldl (fun s n => setArc n { arcOf s n with foreignWrite := true } s) s
  { s with time := { s.time with arcWakeSel := (v &&& ~~~r) ||| (old &&& r) } }

/-- A write to BAR2. -/
def bar2Write (off : Nat) (v : W32) (s : State) : State :=
  match blockAt 0x0100 0x40 8 off, blockAt 0x0400 0x20 8 off, blockAt 0x8100 0x40 32 off with
  | some (n, 0x2C), _, _ => toutCommit n v s
  | some (n, r), _, _ => setTout n (toutStage r v (toutOf s n)) s
  | _, some (n, 0x14), _ => tinCommit n v s
  | _, some (n, 0x00), _ => setTin n { tinOf s n with staged := v &&& 0x7FF } s
  | _, some _, _ => s
  | _, _, some (n, 0x34) => arcWrite n id s
  | _, _, some (n, r) => arcWrite n (arcStage r v) s
  | _, _, _ =>
    match off with
    | 0x0040 => merCommit v s
    | 0x8000 => arcStart v s
    | 0x8004 => arcStop v s
    | 0x8010 => wakeSelWrite v s
    | _ => if 0x0020 ≤ off ∧ off ≤ 0x0034 then modMer (merStage off v) s else s

/-- A write to a register through a port. -/
def writeReg (p : HostPort) (b : Bar) (off : Nat) (v : W32) (s : State) : State :=
  match b with
  | .bar0 => if nativeBar0 s p then bar0Write p off v s else urRegWrite off v s
  | .bar2 => if nativeBar0 s p then bar2Write off v s else s

/-! ### W1C bits (R5) -/

/-- The bits of MQq_STATUS that a write of `k` clears (Table 3.5). -/
def queueClear (k : W32) (x : Queue) : Queue :=
  { x with dbErr := x.dbErr && !k.getLsbD 27, fetchErr := x.fetchErr && !k.getLsbD 26, cqWriteErr := x.cqWriteErr && !k.getLsbD 25,
           foreignWrite := x.foreignWrite && !k.getLsbD 24 }

/-- The bits of ARCn_STATUS that a write of `k` clears (Table 14.4). -/
def arcClear (k : W32) (a : ArcCh) : ArcCh :=
  { a with matched := a.matched && !k.getLsbD 2, capOverrun := a.capOverrun && !k.getLsbD 4, late := a.late && !k.getLsbD 5,
           foreignWrite := a.foreignWrite && !k.getLsbD 7 }

/-- A write to ARC_MATCH clears the MATCH bits of the channels named. -/
def arcMatchClear (k : W32) (s : State) : State :=
  (bitList 32 k.toNat).foldl (fun s n => setArc n { arcOf s n with matched := false } s) s

/-- The W1C bits of a register of a port (R5): `k` are the bits written as 1 that hardware does not set in the same cycle.
REFUSED of a BLOCK_COMMIT is cleared by the write of [28] alone. -/
def clearBits (p : HostPort) (b : Bar) (off : Nat) (k : W32) (s : State) : State :=
  match b with
  | .bar0 =>
    if nativeBar0 s p then
      match blockAt 0x1000 0x40 16 off with
      | some (q, 0x14) => queueWrite p q (queueClear k) s
      | _ => s
    else if off = 0x0010 then urWrite (fun c => { c with irqStatus := c.irqStatus &&& ~~~(k.setWidth 4) }) s
    else if off = 0x9014 ∧ s.compat.extOpen then queueWrite p 15 (queueClear k) s
    else s
  | .bar2 =>
    if nativeBar0 s p then
      match blockAt 0x0100 0x40 8 off, blockAt 0x8100 0x40 32 off with
      | some (n, 0x28), _ => setTout n { toutOf s n with done := (toutOf s n).done && !k.getLsbD 1 } s
      | _, some (n, 0x34) => arcWrite n (arcClear k) s
      | _, _ =>
        if off = 0x0044 then modMer (fun m => { m with foreignWrite := m.foreignWrite && !k.getLsbD 5, madeUp := m.madeUp && !k.getLsbD 4 }) s
        else if off = 0x8008 then arcMatchClear k s
        else if off = 0x0040 then merCommit (k &&& 0x10000000) s
        else blockCommitWrite off (k &&& 0x10000000) s
    else s

/-! ### Meanings of the rows -/

/-- W1C_CLEAR: `hwSet` are the bits that hardware sets in the same clock cycle (R5). -/
def execW1cClear (port : HostPort) (bar : Bar) (off : Nat) (v hwSet : W32) : State → Host.Outcome State Fault Refusal :=
  event 0 (clearBits port bar off (v &&& ~~~hwSet))

/-- REGISTER_WRITE -/
def execRegisterWrite (port : HostPort) (bar : Bar) (off : Nat) (v : W32) : State → Host.Outcome State Fault Refusal :=
  event 0 (writeReg port bar off v)

/-- RL_LOW_READ: a read of the low half of an RL pair latches its high half (R6). A read of any other register answers its
value and latches nothing. -/
def execRlLowRead (port : HostPort) (bar : Bar) (off : Nat) : State → Host.Outcome State Fault Refusal := event 0 (readReg port bar off)

/-- GATED_TIME_READ: the read is served after make-up; it is no wake from QUIESCENT (R364). -/
def execGatedTimeRead (port : HostPort) (off periods : Nat) : State → Host.Outcome State Fault Refusal :=
  event 0 (fun s => if nativeBar0 s port && s.time.mer.gated then readReg port .bar2 off (ungateClock periods s) else s)

/-- TIN_CAP_POP -/
def execTinCapPop (port : HostPort) (n : Nat) : State → Host.Outcome State Fault Refusal :=
  bar2Event port (fun s => if n < 8 && !s.time.mer.gated then tinPop port n s else s)

/-- TSQ_POP -/
def execTsqPop (port : HostPort) (p : Nat) : State → Host.Outcome State Fault Refusal :=
  bar2Event port (fun s => if p < 0x42 && !s.time.mer.gated then tsqPop port p s else s)

/-- ARC_CAP_READ -/
def execArcCapRead (port : HostPort) (n : Nat) : State → Host.Outcome State Fault Refusal :=
  bar2Event port (fun s => if n < 32 && !s.time.mer.gated then arcCapRead port n s else s)

end Sys2Proof.Machine
end

