-- ==== Sys2Proof/Machine/Commit.lean ====
section
/-!
DEFINITION. The commit of groups reached through mailboxes (R22 to R25, R472, R543): the consistency
checks of every group, what becomes live, and what each group's commit does besides.
-/
namespace Sys2Proof.Machine

/-! ### The staged set as it would be live -/

/-- FWD_L2, FWD_V6 and FWD_V4: their staged copy is a list of operations (R327). -/
def isTable (g : Nat) : Bool := groupIn 0x0703 0x0705 g

/-- The live values after a commit of the groups named; tables are not touched. -/
def liveAfter (names : List Nat) (s : State) : State := names.foldl (fun s g => if isTable g then s else makeLive g s) s

/-- A row of a group holds staged values that differ from the live ones. -/
def rowStaged (s : State) (g row : Nat) : Bool := (stagedOf s g).any (fun p => p.1 == row && cfgGet s g row p.2.1 != p.2.2)

/-- The indices that a group's staged copy changes. -/
def stagedIdx (s : State) (g : Nat) : List Nat :=
  ((stagedOf s g).filter (fun p => cfgGet s g p.1 p.2.1 != p.2.2)).map (fun p => p.2.1) |>.eraseDups

/-! ### Forwarding tables (R327, R328) -/

/-- A STATIC entry from its 24 bytes (Table 12.5): FWD_L2 holds the STATIC entries. -/
def l2Static (s : State) (x : Nat) : L2Entry :=
  { mac := bits x 0 48, vid := bits x 48 12, port := bits x 60 7, static := true, remote := false, origin := memberId s, hit := false,
    stamp := 0, damped := false, timeUs := nowNs s / 1000, missed := false, moves := [], dampedAt := 0, refreshed := false }

/-- An L3 entry from its 24 bytes (Table 12.4), seen as it is installed. -/
def l3Installed (s : State) (v6 : Bool) (x : Nat) : L3Entry :=
  l3Seen s (familyNum v6) { len := bits x 128 8, prefx := bits x 0 (addrBits v6), nexthop := bits x 136 16, ageable := bit x 152, hit := false, stamp := 0, missed := false }

/-- Insert or replace a STATIC entry; none where no place is found (R327). -/
def insertL2 (x : Nat) (s : State) : Option State :=
  let e := l2Static s x
  match l2Find s e.vid e.mac with
  | some (place, _) => some (l2Set place (some e) s)
  | none =>
    let places := l2Places e.vid e.mac
    match relocate (fun (y : L2Entry) => l2Key y.vid y.mac) 131072 64 places s.sw.l2 with
    | some (place, m) => some (l2Set place (some e) (modSw (fun w => { w with l2 := m }) s))
    | none =>
      let learned := places.filter (fun i => match entryAt s.sw.l2 i with
        | some y => !y.static
        | none => false)
      (learned.mergeSort (fun a b => decide (a ≤ b))).head?.map (fun place => fwdCount 19 (l2Set place (some e) s))

/-- Insert or replace an L3 entry, and set its filter bit (R307, R327). -/
def insertL3 (v6 : Bool) (x : Nat) (s : State) : Option State :=
  let e := l3Installed s v6 x
  let m := l3Table s v6
  let put := fun place m => setFilter v6 (filterAdd (anchors s.cfg.live v6) v6 e (filterOf s v6)) (setL3Table v6 (setEntry place (some e) m) s)
  match l3Find m v6 e.len e.prefx with
  | some (place, _) => some (put place m)
  | none =>
    (relocate (fun (y : L3Entry) => l3Key v6 y.len y.prefx) (if v6 then 262144 else 65536) 64 (l3Places v6 e.len e.prefx) m).map
      (fun p => put p.1 p.2)

/-- Delete the entry of a key, if there is one (R327). -/
def deleteEntry (table : Nat) (k : TableKey) (s : State) : State :=
  if table = 3 then
    match l2Find s k.1 k.2 with
    | some (place, _) => l2Set place none s
    | none => s
  else
    let v6 := table == 4
    match l3Find (l3Table s v6) v6 k.1 k.2 with
    | some (place, e) => countDeletion v6 e.len (setL3Table v6 (setEntry place none (l3Table s v6)) s)
    | none => s

/-- Apply the staged operations of a table in order: whether every insert found a place, and the state after. -/
def applyOps (table : Nat) : List (Nat × Nat) → State → Bool × State
  | [], s => (true, s)
  | (1, x) :: r, s =>
    match if table = 3 then insertL2 x s else insertL3 (table == 4) x s with
    | some s => applyOps table r s
    | none => (false, (applyOps table r s).2)
  | (_, x) :: r, s => applyOps table r (deleteEntry table (entryTableKey table x) s)

/-- The tables that a commit names, with their operations applied; and those in which an insert found no place. -/
def tablesAfter (names : List Nat) (staged s : State) : List Nat × State :=
  names.foldl (fun (a : List Nat × State) g =>
    if isTable g then
      let (ok, s) := applyOps (g - 0x0700) (stagedOps staged g) a.2
      (if ok then a.1 else g :: a.1, discardGroup g s)
    else a) ([], s)

/-- The buckets of a table that differ between two states. -/
def bucketsChanged {α : Type} [DecidableEq α] (a b : Sparse (Option α)) : Nat :=
  ((((Sparse.keys a ++ Sparse.keys b).filter (fun i => entryAt a i != entryAt b i)).map (· / 4)).eraseDups).length

/-- The buckets that the changes of a table touch. -/
def touched (g : Nat) (s post : State) : Nat :=
  if g = 0x0703 then bucketsChanged s.sw.l2 post.sw.l2
  else if g = 0x0704 then bucketsChanged s.sw.v6 post.sw.v6
  else bucketsChanged s.sw.v4 post.sw.v4

/-! ### Checks of the port and switch groups -/

/-- The checks of a commit: the state before, the state as it would be after, the group. -/
abbrev Checks := State → State → Nat → List (Nat × Bool)

/-- Only the range check, under its number (R543). -/
def rangeOnly (n : Nat) : Checks := fun s _ g => [(n, rangeOk s g)]

/-- BACKHAUL (R40). -/
def backhaulChecks : Checks := fun s post g =>
  let ports := cfgNat post g 2 0
  [(1, !cfgBit post g 1 || ports != 0), (2, ports &&& mapEMG == ports), (3, decide (cfgNat post g 4 0 ≤ cfgNat post g 5 0)), (0xFD, rangeOk s g)]

/-- SPEED is permitted for the port (Table 10.2). -/
def speedOk (p v : Nat) : Bool :=
  match v with
  | 0 => true
  | 1 => true
  | 6 => decide (p < 64) && p % 4 == 0
  | 7 => decide (64 ≤ p)
  | _ => decide (p < 64)

/-- PORT_p (R262). -/
def portChecks : Checks := fun s post g =>
  let p := g - 0x0200
  let f := fun r => cfgNat post g r 0
  [(1, rangeOk s g), (2, speedOk p (f 1)), (3, !laneMember post p || f 1 == 0),
   (4, f 2 == 0 || (f 2 == 1 && [4, 5].contains (f 1)) || (f 2 == 2 && [5, 6].contains (f 1))), (5, decide (f 16 < f 15)),
   (6, f 14 == 0 || f 13 == 2)]

/-- SERDES_p and SERDES_Cn (R267). -/
def serdesChecks : Checks := fun s post g =>
  [(1, rangeOk s g), (2, decide (cfgNat post g 1 0 + cfgNat post g 2 0 + cfgNat post g 3 0 ≤ 63))]

/-- The shared part keeps at least 32,768 cells (R336, check 4). -/
def cellsFit (post : State) : Bool := decide (reservedCells post (cfgNat post) + cfgNat post 0x0500 1 0 + captureCells post ≤ 360448)

/-- QOS_p (R336). -/
def qosChecks : Checks := fun s post g =>
  let p := g - 0x0400
  [(1, rangeOk s g), (2, (List.range 8).all (fun q => decide (cfgNat post g 1 q ≤ cfgNat post g 2 q))),
   (3, (decide (p < 64) || cfgGet post g 10 0 == 20) && (isMac p || cfgNat post g 11 0 == 0)), (4, cellsFit post)]

/-- SW_BUFFER (R336). -/
def bufferChecks : Checks := fun s post g => [(1, rangeOk s g), (4, cellsFit post)]

/-- SW_MIRROR (R346). -/
def mirrorChecks : Checks := fun s post g =>
  [(1, rangeOk s g),
   (2, (List.range 4).all (fun m => cfgNat post g 1 m == 0
     || (egressOk post (cfgNat post g 2 m) && !isMesh (cfgNat post g 2 m) && cfgNat post g 2 m != chordPort)))]

/-- SW_PRP (R350). -/
def prpChecks : Checks := fun s post g =>
  let pairs := (List.range 16).filterMap (prpPair post)
  let ports := (pairs.map (fun p => [p.1, p.2])).flatten
  [(1, rangeOk s g), (2, ports.all (fun p => decide (p < 64) && !laneMember post p) && decide (ports.eraseDups.length = ports.length)),
   (3, pairs.all (fun p => portCfg post p.1 1 == portCfg post p.2 1))]

/-- A key field descriptor holds an encoding of Table 11.6. -/
def keyFieldOk (v : Nat) : Bool := bits v 0 2 == 0 || (bits v 0 2 != 3 && decide (1 ≤ bits v 21 8) && decide (bits v 21 8 ≤ 128))

/-- The key fields in use of a stage. -/
def keysInUse (post : State) (g : Nat) : List Nat := ((List.range 8).map (fun i => cfgNat post g 2 i)).filter (fun v => bits v 0 2 != 0)

/-- The bits of a stage's key. -/
def keyWidth (post : State) (g : Nat) : Nat := ((keysInUse post g).map (fun v => bits v 21 8)).sum

/-- The bytes that a stage takes of the classification pool (R293, check 3). -/
def poolBytes (post : State) (g : Nat) : Nat :=
  match cfgNat post g 1 0 with
  | 1 => 2 ^ keyWidth post g * 16
  | 2 => cfgNat post g 3 0 * 64
  | _ => 0

/-- CLS_Sn (R293). -/
def stageChecks : Checks := fun s post g =>
  let kind := cfgNat post g 1 0
  let entries := liveEntries post g
  let words := entries.filterMap (·.2)
  let keys := words.map entryKey
  [(1, rangeOk s g && (List.range 8).all (fun i => keyFieldOk (cfgNat post g 2 i))),
   (2, match kind with
     | 0 => true
     | 1 => decide (keyWidth post g ≤ 16)
     | _ => decide (keyWidth post g ≤ 312)),
   (3, decide (((List.range 6).map (fun i => poolBytes post (0x0600 + i))).sum ≤ 6 * 2 ^ 20)),
   (4, words.all (fun x => bits x 80 3 != 3 || egressOk post (bits x 84 7))),
   (5, (kind != 2 || decide (keys.eraseDups.length = keys.length)) && (kind != 3 || entries.all (fun e => decide (e.1 ≤ 4095)))),
   (6, (keysInUse post g).all (fun v => decide (bits v 10 11 + bits v 21 8 ≤ if bits v 0 2 = 2 then 2048 else 512)))]

/-- CLS_METERS (R299). -/
def meterChecks : Checks := fun s post g =>
  [(1, rangeOk s g), (2, (stagedIdx s g).all (fun i => decide (cfgNat post g 1 i ≤ cfgNat post g 3 i)))]

/-- Anchors rise strictly from 0, each range spanning at most `most` of the lengths up to `top` (R328, check 2). -/
def anchorsOk (most top : Nat) : List Nat → Bool
  | [] => true
  | [a] => decide (top + 1 ≤ a + most) && decide (a ≤ top)
  | a :: b :: r => decide (a < b) && decide (b ≤ a + most) && anchorsOk most top (b :: r)

/-- FWD_PARAM (R328). -/
def fwdParamChecks : Checks := fun s post g =>
  let a6 := anchors post.cfg.live true
  let a4 := anchors post.cfg.live false
  [(1, rangeOk s g), (2, a6.head? == some 0 && a4.head? == some 0 && anchorsOk 64 128 a6 && anchorsOk 32 32 a4)]

/-- The valid L3 entries of both families. -/
def routes (s : State) : List L3Entry := l3Entries s.sw.v6 ++ l3Entries s.sw.v4

/-- A next hop's word is valid. -/
def nexthopValid (post : State) (i : Nat) : Bool := bit (cfgNat post 0x0702 1 i) 2

/-- FWD_NEXTHOP (R328): the ports of ETHERNET and MESH_NODE next hops, and the entries that L3 entries name. -/
def nexthopChecks : Checks := fun s post g =>
  let words := ((stagedOf s g).map (fun p => p.2.2.toNat)).filter (fun v => bit v 2)
  let portOk := fun v => match bits v 0 2 with
    | 0 => egressOk post (bits v 3 7)
    | 1 => isMesh (bits v 3 7) && decide (bits v 22 18 < 262144)
    | _ => true
  [(1, rangeOk s g), (5, (routes post).all (fun e => nexthopValid post e.nexthop)), (6, words.all portOk)]

/-- FWD_L2, FWD_V6, FWD_V4 (R328); `failed` names the tables in which an insert found no place. -/
def tableChecks (failed : List Nat) : Checks := fun s post g =>
  let words := ((stagedOps s g).filter (fun o => o.1 == 1)).map (·.2)
  let v6 := g == 0x0704
  let len := fun x => bits x 128 8
  if g = 0x0703 then
    [(6, words.all (fun x => egressOk post (bits x 60 7))), (7, !failed.contains g), (8, decide (touched g s post ≤ 65536))]
  else
    [(1, words.all (fun x => decide (len x ≤ addrBits v6))),
     (4, words.all (fun x => decide (maskTo v6 (len x) (bits x 0 (addrBits v6)) = bits x 0 128))),
     (5, (routes post).all (fun e => nexthopValid post e.nexthop)), (7, !failed.contains g), (8, decide (touched g s post ≤ 65536))]

/-! ### Checks of the mesh groups -/

/-- MESH_TEMPLATE_t (R174). -/
def templateChecks : Checks := fun s post g =>
  let f := fun r => cfgNat post g r 0
  [(1, decide (f 1 + f 4 + f 5 + f 7 ≤ cfgNat post 0x0800 1 0)), (2, decide ((if f 11 = 1 then 391 else 851) ≤ f 5)),
   (3, decide (2 * f 3 + f 2 ≤ 2 * f 1)), (4, rangeOk s g)]

/-- The slotframes that are enabled. -/
def enabledFrames (post : State) : List Nat := (List.range 64).filter (sfEnabled post)

/-- MESH_SCHEDULE (R175). -/
def scheduleChecks : Checks := fun s post g =>
  let l := liveLinks post
  let ids := l.map (fun x => (x.frame, x.offset, x.node, x.broadcast))
  [(1, l.all (fun x => sfEnabled post x.frame && decide (x.offset < sfLength post x.frame))), (2, l.all (fun x => x.tx || x.rx)),
   (3, l.all (fun x => if x.broadcast then x.node == 0 else decide (x.node < 262144))),
   (4, l.all (fun x => !x.advertising || (x.tx && x.broadcast))), (5, l.all (fun x => !(x.tx && x.broadcast) || x.sectors != 0)),
   (6, decide (ids.eraseDups.length = ids.length)), (7, (enabledFrames post).all (fun h => decide (1 ≤ cfgNat post g 1 (sfHop post h)))),
   (8, l.all (fun x => decide (-160 ≤ x.power) && decide (x.power ≤ 144))),
   (0xFD, rangeOk s g && (enabledFrames post).all (fun h => decide (1 ≤ sfLength post h)))]

/-- A record outside FREE has KEY_GEN, or a pending generation, of a parity (R206, check 4). -/
def usesParity (post : State) (parity : Nat) : Bool :=
  post.mesh.nodes.any (fun p => p.2.state != 0 && (p.2.keyGen.toNat % 2 == parity || (p.2.rekey && pendingGen p.2 % 2 == parity)))

/-- MESH_SECURITY (R206). -/
def securityChecks : Checks := fun s post g =>
  let good := fun row => let k := slotOf post (cfgNat post g row 0); decide (k.state = .valid) && bit k.attr.toNat 5
  let eui := cfgNat post g 3 0
  [(1, rangeOk s g), (2, good 1 && good 2), (3, eui != 0 && eui != 2 ^ 64 - 1),
   (4, (!rowStaged s g 1 || !usesParity post 0) && (!rowStaged s g 2 || !usesParity post 1))]

/-- PARTITION (R482). -/
def partitionChecks : Checks := fun s post g =>
  [(1, rangeOk s g), (2, (List.range 1024).all (fun p => !s.integ.facetsOut.contains (cfgNat post g 1 p)))]

/-! ### Checks of the radio groups -/

/-- SECTOR_s (R87). -/
def sectorChecks : Checks := fun s post g =>
  let f := fun r => cfgNat post g r 0
  [(1, decide (f 2 ≤ 2)), (2, decide (1 ≤ f 4) && decide (f 4 ≤ 4)), (3, f 6 != 1 || decide (f 7 ≤ 17)),
   (4, f 1 == 0 || !bit s.integ.sectorsFailed.toNat (g - 0x0900)), (0xFD, rangeOk s g)]

/-- FRONT_END_s (R88). -/
def frontEndChecks : Checks := fun s post g =>
  let f := fun r => cfgNat post g r 0
  [(1, f 10 == 0 || decide (f 4 < f 12)), (2, f 10 == 0 || decide (f 12 ≤ f 11)), (3, !bit (f 8) (g - 0x0910)), (0xFD, rangeOk s g)]

/-- CAL_s (R86). -/
def calChecks : Checks := fun s _ g =>
  [(1, (stagedOf s g).all (fun p => let t := toSigned 16 (p.2.2.toNat % 65536); decide (-300 ≤ t) && decide (t ≤ 300))), (0xFD, rangeOk s g)]

/-- The limits of a window by BAND, in kHz (R110, Table 5.2). -/
def windowLimits (band : Nat) : Nat × Nat := if band = 0 then (395000, 515000) else if band = 1 then (858000, 965000) else (2400000, 2505000)

/-- The observation window of RX_s in kHz. -/
def windowOf (post : State) (g : Nat) : Nat × Nat :=
  let half := 12500 * 2 ^ cfgNat post g 2 0
  (cfgNat post g 1 0 * 25 - half, cfgNat post g 1 0 * 25 + half)

/-- The enabled layers of RX_s. -/
def layersOn (post : State) (g : Nat) : List Nat := (List.range 4).filter (fun l => cfgNat post g 3 l != 0)

/-- RX_s (R109). -/
def rxChecks : Checks := fun s post g =>
  let k := g - 0x0930
  let w := windowOf post g
  let lim := windowLimits (cfgNat post (0x0900 + k) 2 0)
  let on := layersOn post g
  let inside := fun l =>
    let sp := cfgNat post g 3 l
    let first := cfgNat post g 4 l
    decide (2 * w.1 + sp ≤ 2 * first) && decide (2 * (first + (cfgNat post g 5 l - 1) * sp) + sp ≤ 2 * w.2)
  [(1, decide (lim.1 ≤ w.1) && decide (w.2 ≤ lim.2)), (2, on.all inside), (3, decide ((on.map (fun l => cfgNat post g 5 l)).sum ≤ 2048)),
   (4, (List.range 4).all (fun l => let t := cfgNat post g 6 l; t % 2 == 1 && decide (31 ≤ t) && decide (t ≤ 255))),
   (5, decide (((List.range 8).map (fun j => cfgNat post (0x0930 + j) 9 0)).sum ≤ 128)),
   (6, cfgNat post (0x0900 + k) 1 0 == 0 || !on.isEmpty), (0xFD, rangeOk s g)]

/-- The profiles that a spacing allows (Table 5.3). -/
def profilesOn (spacing : Nat) : List Nat :=
  match spacing with
  | 100 => [0x00] | 200 => [0x00, 0x01, 0x13, 0x23] | 400 => [0x01, 0x02, 0x03, 0x04, 0x12, 0x22] | 800 => [0x05, 0x11, 0x21]
  | 1200 => [0x10, 0x20] | _ => []

/-- The enabled detector entries of DET_s. -/
def detectorsOn (post : State) (g : Nat) : List Nat := ((List.range 512).map (fun i => cfgNat post g 1 i)).filter (fun v => bit v 0)

/-- DET_s (R114). -/
def detChecks : Checks := fun s post g =>
  let rx := 0x0930 + (g - 0x0940)
  let on := detectorsOn post g
  let spacing := fun v => cfgNat post rx 3 (bits v 1 2)
  let ids := on.map (fun v => bits v 1 20)
  [(1, on.all (fun v => spacing v != 0 && decide (bits v 3 10 < cfgNat post rx 5 (bits v 1 2)))),
   (2, on.all (fun v => (profilesOn (spacing v)).contains (bits v 13 8))), (3, decide (ids.eraseDups.length = ids.length)),
   (0xFD, rangeOk s g && (stagedOf s g).all (fun p => decide (bits p.2.2.toNat 21 7 ≤ 120) && decide (bits p.2.2.toNat 28 8 ≤ 140)))]

/-! ### Checks of the storage, cluster and diagnostic groups -/

/-- STORE (Table 9.8): a queue holds at least one frame of the longest PSDU. -/
def storeChecks : Checks := fun s post g =>
  [(1, rangeOk s g), (2, (List.range 8).all (fun k => decide (cfgNat post (0x0930 + k) 11 0 + 16 ≤ cfgNat post g 2 0)))]

/-- CLUSTER (R411). -/
def clusterChecks : Checks := fun s post g =>
  let me := memberId post
  let mask := clusterMask post
  let peers := ((List.range 12).map (fun l => cfgNat post g 4 l)).filter (· != 0xF0)
  let on := cfgBit post g 3
  let seed := slotOf post (cfgNat post g 5 0)
  let wrap := slotOf post 1023
  [(1, rangeOk s g), (2, bit mask me), (3, !on || (bit mask (twinId post) && decide (2 ≤ (peers.filter (· == twinId post)).length))),
   (4, peers.all (fun m => m != me && bit mask m)),
   (5, !on || (decide (seed.state = .valid) && slotOwner seed == 0 && bit seed.attr.toNat 4
     && (decide (wrap.state = .empty) || (decide (wrap.state = .valid) && slotOwner wrap == 2))))]

/-! ### The checks of a commit -/

/-- The checks of a group, in their order (R23, R543). -/
def groupChecks (failed : List Nat) (s post : State) (g : Nat) : List (Nat × Bool) :=
  let f : Checks :=
    if g = 0x0100 then backhaulChecks
    else if g = 0x0101 then rangeOnly 0xFD
    else if groupIn 0x0200 0x0241 g then portChecks
    else if serdesGroup g then serdesChecks
    else if groupIn 0x0400 0x0451 g then qosChecks
    else if g = 0x0500 then bufferChecks
    else if g = 0x0501 then mirrorChecks
    else if g = 0x0502 then prpChecks
    else if groupIn 0x0600 0x0605 g then stageChecks
    else if g = 0x0606 then meterChecks
    else if g = 0x0700 then fwdParamChecks
    else if g = 0x0702 then nexthopChecks
    else if isTable g then tableChecks failed
    else if groupIn 0x0810 0x0817 g then templateChecks
    else if g = 0x0820 then scheduleChecks
    else if g = 0x0822 then securityChecks
    else if g = 0x0824 then partitionChecks
    else if groupIn 0x0900 0x0907 g then sectorChecks
    else if groupIn 0x0910 0x0917 g then frontEndChecks
    else if groupIn 0x0920 0x0927 g then calChecks
    else if groupIn 0x0930 0x0937 g then rxChecks
    else if groupIn 0x0940 0x0947 g then detChecks
    else if g = 0x0A00 then storeChecks
    else if g = 0x0B00 then clusterChecks
    else rangeOnly 1
  f s post g

/-- The state as a commit of the groups named would leave values and tables, and the tables that failed check 7. -/
def postCommit (names : List Nat) (s : State) : List Nat × State := tablesAfter names s (liveAfter names s)

/-- The first group in the list that a check refuses, with the number of the check. -/
def refusedBy (failed : List Nat) (s post : State) : List Nat → Option (Nat × Nat)
  | [] => none
  | g :: r => match firstFailing (groupChecks failed s post g) with
    | some n => some (g, n)
    | none => refusedBy failed s post r

/-- A group is epoch-bearing (Table 18.2). -/
def epochBearing (g : Nat) : Bool := match groupSpec g with | some x => x.epoch | none => false

/-- A group changes a row that is committed only in CONFIG. -/
def changesConfigOnly (s : State) (g : Nat) : Bool :=
  match groupSpec g with
  | some x => x.configOnly.any (rowStaged s g)
  | none => false

/-! ### What a commit does besides (each hook: the state before, the group, the state after) -/

/-- A port's link goes down for a change of its settings, and its crossings are flushed (R264). -/
def retrain (p : Nat) (s : State) : State :=
  if (swPort s p).linkUp then portDown p 3 false s
  else if (egressList s p).isEmpty && (ingressList s p).isEmpty then s
  else startFlush p 0 3 true true (holdsFor s p) none s

/-- The staged copy of a group is discarded with its report (R24, R263): cause 1 a transition, 2 a lane group. -/
def discardReported (g cause : Nat) (s : State) : State :=
  match stagedBy s g with
  | some q => raise 0x0103 (leBytes 2 g ++ leBytes 1 q ++ leBytes 1 cause) (discardGroup g s)
  | none => s

/-- A member port of a lane group: live SPEED 0, its staged copy discarded (R263). -/
def takeLane (s : State) (p : Nat) : State :=
  let was := portCfg s p 1
  let s := cfgSetLive (0x0200 + p) 1 0 0 s
  discardReported (0x0200 + p) 2 (if was = 0 then s else retrain p s)

/-- PORT_p (R263, R264, R273). -/
def hookPort (old : State) (g : Nat) (s : State) : State :=
  let p := g - 0x0200
  let s := modSwPort p (fun x => { x with thresh := threshBase s p, good := 0 }) s
  let changed := [1, 2, 3].any (fun r => cfgGet old g r 0 != cfgGet s g r 0)
  let s := if changed then retrain p s else s
  if portCfg s p 1 = 6 then [p + 1, p + 2, p + 3].foldl takeLane s else s

/-- SERDES_p and SERDES_Cn: a change of polarity takes the link down (R267). -/
def hookSerdes (old : State) (g : Nat) (s : State) : State :=
  if (List.range 2).any (fun i => cfgGet old g 4 i != cfgGet s g 4 i) then
    if g < 0x0360 then retrain (g - 0x0300) s else linkDown (g - 0x0360) s
  else s

/-- QOS_p: a shaper whose fields changed starts full (R336). -/
def hookQos (old : State) (g : Nat) (s : State) : State :=
  let p := g - 0x0400
  let ch := fun r i => cfgGet old g r i != cfgGet s g r i
  let s := ((List.range 8).filter (fun q => ch 6 q || ch 7 q)).foldl (fun s q => setBucketDebt (queueBucket p q) 0 s) s
  if ch 8 0 || ch 9 0 then setBucketDebt (portBucket p) 0 s else s

/-- CLS_METERS and CLS_POLICERS: what changed starts full (R299, R344). -/
def hookBuckets (keys : Nat → List Nat) (old : State) (g : Nat) (s : State) : State :=
  ((stagedIdx old g).map keys).flatten.foldl (fun s k => setBucketDebt k 0 s) s

/-- FWD_PARAM: changed anchors give a new filter (R307). -/
def hookFwdParam (old : State) (s : State) : State :=
  [true, false].foldl (fun s v6 => if anchors old.cfg.live v6 = anchors s.cfg.live v6 then s else rebuildFilter v6 s) s

/-- MESH_SECURITY: every Facet discards the keys of a parity whose master slot changed (R208). -/
def hookSecurity (old : State) (g : Nat) (s : State) : State :=
  [(1, 0), (2, 1)].foldl (fun s p => if cfgGet old g p.1 0 = cfgGet s g p.1 0 then s else dropKeys (fun c => c.gen % 2 == p.2) s) s

/-- The Prisms that have work (R521): a partition of the map in use, or a slow-path role. -/
def workingPrisms (s : State) : List Nat :=
  let map := if s.cfg.partitionLive || s.cfg.overlay then (List.range 1024).map (fun p => facetOfPartition s p / 16) else []
  (map ++ (List.range (cfgNat s 0x0700 14 0)).map (fun i => Config.slowFacet i % 256 / 16)).eraseDups

/-- VDD_CORE rises before more than four Prisms are ungated at once (R519). -/
def ungatePrisms (old s : State) : State :=
  if 4 < ((workingPrisms s).filter (fun x => !(workingPrisms old).contains x)).length then
    { s with power := { s.power with vddCore := min 850 (s.power.vddCore + 10) } }
  else s

/-- Partitions move to other Facets: the old owner hands over its copy-table entries, and the keys are
derived afresh (R208, R217). -/
def movePartitions (old s : State) : State :=
  let moved := (List.range 1024).filter (fun p => facetOfPartition old p != facetOfPartition s p)
  if moved.isEmpty then s
  else
    let gone := fun n => moved.contains (n / 256)
    let s := dropKeys (fun c => gone c.node) s
    let entries := ((old.mesh.copies.map (·.2)).flatten).filter (fun e => gone e.node)
    let s := modMesh (fun m => { m with copies := (m.copies.map (fun p => (p.1, p.2.filter (fun e => !gone e.node)))).filter (fun p => !p.2.isEmpty) }) s
    ungatePrisms old (entries.foldl (fun s e => setCopies (facetOf s e.node) (copiesOf s (facetOf s e.node) ++ [e]) s) s)

/-- PARTITION (R482): in QUIESCENT the overlay stays in use (R45). -/
def hookPartition (old : State) (s : State) : State := movePartitions old { s with cfg := { s.cfg with partitionLive := true } }

/-- Values of a group differ from those last applied, in the rows given. -/
def differs (s : State) (g : Nat) (rows : List Nat) : Bool :=
  match groupSpec g with
  | some x => (x.fields.filter (fun f => rows.contains f.row)).any (fun f => (List.range f.members).any (fun i => applied s g f.row i != cfgGet s g f.row i))
  | none => false

/-- SECTOR_s: applied at the next idle instant; DAC_RANGE by its own rule (R87, R97). -/
def hookSector (g : Nat) (s : State) : State :=
  let dac := differs s g [3]
  let rest := differs s g [1, 2, 4, 5, 6, 7, 8]
  modSector (g - 0x0900) (fun x => { x with pendSector := rest, pendDac := if dac then some (x.pendDac.getD s.now) else none, dacHold := dac && x.dacHold }) s

/-- FRONT_END_s: applied at the next idle instant; the first commit in CONFIG frees the outputs (R88, R95). -/
def hookFrontEnd (g : Nat) (s : State) : State :=
  modSector (g - 0x0910) (fun x => { x with pendFront := true, frontOk := x.frontOk || s.mode.mode == .config }) s

/-- RX_s: a change of the window or a layer waits (R112). -/
def hookRx (g : Nat) (s : State) : State :=
  let wait := differs s g rxHeldRows
  modSector (g - 0x0930) (fun x => { x with pendRx := if wait then some (x.pendRx.getD s.now) else none })
    (applyRows g [7, 8, 9, 10, 11, 12, 13, 14] s)

/-- CAL_s: a persistent table is written to the drives (R86). -/
def hookCal (g : Nat) (s : State) : State :=
  let k := g - 0x0920
  let s := if bit s.radio.calPersist k && arrayUp s then
      modStore (fun t => { t with savedCal := Sparse.setAll cfgDefault (Sparse.drop (fun x => keyGroup x == g) t.savedCal) (s.cfg.live.filter (fun p => keyGroup p.1 == g)) }) s
    else s
  modRadio (fun r => { r with calPersist := if bit r.calPersist k then r.calPersist - 2 ^ k else r.calPersist }) s

/-- "Gobaix twin wrap" in ASCII. -/
def twinInfo : List Byte := [0x47, 0x6F, 0x62, 0x61, 0x69, 0x78, 0x20, 0x74, 0x77, 0x69, 0x6E, 0x20, 0x77, 0x72, 0x61, 0x70]

/-- Slot 1023 is derived from TWIN_SEED_SLOT (R430). -/
def deriveWrap (s : State) : State :=
  let seed := slotOf s (cfgNat s 0x0B00 5 0)
  let attr := bits seed.attr.toNat 20 4 * 2 ^ 20 + 0xC0 + 2 * 2 ^ 24 + 1 * 2 ^ 27
  writeSlot 1023 attr (hkdf [] (slotKey seed) (twinInfo ++ leBytes 1 (memberId s / 2)) 32) s

/-- CLUSTER: links with another peer start again, members outside the cluster go, slot 1023 is derived (R411, R430, R438). -/
def hookCluster (old : State) (g : Nat) (s : State) : State :=
  let s := ((List.range 12).filter (fun l => cfgGet old g 4 l != cfgGet s g 4 l)).foldl
    (fun s l => modLink l (fun x => { x with mismatch := false, conflict := false }) (linkDown l s)) s
  let s := ((bitList 16 (clusterMask old)).filter (fun m => !bit (clusterMask s) m)).foldl
    (fun s m => modMember m (fun _ => Member.reset) (dropRemote m s)) s
  if cfgBit s g 3 then deriveWrap s else s

/-- A port that QUIESCENT stops: its link goes down, and for R41 it keeps the state it had (R44, R45). -/
def stopPort (p : Nat) (s : State) : State :=
  if (swPort s p).linkUp then
    let kept := s.mode.backhaulSince
    let s := portDown p 2 false s
    { s with mode := { s.mode with backhaulSince := kept } }
  else s

/-- The Ethernet ports that QUIESCENT_PORTS leaves out. -/
def stoppedPorts (s : State) : List Nat := (List.range 64).filter (fun p => !bit (cfgNat s 0x0101 1 0) p)

/-- A stopped port runs again: for R41 its link state counts from now (R44). -/
def resumePort (p : Nat) (s : State) : State := noteBackhaul p (swPort s p).linkUp s

/-- QUIESCENT: in that mode the ports follow QUIESCENT_PORTS (R45). -/
def hookQuiescent (old : State) (s : State) : State :=
  if datapath s = .quiescent then
    let s := (stoppedPorts s).foldl (fun s p => stopPort p s) s
    ((stoppedPorts old).filter (fun p => !(stoppedPorts s).contains p)).foldl (fun s p => resumePort p s) s
  else s

/-- BACKHAUL: ports are counted by PROBE_REQUIRED anew (R41). -/
def hookBackhaul (s : State) : State :=
  let runs := fun p => !(decide (datapath s = .quiescent) && (stoppedPorts s).contains p)
  ((List.range 0x42).filter runs).foldl (fun s p => noteBackhaul p (swPort s p).linkUp s) s

/-- What the commit of a group does besides making its values live. -/
def hook (old : State) (s : State) (g : Nat) : State :=
  if g = 0x0100 then hookBackhaul s
  else if g = 0x0101 then hookQuiescent old s
  else if groupIn 0x0200 0x0241 g then hookPort old g s
  else if serdesGroup g then hookSerdes old g s
  else if groupIn 0x0400 0x0451 g then hookQos old g s
  else if g = 0x0606 then hookBuckets (fun i => [meterBucket i 0, meterBucket i 1]) old g s
  else if g = 0x0607 then hookBuckets (fun i => [policerBucket i]) old g s
  else if g = 0x0700 then hookFwdParam old s
  else if g = 0x0704 ∨ g = 0x0705 then rebuildBanks s
  else if g = 0x0800 then setMeshShift (meshShiftNow old) s
  else if g = 0x0822 then hookSecurity old g s
  else if g = 0x0824 then hookPartition old s
  else if groupIn 0x0900 0x0907 g then hookSector g s
  else if groupIn 0x0910 0x0917 g then hookFrontEnd g s
  else if groupIn 0x0920 0x0927 g then hookCal g s
  else if groupIn 0x0930 0x0937 g then hookRx g s
  else if g = 0x0B00 then hookCluster old g s
  else s

/-- A forwarding group: its commit loads shadow banks (R329, R330). -/
def forwardingGroup (g : Nat) : Bool := groupIn 0x0700 0x0705 g

/-- Schedule and templates as they stood, for the slots that begin within 2 ms (R174, R175). -/
def keepSchedule (old : State) (s : State) : State :=
  let held := fun k => keyGroup k == 0x0820 || groupIn 0x0810 0x0817 (keyGroup k)
  let t := meshTime old
  modMesh (fun m => { m with schedules := (t, old.cfg.live.filter (fun p => held p.1)) :: m.schedules.filter (fun p => decide (t < p.1 + lastUnits * 65536)) }) s

/-- The banks of the old epoch, for the packets on the slow path (R329). -/
def keepBank (old : State) (s : State) : State :=
  let waiting := (s.sw.slow.map (fun p => p.2.map (fun x => x.pkt.md.epoch))).flatten
  let b : Bank := { epoch := old.cfg.epoch.toNat, live := old.cfg.live, v6 := old.sw.v6, v4 := old.sw.v4 }
  modSw (fun w => { w with banks := (b :: w.banks).filter (fun x => waiting.contains x.epoch) }) s

/-- The epoch after a commit (R25, R472). -/
def epochAfter (names : List Nat) (set : Option Nat) (s : State) : W32 :=
  match set with
  | some v => BitVec.ofNat 32 v
  | none => if names.any epochBearing then s.cfg.epoch + 1 else s.cfg.epoch

/-- The epoch has risen: members that were ahead and are no longer are asked for their entries again (R420). -/
def catchUp (s : State) : State :=
  (s.chord.members.filter (fun p => p.2.behind != 0 && decide (p.2.behind ≤ s.cfg.epoch.toNat + 1))).foldl
    (fun s p => requestResync p.1 (modMember p.1 (fun m => { m with behind := 0 }) s)) s

/-- A commit that has passed every check: the groups become live together (R23, R329, R472). -/
def goLive (names : List Nat) (set : Option Nat) (old : State) : State :=
  let s := (postCommit names old).2
  let epoch := epochAfter names set old
  let s := { s with cfg := { s.cfg with epoch } }
  let s := if names.any (fun g => g == 0x0820 || groupIn 0x0810 0x0817 g) then keepSchedule old s else s
  let s := if epoch = old.cfg.epoch then s else keepBank old s
  let s := names.foldl (hook old) s
  let s := if names.any forwardingGroup then modSw (fun w => { w with shadow := true }) s else s
  if epoch = old.cfg.epoch then s else leaseExpiry (catchUp s)

/-! ### The fixed values of the compatibility modes (R498, Table 19.8) -/

/-- The port set of BACKHAUL_PORTS in a compatibility mode. -/
def urUplinks (s : State) : Int := ((s.compat.uplink.toNat : Nat) : Int)

/-- The values that an entry to ACTIVE_C or STANDBY_C commits, where they differ from the live ones. -/
def fixedValues (s : State) : List (Nat × Nat × Nat × Int) :=
  let ports := (List.range 8).map (fun p =>
    [(0x0200 + p, 1, 0, if portCfg s p 1 = 0 then (0 : Int) else 1), (0x0200 + p, 2, 0, 0), (0x0200 + p, 13, 0, 0), (0x0200 + p, 14, 0, 0), (0x0200 + p, 21, 0, 1)])
  let others := if feature s 4 then [] else ((List.range 0x42).drop 8).map (fun p => [(0x0200 + p, 1, 0, (0 : Int))])
  let backhaul := [(0x0100, 1, 0, (0 : Int)), (0x0100, 2, 0, urUplinks s)]
  let sectors := [(0x0900, 2, 0, (1 : Int)), (0x0901, 2, 0, 1)] ++ ((List.range 8).drop 2).map (fun k => (0x0900 + k, 1, 0, 0))
  let dets := (List.range 8).map (fun k =>
    let on := (List.range 512).filter (fun i => bit (cfgNat s (0x0940 + k) 1 i) 0)
    let keep := on.filter (fun i =>
      let v := cfgNat s (0x0940 + k) 1 i
      decide (bits v 13 8 ≤ 3) && !on.any (fun j => decide (j < i) && bits (cfgNat s (0x0940 + k) 1 j) 1 12 == bits v 1 12 && decide (bits (cfgNat s (0x0940 + k) 1 j) 13 8 ≤ 3)))
    (on.filter (fun i => !keep.contains i)).map (fun i => (0x0940 + k, 1, i, ((cfgNat s (0x0940 + k) 1 i - 1 : Nat) : Int))))
  let frames := (enabledFrames s).map (fun h =>
    let v := slotframe s h
    (0x0820, 3, h, if 8 ≤ h then ((v - 256 : Nat) : Int) else ((v % 2 ^ 32 : Nat) : Int)))
  let links := (liveLinks s).filter (fun l => decide (8 ≤ l.frame)) |>.map (fun l => (0x0820, 4, l.index, (0 : Int)))
  let mesh := [(0x0810, 5, 0, (1000 : Int)), (0x0810, 10, 0, 0), (0x0700, 5, 0, 1), (0x0700, 7, 0, 1)]
  let cluster := [(0x0B00, 2, 0, ((clusterMask s &&& (3 * 2 ^ (memberId s / 2 * 2)) : Nat) : Int))] ++ (if feature s 5 then [] else [(0x0B00, 7, 0, (0 : Int))])
  (ports.flatten ++ others.flatten ++ backhaul ++ sectors ++ dets.flatten ++ frames ++ links ++ mesh ++ cluster).filter
    (fun p => cfgGet s p.1 p.2.1 p.2.2.1 != p.2.2.2)

/-- A native commit keeps the fixed values of Table 19.8. PFC_ENABLE is zero there only because FC_MODE is NONE. -/
def keepsFixed (post : State) : Bool := ((fixedValues post).filter (fun p => !(groupIn 0x0200 0x0241 p.1 && p.2.1 == 14))).isEmpty

/-- The fixed values are committed in one commit under owner 0x10 (R498), and the node records take the fixed security settings. -/
def commitFixed (s : State) : State :=
  let vals := fixedValues s
  let names := (vals.map (·.1)).eraseDups
  let s := vals.foldl (fun s p => stageField 16 p.1 p.2.1 p.2.2.1 p.2.2.2 s) (names.foldl (fun s g => discardGroup g s) s)
  let s := goLive (if names.isEmpty then [0x0100] else names) none s
  (s.mesh.nodes.filter (fun p => p.2.state != 0 && (p.2.gobaix || p.2.secMin != 5))).foldl
    (fun s p => saveNode p.1 { p.2 with gobaix := false, secMin := 5 } s) s

/-! ### SYS_CONFIG_COMMIT and SYS_CONFIG_DISCARD (R472) -/

/-- The reply of both commands. -/
def commitReply (s : State) (n fail : Nat) : List Byte := leBytes 4 s.cfg.epoch.toNat ++ leBytes 2 n ++ leBytes 2 fail ++ zeros 24

/-- The groups that a request names, in order. -/
def namedGroups (req : List Byte) : List Nat := (List.range (fld req 0 2)).map (fun i => fld req (4 + 2 * i) 2)

/-- The groups whose staged copy a queue owns. -/
def ownedGroups (s : State) (q : Nat) : List Nat := (s.cfg.owner.filter (fun p => p.2 == q + 1)).map (·.1)

/-- What both commands check first: unknown groups, then ownership; the groups to act on, and those named. -/
def groupsOf (c : Cmd) (s : State) : Except (Status × Nat) (List Nat) :=
  let l := namedGroups c.req
  match l.findIdx? (fun g => (groupSpec g).isNone) with
  | some i => .error (.badParam, min (4 + 2 * i) 0xFF)
  | none =>
    let names := if l.isEmpty then ownedGroups s c.queue else l.eraseDups
    match names.findSome? (lockedBy s c.queue) with
    | some o => .error (.cfgLocked, o)
    | none => .ok names

/-- EPOCH_REQ of a request with EPOCH_SET = 1. -/
def epochReq (req : List Byte) : Option Nat := if bit (fld req 2 2) 0 then some (fld req (4 + 2 * fld req 0 2) 4) else none

/-- The commit of a list of groups with staged copies: its refusal, or the state after. -/
def commitGroups (names : List Nat) (set : Option Nat) (native : Bool) (s : State) : Answer :=
  let (failed, post) := postCommit names s
  if names.any (fun g => !stageable s g) || (decide (s.mode.mode ≠ .config) && names.any (changesConfigOnly s)) then .fail .modeRefused 0 s
  else if native && [Mode.activeC, .standbyC].contains s.mode.mode && !keepsFixed post then .fail .modeRefused 0 s
  else match refusedBy failed s post names with
    | some (g, n) => .done .cfgRefused n (commitReply s 0 g) s
    | none =>
      match set with
      | some v =>
        if v ≤ s.cfg.epoch.toNat ∨ !names.any epochBearing then .done .cfgRefused 0xFE (commitReply s 0 0xFFFF) s
        else let s := goLive names set s; .ok (commitReply s names.length 0xFFFF) s
      | none => let s := goLive names none s; .ok (commitReply s names.length 0xFFFF) s

/-- SYS_CONFIG_COMMIT (R472); a commit that must wait for a merge waits, and those after it too (R330). -/
def configCommit (c : Cmd) (s : State) : Answer :=
  match groupsOf c s with
  | .error (st, d) => .fail st d s
  | .ok names =>
    if decide (s.mode.mode = .service) && names.any epochBearing then .fail .modeRefused 0 s
    else
      let names := names.filter (fun g => (stagedBy s g).isSome)
      if !s.sw.commitWait.isEmpty || (s.sw.shadow && names.any forwardingGroup) then
        .wait (modSw (fun w => { w with commitWait := w.commitWait ++ [c] }) s)
      else commitGroups names (epochReq c.req) true s

/-- SYS_CONFIG_DISCARD (R472). -/
def configDiscard (c : Cmd) (s : State) : Answer :=
  match groupsOf c s with
  | .error (st, d) => .fail st d s
  | .ok names =>
    let names := names.filter (fun g => (stagedBy s g).isSome)
    let s := names.foldl (fun s g => discardGroup g s) s
    .ok (commitReply s names.length 0xFFFF) s

/-- The length of a request: COUNT groups, at most 256, and EPOCH_REQ where the layout has it. -/
def commitLen (epoch : Bool) (r : List Byte) : Bool :=
  decide (4 ≤ r.length) && decide (fld r 0 2 ≤ 256)
    && decide (r.length = 4 + 2 * fld r 0 2 + (if epoch && bit (fld r 2 2) 0 then 4 else 0))

/-- SYS_CONFIG_COMMIT (R472). -/
def execSysConfigCommit (e : Entry) : State → Host.Outcome State Fault Refusal :=
  mailbox { code := 0x0108, modes := modesAll, len := commitLen true, read := false } configCommit e

/-- SYS_CONFIG_DISCARD (R472). -/
def execSysConfigDiscard (e : Entry) : State → Host.Outcome State Fault Refusal :=
  mailbox { code := 0x0109, modes := modesAll, len := commitLen false, read := false } configDiscard e

end Sys2Proof.Machine
end

