-- ==== Sys2Proof/Machine/Modes.lean ====
section
/-!
DEFINITION. The operating modes: the backhaul (R40 to R44), the wake from QUIESCENT (R45 to R47), SYS_MODE_SET
with the preconditions of Table 2.5, and the completion of a transition (R24, R30, R33, R35, R38, R39).
-/
namespace Sys2Proof.Machine

def modMode (f : ModeState → ModeState) (s : State) : State := { s with mode := f s.mode }

def modCompat (f : CompatState → CompatState) (s : State) : State := { s with compat := f s.compat }

/-! ### The backhaul (R40 to R44) -/

/-- The ports of BACKHAUL_PORTS. -/
def backhaulPorts (s : State) : List Nat := bitList 0x42 (cfgNat s 0x0100 2 0)

/-- Every port of BACKHAUL_PORTS has been down for ISLAND_HOLD (R41). An empty set is never lost. -/
def lossDeclared (s : State) : Bool :=
  let l := backhaulPorts s
  !l.isEmpty && l.all (fun p => !backhaulUp s p && decide (cfgNat s 0x0100 4 0 * 100 * msTicks ≤ since s (backhaulAt s p)))

/-- A port of BACKHAUL_PORTS has been up for ISLAND_RESTORE (R41). -/
def restoreDeclared (s : State) : Bool :=
  (backhaulPorts s).any (fun p => backhaulUp s p && decide (cfgNat s 0x0100 5 0 * 100 * msTicks ≤ since s (backhaulAt s p)))

/-- UR_STATUS.BACKHAUL_DOWN takes a value; a change raises the UR event BACKHAUL (R493, Table 19.2). -/
def setBackhaulDown (down : Bool) (s : State) : State :=
  if s.compat.backhaulDown = down then s else urEvent 3 7 0xFFFF 0 0 (b2n down) [] (modCompat (fun c => { c with backhaulDown := down }) s)

/-- The drain of held records begins (R42, R43, R254); a new ISLAND period may report HELD_FULL again (R253). -/
def beginDrain (s : State) : State :=
  let j := s.store.journal
  let s := modJournal (fun j => { j with heldFull := false }) s
  if (heldRecords j).isEmpty ∨ j.drain.isSome then s else modJournal (fun j => { j with drain := some (s.now, 0), sinceRelease := 0 }) s

/-- Held records stay until ISLAND ends (R43). -/
def pauseDrain (s : State) : State := modJournal (fun j => { j with drain := none }) s

/-- Loss is declared (R41): in ACTIVE_N with ISLAND_ENABLE = 1 transition 12 begins; in QUIESCENT the origin becomes
ISLAND (R44); in the compatibility modes UR_STATUS shows it. -/
def backhaulLost (s : State) : State :=
  if !lossDeclared s then s
  else match s.mode.mode with
    | .activeN =>
      let s := modMode (fun m => { m with backhaulLost := true }) s
      if !cfgBit s 0x0100 1 then s
      else if outranks s 0x04 then startTransition 12 .island 0x04 none none s
      else if s.mode.trans.any (fun t => t.row == 12) || s.mode.held.contains .backhaulLost then s
      else holdTrigger .backhaulLost s
    | .island => modMode (fun m => { m with backhaulLost := true }) s
    | .quiescent =>
      if [some Mode.activeN, some .island].contains s.mode.origin then
        let s := modMode (fun m => { m with backhaulLost := true }) s
        if s.mode.origin = some .activeN ∧ cfgBit s 0x0100 1 then pauseDrain (modMode (fun m => { m with origin := some .island }) s) else s
      else s
    | .activeC => setBackhaulDown true s
    | .standbyC => setBackhaulDown true s
    | .off => s | .boot => s | .selftest => s | .config => s | .standbyN => s | .service => s | .dump => s

/-- Restoration is declared (R41): in ISLAND transition 13 begins; in ACTIVE_N what was held is released (R43); in
QUIESCENT with origin ISLAND it is wake source 0x6, or else the origin becomes ACTIVE_N (R44). -/
def backhaulRestored (s : State) : State :=
  if !restoreDeclared s then s
  else match s.mode.mode with
    | .activeN => beginDrain (modMode (fun m => { m with backhaulLost := false }) s)
    | .island =>
      if outranks s 0x05 then startTransition 13 .activeN 0x05 none none s
      else if s.mode.trans.any (fun t => t.row == 13) || s.mode.held.contains .backhaulRestored then s
      else holdTrigger .backhaulRestored s
    | .quiescent =>
      if s.mode.origin = some .island then
        if bit (cfgNat s 0x0101 3 0) 6 then wake 6 s
        else beginDrain (modMode (fun m => { m with origin := some .activeN, backhaulLost := false }) s)
      else if s.mode.origin = some .activeN then beginDrain (modMode (fun m => { m with backhaulLost := false }) s)
      else s
    | .activeC => setBackhaulDown false s
    | .standbyC => setBackhaulDown false s
    | .off => s | .boot => s | .selftest => s | .config => s | .standbyN => s | .service => s | .dump => s

/-- BACKHAUL_LOST (R41) -/
def execBackhaulLost (dt : Nat) : State → Host.Outcome State Fault Refusal := event dt backhaulLost

/-- BACKHAUL_RESTORED (R41) -/
def execBackhaulRestored (dt : Nat) : State → Host.Outcome State Fault Refusal := event dt backhaulRestored

/-- QUIESCENT has stopped this port, which keeps its state for R41 (R44, R45). -/
def portStopped (s : State) (p : Nat) : Bool := decide (s.mode.mode = .quiescent) && (stoppedPorts s).contains p

/-- PROBE_LAPSE: with PROBE_REQUIRED, no report for the port within the last second (R41). -/
def execProbeLapse (dt port : Nat) : State → Host.Outcome State Fault Refusal :=
  event dt (fun s => if cfgBit s 0x0100 3 && !probeFresh s port && !portStopped s port then noteBackhaul port (swPort s port).linkUp s else s)

/-- A port is reported reachable (R41). -/
def reportPort (s : State) (p : Nat) : State :=
  let s := modMode (fun m => { m with reportAt := Sparse.set (fun _ => 0) m.reportAt p (s.now + 1) }) s
  if portStopped s p then s else noteBackhaul p (swPort s p).linkUp s

/-- SYS_BACKHAUL_REPORT (R41, Table 18.6). -/
def backhaulReport (c : Cmd) (s : State) : Answer := .ok [] ((bitList 0x42 (fld c.req 0 16)).foldl reportPort s)

/-- SYS_BACKHAUL_REPORT -/
def execSysBackhaulReport (e : Entry) : State → Host.Outcome State Fault Refusal := mailbox (opAll 0x0107 16) backhaulReport e

/-! ### Wake from QUIESCENT (R46, R47) -/

/-- The condition of a wake source holds, as far as the state shows it (Table 2.9). -/
def wakeHolds (s : State) (source : Nat) : Bool :=
  match source with
  | 1 => decide (cfgNat s 0x0101 4 0 ≠ 0)
  | 3 => decide (cfgNat s 0x0101 2 0 < meshLoad 1 s)
  | 4 => decide (1000 < waitingNodes s)
  | 5 => decide (s.time.arcWakeSel ≠ 0)
  | 6 => decide (s.mode.origin = some .island) && restoreDeclared s
  | n => decide (n < 8)

/-- QUIESCENT_WAKE: a wake source occurs (R47). -/
def execQuiescentWake (dt source : Nat) : State → Host.Outcome State Fault Refusal :=
  event dt (fun s => if wakeHolds s source then wake source s else s)

/-! ### SYS_MODE_SET (R32, R33, R432) -/

/-- A life-cycle state permits a mode (Table 2.4). -/
def permits (l : LifeCycle) (m : Mode) : Bool :=
  match m with
  | .activeN => [LifeCycle.manufacture, .provisioned, .deployed].contains l
  | .standbyN => [LifeCycle.provisioned, .deployed].contains l
  | .activeC => [LifeCycle.provisioned, .deployed].contains l
  | .standbyC => [LifeCycle.provisioned, .deployed].contains l
  | .island => [LifeCycle.provisioned, .deployed].contains l
  | .quiescent => [LifeCycle.provisioned, .deployed].contains l
  | .service => decide (l ≠ .decommissioned)
  | .off => true | .boot => true | .selftest => true | .config => true | .dump => true

/-- The row of Table 2.5 that SYS_MODE_SET may request. -/
def rowOf (s : State) (target : Mode) : Option Nat :=
  match s.mode.mode, target with
  | .config, .activeN => some 6
  | .config, .standbyN => some 6
  | .config, .activeC => some 6
  | .config, .standbyC => some 6
  | .activeN, .config => some 7
  | .standbyN, .config => some 7
  | .activeC, .config => some 7
  | .standbyC, .config => some 7
  | .island, .config => some 7
  | .standbyN, .activeN => some 8
  | .activeN, .standbyN => some 9
  | .standbyC, .activeC => some 10
  | .activeC, .standbyC => some 10
  | .activeN, .quiescent => some 14
  | .island, .quiescent => some 14
  | .config, .service => some 16
  | .activeN, .service => some 16
  | .standbyN, .service => some 16
  | .activeC, .service => some 16
  | .standbyC, .service => some 16
  | .island, .service => some 16
  | .service, m => if s.mode.origin = some m then some 17 else none
  | _, _ => none

/-- A commit is in progress: one that waits for a merge, a merge, or a BLOCK_COMMIT (R26, R330). -/
def commitBusy (s : State) : Bool :=
  !s.sw.commitWait.isEmpty || s.sw.shadow || s.time.mer.commit.busy
    || (List.range 8).any (fun n => (toutOf s n).commit.busy) || (List.range 8).any (fun n => (tinOf s n).commit.busy)
    || (List.range 32).any (fun n => (arcOf s n).commit.busy)

/-- The active twin consents to a handover, or with FORCE the lease has expired (Table 16.6, precondition 5). -/
def consents (s : State) (force : Bool) : Bool :=
  if force then leaseExpired s else servingCode (twinMember s).mode && !(twinLinks s).isEmpty

/-- The preconditions of a row, in order (Table 2.5, Table 16.6). -/
def preconditions (s : State) (row : Nat) (target : Mode) (force : Bool) : List Bool :=
  let life := permits s.mode.lifecycle target
  let takes := [precondition s 1, force || precondition s 2, precondition s 3, force || precondition s 4, consents s force, precondition s 6]
  match row with
  | 6 => [life, !s.mode.selftestFail, s.cfg.partitionLive, !oneOf [.activeC, .standbyC] target || s.compat.inForce]
  | 8 => takes
  | 9 => [standbyMeets s]
  | 10 => if target = .activeC then takes else [standbyMeets s]
  | 14 => [life, decide (meshLoad 60 s < 60 * cfgNat s 0x0101 2 0), s.sw.flushes.isEmpty && !commitBusy s]
  | 16 => [life, !commitBusy s]
  | _ => []

/-- The number of the first precondition that fails, from 1. -/
def firstFalse : Nat → List Bool → Option Nat
  | _, [] => none
  | n, b :: r => if b then firstFalse (n + 1) r else some n

/-- A requested transition begins. One between twins is a handover, or with FORCE a takeover (R433, R435); one into
an active mode waits for the twin under R424. -/
def beginRow (row : Nat) (target : Mode) (force : Bool) (c : Cmd) (s : State) : State :=
  if row = 8 ∨ row = 9 ∨ row = 10 then
    if force then takeOver 0x01 (some c) s
    else beginHandover (activeTwin s) 0x01 (startTransition row target 0x01 none (some c) s)
  else
    let s := startTransition row target 0x01 none (some c) s
    if row = 6 ∧ oneOf [.activeN, .activeC] target ∧ twinEnabled s then modTwin (fun t => { t with startupAt := some s.now }) s else s

/-- SYS_MODE_SET (R32, R33, R35). -/
def modeSet (c : Cmd) (s : State) : Answer :=
  let force := bit (byteAt c.req 1) 0
  match modeOfCode (byteAt c.req 0) with
  | none => if byteAt c.req 0 = 0 then .fail .modeRefused 0 s else .bad 0 s
  | some target =>
    if s.mode.trans.isSome then .fail .busy 0 s
    else
      let row := rowOf s target
      if force && !(row == some 8 || (row == some 10 && decide (target = .activeC))) then .bad 1 s
      else match row with
        | none => .fail .modeRefused 0 s
        | some r =>
          match firstFalse 1 (preconditions s r target force) with
          | some n => .fail .modeRefused n s
          | none => .wait (beginRow r target force c s)

/-- SYS_MODE_SET -/
def execSysModeSet (e : Entry) : State → Host.Outcome State Fault Refusal := mailbox (opAll 0x0103 8) modeSet e

/-! ### Leaving a mode -/

/-- The modes of a class D opcode (Table 18.1). -/
def jobModes (op : Nat) (s : State) : Bool :=
  match op with
  | 0x0805 => standby s
  | 0x0A03 => modesSB s []
  | 0x0902 => modesCfg s []
  | 0x0903 => modesDriveAdd s []
  | 0x050A => modesCS s []
  | 0x0512 => modesIq s []
  | 0x010D => modesCS s []
  | 0x010E => modesSvc s []
  | _ => true

/-- A job ends with MODE_PREEMPTED; a capture that it armed is given up (R474). -/
def preemptJob (trigger : Nat) (s : State) (j : Job) : State :=
  let s := if s.chord.twin.job = some j.handle then modTwin (fun t => { t with job := none }) s else s
  let s := if s.radio.capture.any (fun c => c.job == j.handle && decide (c.phase < 2)) then modRadio (fun r => { r with capture := none }) s else s
  finishJob j .modePreempted trigger [] s

/-- Jobs whose opcode the mode does not accept end (R474). -/
def preemptJobs (trigger : Nat) (s : State) : State :=
  (s.jobs.running.filter (fun j => !jobModes j.opcode s)).foldl (preemptJob trigger) s

/-- The staged copies that the mode does not accept are discarded and reported (R24). -/
def discardUnaccepted (s : State) : State :=
  ((s.cfg.owner.map (·.1)).filter (fun g => !stageable s g)).foldl (fun s g => discardReported g 1 s) s

/-- Items of a crossing with an instance for each key are counted as flushed. -/
def countFlushed {α : Type} (x : Nat) (l : Sparse (List α)) (s : State) : State :=
  l.foldl (fun s p => latticeAdd (x, p.1) 1 p.2.length s) s

/-- Every crossing is flushed (R18 to R20, R39): partial items are rewound, and what waits is discarded and counted.
Frames in flight are not acknowledged. -/
def flushCrossings (s : State) : State :=
  let s := (s.sw.ingress.map (·.1)).foldl (fun s p => (flushIngress p s).1) s
  let s := (s.sw.egress.map (·.1)).foldl (fun s p => (flushEgress p s).1) s
  let s := countFlushed 4 s.mesh.rxQueue s
  let s := countFlushed 5 s.radio.x05 s
  let s := countFlushed 11 s.radio.x11 s
  let s := latticeAdd (8, 0) 1 s.store.journal.x08.length s
  let s := modRadio (fun r => { r with lanes := [], x05 := [], x11 := [] }) s
  let s := modMesh (fun m => { m with rxQueue := [], joinQueue := [], waiters := [], due := [], sent := [] }) s
  let s := modStore (fun t => { t with ddq := t.ddq.map (fun p => (p.1, { p.2 with prefetch := none, late := false })) }) s
  let s := modSw (fun w => { w with slow := [], learnQ := [] }) s
  modJournal (fun j => { j with x08 := [] }) s

/-- What is done in the mode that is left, for a datapath that changes from `a` to `b` (R39, R96, R107, R219, R248). -/
def leaveMode (a b : Mode) (s : State) : State :=
  if a = b then s
  else
    let tx := servingMode a
    let s := if tx && !servingMode b then muteRadio s else s
    let s := if tx then dutySave true s else s
    if b = .config then
      let s := if tx then flushCrossings s else s
      let s := if tx then startCheckpoint true s else s
      let s := modTwin (fun t => { t with synced := false, resync := none, handover := none, startupAt := none }) (dropLease s)
      if journalRuns s then closeBlock (journalMark 1 Mode.config.code s) else s
    else s

/-! ### Entering a mode -/

/-- Entry to QUIESCENT: the overlay map, then the ports that stop (R45). -/
def enterQuiescent (s : State) : State :=
  let old := s
  let s := movePartitions old { s with cfg := { s.cfg with overlay := true } }
  (stoppedPorts s).foldl (fun s p => stopPort p s) s

/-- Wake: in the reverse order, windows, ports, and the committed map (R45, R47); Prisms are ungated with the map (R519). -/
def wakeUp (s : State) : State :=
  let s := (List.range 8).foldl (fun s k => modSector k (fun x => { x with window := none }) s) s
  let s := (stoppedPorts s).foldl (fun s p => resumePort p s) s
  let old := s
  movePartitions old { s with cfg := { s.cfg with overlay := false } }

/-- The mode that ORIGIN_VALID shows after a transition (Table 2.2, R44). -/
def originAfter (t : Transition) : Option Mode :=
  match t.toMode with
  | .island => some .activeN
  | .quiescent => some t.fromMode
  | .service => some t.fromMode
  | .off => none | .boot => none | .selftest => none | .config => none | .activeN => none | .standbyN => none | .activeC => none
  | .standbyC => none | .dump => none

/-- A standby begins a bulk resynchronization, but for one that has handed the lease over (R427, R435). -/
def enterStandby (t : Transition) (s : State) : State := if t.row = 6 then beginResync none s else s

/-- What is done in the mode that is entered, before MODE_CHANGED (R38, R43, R45, R107, R498). -/
def enterMode (a b : Mode) (t : Transition) (s : State) : State :=
  let s := if t.toMode = .quiescent then enterQuiescent s else if t.row = 15 then wakeUp s else s
  let s := if oneOf [.activeC, .standbyC] t.toMode then commitFixed s else s
  if a = b then s
  else
    let s := if servingMode b then dutySave false s else s
    let s := if b = .island then pauseDrain s else s
    let s := if a = .island ∧ b = .activeN then beginDrain (modMode (fun m => { m with backhaulLost := false }) s) else s
    let s := if oneOf [.standbyN, .standbyC] b then enterStandby t s else s
    let s := if t.row = 8 ∨ t.row = 9 ∨ t.row = 10 then modTwin (fun w => { w with handover := none }) s else s
    let s := if oneOf [.activeC, .standbyC] b then s else setBackhaulDown false s
    if b = .config then s else journalMark 1 b.code s

/-! ### Completion (R33, R35) -/

/-- The triggers held during the transition are evaluated against the new mode (R35). -/
def evaluateHeld (s : State) : State :=
  let l := s.mode.held
  let s := modMode (fun m => { m with held := [] }) s
  l.foldl (fun s h => match h with | .wake n => wake n s | .backhaulLost => backhaulLost s | .backhaulRestored => backhaulRestored s) s

/-- A transition completes: MODE changes, staged copies and jobs that the mode does not accept end, MODE_CHANGED is
raised, and the command that waits completes (R24, R30, R33, R474). -/
def completeTransition (t : Transition) (s : State) : State :=
  let a := datapath s
  let b := if t.toMode = .service then a else t.toMode
  let s := leaveMode a b s
  let origin := originAfter t
  let s := modMode (fun m =>
    { m with mode := t.toMode, trans := none, enteredAt := s.now, origin, dumpIncomplete := if m.mode = .config then false else m.dumpIncomplete }) s
  let s := enterMode a b t s
  let s := preemptJobs t.trigger (discardUnaccepted s)
  let s := { s with host := { s.host with serving := true } }
  let s := raiseModeChanged t.fromMode.code t.toMode.code t.trigger t.wake s
  let s := if t.toMode = .config then enterConfig { s with mode := { s.mode with failedResets := 0 } } else s
  let s := match t.cmd with
    | some c => complete c .ok 0 [] s
    | none => s
  evaluateHeld s

/-- A transition between twins that a handover decides: not before HANDOFF has been sent or taken (R435). -/
def handoverWaits (t : Transition) (s : State) : Bool :=
  (t.row == 8 || t.row == 9 || t.row == 10) && t.trigger != 0x07
    && match s.chord.twin.handover with
       | some h => !h.done
       | none => decide (s.chord.twin.held ≠ servingMode t.toMode)

/-- The transition may complete: it waits neither for the twin nor for HANDOFF, and is not the migration. -/
def ripe (t : Transition) (s : State) : Bool := t.row != 11 && s.chord.twin.startupAt.isNone && !handoverWaits t s

/-- The limit has passed (R34): that of the row; 2 ms from the trigger of a takeover,
from H of a handover (R432), and from B of the migration (R509). -/
def overdue (t : Transition) (s : State) : Bool :=
  match t.limit with
  | some l => decide (l < since s t.since)
  | none =>
    match s.compat.migrating, s.chord.twin.handover with
    | some (_, b), _ => decide (slotStart s b + 2000 * usUnits < meshTime s)
    | none, some h => decide (slotStart s h.slot + 2000 * usUnits < meshTime s)
    | none, none => t.trigger == 0x07 && decide (2 * msTicks < since s t.since)

/-- MODE_TRANSITION_COMPLETE (R33) -/
def execModeTransitionComplete (dt : Nat) : State → Host.Outcome State Fault Refusal :=
  event dt (fun s =>
    match s.mode.trans with
    | some t => if ripe t s && !overdue t s then completeTransition t s else s
    | none => s)

/-- The Apex restart of R49 has passed its 300 ms (Table 2.5, transition 17). -/
def restartOverdue (s : State) : Bool := s.fw.restart.any (fun r => decide (300 * msTicks < since s r.2))

/-- MODE_TIMEOUT: a transition that misses its limit is a fatal error (R34, Table 17.8). -/
def execModeTimeout (dt : Nat) : State → Host.Outcome State Fault Refusal :=
  event dt (fun s => if s.mode.trans.any (fun t => overdue t s) || restartOverdue s then fatal 3 noLocus.toNat s else s)

end Sys2Proof.Machine
end

