-- ==== Sys2Proof/Machine/System.lean ====
section
/-!
DEFINITION. The commands of family 0x01 that no other file holds (Table 18.6): identity, status, life cycle, routes,
jobs, firmware (R476, R49), the compatibility profile and the migration (R508, R509); the merge of shadow banks (R330).
-/
namespace Sys2Proof.Machine

/-! ### Identity and status -/

/-- The reply of SYS_IDENTIFY (R2, Table 18.6). -/
def identifyBytes (s : State) : List Byte :=
  leBytes 2 0x9640 ++ leBytes 1 s.fuses.stepping.toNat ++ leBytes 1 s.fuses.variant.toNat ++ leBytes 4 s.fw.runVersion.toNat
    ++ leBytes 2 s.fw.runCompat.toNat ++ leBytes 1 s.mode.lifecycle.code ++ leBytes 1 s.mode.mode.code ++ leBytes 8 s.fuses.deviceUid.toNat ++ zeros 12

/-- SYS_IDENTIFY -/
def execSysIdentify (e : Entry) : State → Host.Outcome State Fault Refusal := mailbox (opRead 0x0101 0) (fun _ s => .ok (identifyBytes s) s) e

/-- The reply of SYS_STATUS (Table 18.6). -/
def sysStatusBytes (s : State) : List Byte :=
  leBytes 4 (modeStatus s) ++ leBytes 4 s.cfg.epoch.toNat ++ leBytes 6 (nowSec s) ++ leBytes 4 (nowNanos s) ++ leBytes 1 s.store.array.mode.code
    ++ leBytes 1 (twinRole s) ++ leBytes 1 (b2n (healthy s) + 2 * b2n s.chord.twin.synced + 4 * b2n (holdover s.time.mer) + 8 * b2n s.time.mer.timeUnset)
    ++ leBytes 1 s.jobs.running.length ++ zeros 10

/-- SYS_STATUS -/
def execSysStatus (e : Entry) : State → Host.Outcome State Fault Refusal := mailbox (opRead 0x0102 0) (fun _ s => .ok (sysStatusBytes s) s) e

/-! ### Life cycle (R31, R388 to R392) -/

/-- The forward arrows of the life cycle, with the authorities that Table 15.4 permits: 1 MFG, 2 OWNER. -/
def arrow (a b : LifeCycle) : Option (List Nat) :=
  match a, b with
  | .manufacture, .provisioned => some [2]
  | .provisioned, .deployed => some [2]
  | .deployed, .returned => some [2]
  | .provisioned, .decommissioned => some [2]
  | .deployed, .decommissioned => some [2]
  | .returned, .decommissioned => some [1, 2]
  | _, _ => none

/-- SYS_LIFECYCLE_SET: the state is written, the reply sent, keys destroyed, the regulatory record locked on leaving
PROVISIONED, and the chip resets (R31). -/
def lifecycleSet (c : Cmd) (s : State) : Answer :=
  match lifeOfCode (byteAt c.req 0) with
  | none => .bad 0 s
  | some target =>
    match arrow s.mode.lifecycle target with
    | none => .fail .modeRefused 0 s
    | some l =>
      match checkToken c.opcode l c.req s with
      | (false, s) => .fail .authFail 0 s
      | (true, s) =>
        let old := s.mode.lifecycle
        let s := complete c .ok 0 [] (modMode (fun m => { m with lifecycle := target }) s)
        let s := destroyFor target s
        let s := if old = .provisioned then modRadio (fun r => { r with regLocked := true }) s else s
        .wait (assertReset .lifecycle s)

/-- SYS_LIFECYCLE_SET -/
def execSysLifecycleSet (e : Entry) : State → Host.Outcome State Fault Refusal :=
  mailbox { code := 0x0104, modes := modesCS, len := lenIs 288, read := false } lifecycleSet e

/-! ### Mode parameters, routes and jobs -/

/-- The groups of SYS_MODE_PARAM_SET. -/
def isModeGroup (g : Nat) : Bool := g == 0x0100 || g == 0x0101

/-- SYS_MODE_PARAM_SET (R40, R46) -/
def execSysModeParamSet (e : Entry) : State → Host.Outcome State Fault Refusal := mailbox (opGset 0x0105) (gset isModeGroup) e

/-- SYS_MODE_PARAM_GET (R40, R46) -/
def execSysModeParamGet (e : Entry) : State → Host.Outcome State Fault Refusal := mailbox (opGget 0x0106) (gget isModeGroup noData) e

/-- SYS_EVENT_ROUTE (R70, Table 18.6). -/
def eventRoute (c : Cmd) (s : State) : Answer :=
  let code := fld c.req 0 2
  let ring := byteAt c.req 2
  let codes := if code = 0xFFFF then eventCodes else [code]
  if !codes.all eventCodes.contains then .fail .notFound 0 s
  else if 3 < ring then .bad 2 s
  else .ok [] { s with host := { s.host with routes := codes.foldl (fun l k => Sparse.set (fun _ => 0) l k ring) s.host.routes } }

/-- SYS_EVENT_ROUTE -/
def execSysEventRoute (e : Entry) : State → Host.Outcome State Fault Refusal := mailbox (opAll 0x010A 8) eventRoute e

/-- SYS_JOB_STATUS (R474). -/
def jobStatus (c : Cmd) (s : State) : Answer :=
  match (s.jobs.running ++ s.jobs.completed).find? (fun j => decide (j.handle = fld c.req 0 4)) with
  | some j => .ok (jobBytes j) s
  | none => .fail .notFound 0 s

/-- SYS_JOB_STATUS -/
def execSysJobStatus (e : Entry) : State → Host.Outcome State Fault Refusal := mailbox (opRead 0x010B 4) jobStatus e

/-! ### Firmware (R476, R49) -/

def modFw (f : FwState → FwState) (s : State) : State := { s with fw := f s.fw }

/-- The bytes that a set of the BOOT region holds at most. -/
def fwSetBytes : Nat := 8388608

/-- SYS_FW_STAGE (R476). -/
def fwStage (c : Cmd) (s : State) : Answer :=
  let off := fld c.req 0 4
  let first := bit (byteAt c.req 4) 0
  let last := bit (byteAt c.req 4) 1
  let data := c.req.drop 8
  let t := if first then { FwSet.none with state := .loading } else s.fw.staged
  if !arrayUp s then .fail .noResource 0 s
  else if off ≠ t.bytes.length ∨ t.state ≠ .loading then .bad 0 s
  else if fwSetBytes < off + data.length then .fail .noResource 0 s
  else
    let t : FwSet := { t with bytes := t.bytes ++ data, state := if last then .loaded else .loading }
    .ok [] (modFw (fun f => { f with staged := t }) (writeStripe (regionStripe 0 (2 * fwSetBytes + off)) none s))

/-- The length of SYS_FW_STAGE: the header, then up to 16,376 bytes. -/
def fwStageLen (r : List Byte) : Bool := decide (8 ≤ r.length) && decide (r.length ≤ 16384)

/-- SYS_FW_STAGE -/
def execSysFwStage (e : Entry) : State → Host.Outcome State Fault Refusal :=
  mailbox { code := 0x010C, modes := modesCS, len := fwStageLen, read := false } fwStage e

/-- A whole set is staged. -/
def stagedWhole (s : State) : Bool := s.fw.staged.state == .loaded || s.fw.staged.state == .verified

/-- SYS_FW_VERIFY is a job (R476). -/
def fwVerify (c : Cmd) (s : State) : Answer := if stagedWhole s then startJob c s else .fail .notFound 0 s

/-- SYS_FW_VERIFY -/
def execSysFwVerify (e : Entry) : State → Host.Outcome State Fault Refusal :=
  mailbox { code := 0x010D, modes := modesCS, len := lenIs 0, read := false } fwVerify e

/-- The signature of a set verifies under an IMG entry that is set and not revoked (R387). -/
def imgUsable (s : State) (img : Option Nat) : Bool :=
  match img with
  | some k => decide (k < 4) && bit (usableImages s s.keys.revoked) k
  | none => false

/-- FW_VERIFY_DONE: `img` is the IMG entry under which the staged set's signature verifies, and the rest what the set says (log 4). -/
def fwVerifyDone (img : Option Nat) (version : W32) (compat : W16) (apex facet : Bool) (s : State) : State :=
  match runningJob s 0x010D with
  | some j =>
    if !stagedWhole s then finishJob j .notFound 0 [] s
    else if imgUsable s img then
      finishJob j .ok 0 (leBytes 4 version.toNat ++ leBytes 2 compat.toNat ++ leBytes 1 (b2n apex + 2 * b2n facet))
        (modFw (fun f => { f with staged := { f.staged with version, compat, apex, facet, state := .verified } }) s)
    else finishJob j .authFail 0 [] (modFw (fun f => { f with staged := { f.staged with state := .loaded } }) s)
  | none => s

/-- FW_VERIFY_DONE -/
def execFwVerifyDone (dt : Nat) (img : Option Nat) (version : W32) (compat : W16) (apex facet : Bool) : State → Host.Outcome State Fault Refusal :=
  event dt (fwVerifyDone img version compat apex facet)

/-- The set named becomes the one in force, and the former one previous. -/
def activateSet (previous : Bool) (f : FwState) : FwState :=
  if previous then { f with inForce := f.previous, previous := f.inForce }
  else { f with inForce := f.staged, previous := f.inForce, staged := FwSet.none }

/-- The firmware of the set in force runs. -/
def runInForce (f : FwState) : FwState := { f with runVersion := f.inForce.version, runCompat := f.inForce.compat, restart := none }

/-- An activation ends: JOB_DONE, then transition 17 with trigger 0x0C (R476). -/
def activated (j : Job) (s : State) : State :=
  let s := finishJob j .ok 0 (leBytes 4 s.fw.runVersion.toNat) s
  if s.mode.mode = .service then startTransition 17 (s.mode.origin.getD .config) 0x0C none none s else s

/-- SYS_FW_ACTIVATE (R476, R49): 0 SOURCE, 1 KINDS. -/
def fwActivate (c : Cmd) (s : State) : Answer :=
  let src := byteAt c.req 0
  let apex := bit (byteAt c.req 1) 0
  let facet := bit (byteAt c.req 1) 1
  let x := if src = 1 then s.fw.previous else s.fw.staged
  if 1 < src then .bad 0 s
  else if !apex && !facet then .bad 1 s
  else if x.state ≠ .verified ∨ (apex && !x.apex) ∨ (facet && !x.facet) then .fail .notFound 0 s
  else if facet && servingMode (datapath s) then .fail .modeRefused 0 s
  else match startJob c s with
    | .wait s => .wait s
    | .done st d r t =>
      if st ≠ .accepted then .done st d r t
      else
        let t := complete c st d r (modFw (activateSet (src == 1)) t)
        if apex then .wait { modFw (fun f => { f with restart := some (leNat r, t.now) }) t with host := { t.host with serving := false } }
        else
          let t := modFw runInForce t
          match t.jobs.running.find? (fun j => j.handle == leNat r) with
          | some j => .wait (activated j t)
          | none => .wait t

/-- SYS_FW_ACTIVATE -/
def execSysFwActivate (e : Entry) : State → Host.Outcome State Fault Refusal :=
  mailbox { code := 0x010E, modes := modesSvc, len := lenIs 8, read := false } fwActivate e

/-- APEX_RESTART_COMPLETE: the Apex serves again, within 300 ms (R49, R73). -/
def apexRestarted (s : State) : State :=
  match s.fw.restart with
  | some (h, _) =>
    if restartOverdue s then s
    else
      let t := modFw runInForce s
      let t := { t with host := { t.host with serving := true } }
      match t.jobs.running.find? (fun j => j.handle == h) with
      | some j => activated j t
      | none => t
  | none => s

/-- APEX_RESTART_COMPLETE -/
def execApexRestartComplete (dt : Nat) : State → Host.Outcome State Fault Refusal := event dt apexRestarted

/-- State codes of SYS_FW_STATUS. -/
def FwSetState.code : FwSetState → Nat
  | .empty => 0 | .loading => 1 | .loaded => 2 | .verified => 3

/-- A set in SYS_FW_STATUS. -/
def FwSet.line (x : FwSet) : List Byte := leBytes 4 x.version.toNat ++ leBytes 2 x.compat.toNat ++ leBytes 1 x.state.code ++ zeros 1

/-- SYS_FW_STATUS (Table 18.6). -/
def execSysFwStatus (e : Entry) : State → Host.Outcome State Fault Refusal :=
  mailbox (opRead 0x010F 0) (fun _ s => .ok (s.fw.inForce.line ++ s.fw.previous.line ++ s.fw.staged.line ++ zeros 8) s) e

/-! ### Compatibility: the profile and the migration -/

/-- SYS_COMPAT_PROFILE_LOAD (R489) -/
def execSysCompatProfileLoad (e : Entry) : State → Host.Outcome State Fault Refusal :=
  mailbox { code := 0x0110, modes := modesCfg, len := lenIs 16, read := false } (fun c s => profileLoad (arrayUp s) c s) e

/-- SYS_COMPAT_MIGRATE (R508): transition 11 begins, to take effect at B. -/
def compatMigrate (c : Cmd) (s : State) : Answer :=
  if s.mode.trans.isSome then .fail .busy 0 s
  else match firstFalse 1 [feature s 6, !commitBusy s && (ownedGroups s 16).isEmpty, s.compat.inFlight.isNone] with
    | some n => .fail .modeRefused n s
    | none =>
      .wait (modCompat (fun x => { x with migrating := some (bit (byteAt c.req 0) 0, slotAfter 2000 s) }) (startTransition 11 .activeN 0x0B none (some c) s))

/-- SYS_COMPAT_MIGRATE -/
def execSysCompatMigrate (e : Entry) : State → Host.Outcome State Fault Refusal :=
  mailbox { code := 0x0111, modes := fun s _ => decide (s.mode.mode = .activeC), len := lenIs 8, read := false } compatMigrate e

/-- PERSIST_NATIVE removes the profile (R489, R509). -/
def dropProfile (s : State) : State :=
  let s := modCompat (fun x => { x with profile := false }) s
  if arrayUp s then modCompat (fun x => { x with saved := some (false, x.subsysVendor, x.subsysId) }) s else s

/-- MIGRATION_BOUNDARY: at B the chip enters ACTIVE_N, and the fixed values are lifted (R509). -/
def migrationBoundary (s : State) : State :=
  match s.compat.migrating, s.mode.trans with
  | some (persist, b), some t =>
    if t.row = 11 ∧ slotStart s b ≤ meshTime s ∧ !overdue t s then
      let s := modCompat (fun x => { x with migrating := none, migrated := true }) s
      completeTransition t (if persist then dropProfile s else s)
    else s
  | _, _ => s

/-- MIGRATION_BOUNDARY -/
def execMigrationBoundary (dt : Nat) : State → Host.Outcome State Fault Refusal := event dt migrationBoundary

/-! ### Unlisted opcodes (R467) -/

/-- An opcode that a table of the chapter "Command reference" lists. -/
def listedOpcode (c : Nat) : Bool :=
  [(0x0101, 0x0111), (0x0201, 0x0214), (0x0301, 0x030C), (0x0310, 0x031D), (0x0401, 0x040C), (0x0410, 0x041C), (0x0420, 0x0421),
   (0x0501, 0x0506), (0x0508, 0x0513), (0x0601, 0x0611), (0x0701, 0x0706), (0x0801, 0x0807), (0x0901, 0x0908), (0x0910, 0x0915),
   (0x0920, 0x0921), (0x0930, 0x0930), (0x0A01, 0x0A0E)].any (fun r => decide (r.1 ≤ c) && decide (c ≤ r.2))

/-- A new command of an unlisted opcode: BAD_OPCODE, after the entry's own checks (R59, R63, R467). -/
def runUnlisted (code : Nat) (e : Entry) (s : State) : State :=
  let c := cmdOf code e
  let s := modQueue e.queue (fun x => { x with seqNext := x.seqNext + 1 }) s
  match entryFault e with
  | some (st, d) => complete c st d [] s
  | none => if readFailed e then complete c .dmaError 0x01 [] s else complete c .badOpcode 0 [] s

/-- UNLISTED_OPCODE: an entry whose opcode no table lists (R467). -/
def execUnlistedOpcode (opcode : W16) (e : Entry) : State → Host.Outcome State Fault Refusal :=
  occur 0 (fun s => if listedOpcode opcode.toNat then s else takeEntry opcode.toNat e (runUnlisted opcode.toNat e) s)

end Sys2Proof.Machine
end

