-- ==== Sys2Proof/Machine/Ur.lean ====
section
/-!
DEFINITION. The UR-340 command set 4.2 (R492 to R502, R507, Tables 19.6 to 19.8), and the merge of shadow banks
with the commits that wait for it (R330). The widths of parameters and replies are in log 54.
-/
namespace Sys2Proof.Machine

/-! ### Common parts -/

/-- A UR command of `n` parameter bytes. In DECOMMISSIONED only identity and status are answered (R32). -/
def urOp (code n : Nat) (afterMigration : Bool) (h : Cmd → State → Answer) (u : UrEntry) (s : State) : Host.Outcome State Fault Refusal :=
  urCommand code n afterMigration (fun c s => if s.mode.lifecycle = .decommissioned ∧ 2 < code then .fail .modeRefused 0 s else h c s) u s

/-- The chip is in a compatibility mode. -/
def urMode (s : State) : Bool := oneOf [.activeC, .standbyC] (datapath s)

/-- Stage fields and commit their groups in one step under owner 0x10 (R496); a refused commit leaves nothing staged.
A commit that must wait for a merge waits (R330). -/
def urCommit (fields : List (Nat × Nat × Nat × Int)) (reply : List Byte) (c : Cmd) (s : State) : Answer :=
  let names := (fields.map (·.1)).eraseDups
  if names.any (fun g => (lockedBy s 16 g).isSome) then .fail .busy 0 s
  else if decide (s.mode.mode = .service) && names.any epochBearing then .fail .modeRefused 0 s
  else if !s.sw.commitWait.isEmpty || (s.sw.shadow && names.any forwardingGroup) then
    .wait (modSw (fun w => { w with commitWait := w.commitWait ++ [c] }) s)
  else
    match commitGroups names none false (fields.foldl (fun s p => stageField 16 p.1 p.2.1 p.2.2.1 p.2.2.2 s) s) with
    | .done st d _ t => if st = .ok then .ok reply t else .fail st d (names.foldl (fun s g => discardGroup g s) t)
    | .wait t => .wait t

/-- A native command with its own request, answered to the UR ring. -/
def native (h : Cmd → State → Answer) (req : List Byte) (c : Cmd) (s : State) : Answer := h { c with req } s

/-! ### Identity, status, state -/

/-- UR_GET_VERSION -/
def execUrGetVersion (u : UrEntry) : State → Host.Outcome State Fault Refusal :=
  urOp 0x01 0 true (fun _ s => .ok (leBytes 4 (urReg s 0) ++ leBytes 4 (urReg s 4) ++ leBytes 4 s.fw.runVersion.toNat) s) u

/-- The link map of E0 to E7. -/
def urLinks (s : State) : Nat := bitMap ((List.range 8).filter (fun p => (swPort s p).linkUp))

/-- UR_GET_STATUS -/
def execUrGetStatus (u : UrEntry) : State → Host.Outcome State Fault Refusal :=
  urOp 0x02 0 true (fun _ s => .ok (leBytes 4 (urStatus s) ++ leBytes 4 (urReg s 0x64) ++ leBytes 4 (urTime s) ++ leBytes 1 (urLinks s)) s) u

/-- The mode that a UR state names (Table 19.6). -/
def urTarget (st : Nat) : Option Mode := match st with | 0 => some .config | 1 => some .activeC | 2 => some .standbyC | _ => none

/-- UR_SET_STATE: the current state is answered at once (Table 19.9, quirk 12). -/
def urSetState (c : Cmd) (s : State) : Answer :=
  match urTarget (byteAt c.req 0) with
  | none => .bad 0 s
  | some m => if s.mode.mode = m then .ok [] s else native modeSet (leBytes 1 m.code ++ zeros 7) c s

/-- UR_SET_STATE -/
def execUrSetState (u : UrEntry) : State → Host.Outcome State Fault Refusal := urOp 0x03 1 false urSetState u

/-- A table's counters 0 to n-1 of an instance are cleared. -/
def clearCtr (t : CtrTable) (inst n : Nat) (s : State) : State := (List.range n).foldl (fun s i => ctrSet t inst i 0 s) s

/-- UR_CLEAR_STATS: the counters of R280 for E0 to E7, and of R200, R224 and R108. -/
def clearStats (s : State) : State :=
  let s := (List.range 8).foldl (fun s p => clearCtr .port p 45 (accruePause p s)) s
  (List.range 8).foldl (fun s k => clearCtr .tx k 15 s) (clearCtr .sec 0 15 (clearCtr .mac 0 21 s))

/-- UR_CLEAR_STATS -/
def execUrClearStats (u : UrEntry) : State → Host.Outcome State Fault Refusal := urOp 0x04 0 false (fun _ s => .ok [] (clearStats s)) u

/-! ### Ports -/

/-- UR_PORT_SET: 0 port, 1 ENABLE, 2-3 PVID, 4 TAGGED, 5 UPLINK. In a compatibility mode BACKHAUL_PORTS follows (Table 19.8). -/
def urPortSet (c : Cmd) (s : State) : Answer :=
  let p := byteAt c.req 0
  let up := byteAt c.req 5
  if 7 < p then .bad 0 s
  else if 1 < byteAt c.req 1 then .bad 1 s
  else if 1 < byteAt c.req 4 then .bad 4 s
  else if 1 < up then .bad 5 s
  else
    let g := 0x0200 + p
    let mask : Byte := BitVec.ofNat 8 (2 ^ p)
    let links := if up = 1 then s.compat.uplink ||| mask else s.compat.uplink &&& ~~~mask
    let port : List (Nat × Nat × Nat × Int) :=
      [(g, 1, 0, (byteAt c.req 1 : Nat)), (g, 8, 0, (fld c.req 2 2 : Nat)), (g, 10, 0, (1 - byteAt c.req 4 : Nat))]
    let back : List (Nat × Nat × Nat × Int) := if urMode s && cfgNat s 0x0100 2 0 != links.toNat then [(0x0100, 2, 0, (links.toNat : Nat))] else []
    match urCommit (port ++ back) [] c s with
    | .done st d r t => .done st d r (if st = .ok then modCompat (fun x => { x with uplink := links }) t else t)
    | .wait t => .wait t

/-- UR_PORT_SET -/
def execUrPortSet (u : UrEntry) : State → Host.Outcome State Fault Refusal := urOp 0x10 6 false urPortSet u

/-- UR_PORT_GET -/
def urPortGet (c : Cmd) (s : State) : Answer :=
  let p := byteAt c.req 0
  if 7 < p then .bad 0 s
  else
    .ok (leBytes 1 (b2n (portCfg s p 1 != 0)) ++ leBytes 2 (portCfg s p 8) ++ leBytes 1 (b2n (portCfg s p 10 == 0)) ++ leBytes 1 (b2n (bit s.compat.uplink.toNat p))
      ++ leBytes 1 (b2n (swPort s p).linkUp)) s

/-- UR_PORT_GET -/
def execUrPortGet (u : UrEntry) : State → Host.Outcome State Fault Refusal := urOp 0x11 1 false urPortGet u

/-- The counters of UR_PORT_STATS, by their place in Table 10.6, in the order of Table 19.6. -/
def urStats : List (List Nat) := [[1], [0], [5], [10, 11], [25], [24], [41], [42]]

/-- UR_PORT_STATS: the low halves, read and cleared (Table 19.9, quirk 6). -/
def urPortStats (c : Cmd) (s : State) : Answer :=
  let p := byteAt c.req 0
  if 7 < p then .bad 0 s
  else
    .ok ((urStats.map (fun l => leBytes 4 ((l.map (ctrGet s .port p)).sum % 2 ^ 32))).flatten)
      (urStats.flatten.foldl (fun s i => ctrSet .port p i 0 s) s)

/-- UR_PORT_STATS -/
def execUrPortStats (u : UrEntry) : State → Host.Outcome State Fault Refusal := urOp 0x12 1 false urPortStats u

/-! ### The L2 table -/

/-- UR_L2_ADD: 0-5 MAC, 6-7 VID, 8 port; FULL with 8,192 valid entries (R500). -/
def urL2Add (c : Cmd) (s : State) : Answer :=
  let vid := fld c.req 6 2
  let p := byteAt c.req 8
  if vid < 1 ∨ 4094 < vid then .bad 6 s
  else if 7 < p then .bad 8 s
  else if 8192 ≤ s.sw.l2.length then .fail .noResource 0 s
  else
    let word := fld c.req 0 6 + at' 48 vid + at' 60 p + at' 67 1 + at' 91 1
    urCommit [(0x0703, 1, 0, (1 + 4 * word : Nat))] [] c s

/-- UR_L2_ADD -/
def execUrL2Add (u : UrEntry) : State → Host.Outcome State Fault Refusal := urOp 0x20 9 false urL2Add u

/-- UR_L2_DEL: 0-5 MAC, 6-7 VID. -/
def urL2Del (c : Cmd) (s : State) : Answer :=
  match l2Find s (fld c.req 6 2) (fld c.req 0 6) with
  | some _ => urCommit [(0x0703, 1, 0, (2 + 4 * keyWord 3 (fld c.req 6 2, fld c.req 0 6) : Nat))] [] c s
  | none => .fail .notFound 0 s

/-- UR_L2_DEL -/
def execUrL2Del (u : UrEntry) : State → Host.Outcome State Fault Refusal := urOp 0x21 8 false urL2Del u

/-- UR_L2_FLUSH: 0 port, 0xFF any; 1-2 VID, 0 any (R317). -/
def urL2Flush (c : Cmd) (s : State) : Answer :=
  let p := byteAt c.req 0
  if 7 < p ∧ p ≠ 0xFF then .bad 0 s else native fwdL2Flush (leBytes 2 (if p = 0xFF then 0xFFFF else p) ++ leBytes 2 (fld c.req 1 2)) c s

/-- UR_L2_FLUSH -/
def execUrL2Flush (u : UrEntry) : State → Host.Outcome State Fault Refusal := urOp 0x22 3 false urL2Flush u

/-- UR_L2_AGE: in 2 s units; 0 turns ageing off. -/
def urL2Age (c : Cmd) (s : State) : Answer :=
  let v := fld c.req 0 2
  if 16383 < v then .bad 0 s
  else if v = 0 then urCommit [(0x0700, 4, 0, 0)] [] c s
  else urCommit [(0x0700, 4, 0, 1), (0x0700, 6, 0, (2 * v : Nat))] [] c s

/-- UR_L2_AGE -/
def execUrL2Age (u : UrEntry) : State → Host.Outcome State Fault Refusal := urOp 0x23 2 false urL2Age u

/-! ### The mesh MAC -/

/-- The smallest WIN_WIDTH whose window, centred as R499 states, holds every channel with its span. -/
def urWidth (first count : Nat) : Option Nat :=
  let centre := (first + (count - 1) * 100) / 25 * 25
  [0, 1, 2].find? (fun w => decide (centre ≤ first - 100 + 12500 * 2 ^ w) && decide (first + (count - 1) * 200 + 100 ≤ centre + 12500 * 2 ^ w))

/-- One detector per channel on a profile, and no other (R499). -/
def urDetectors (s : State) (g count profile : Nat) : List (Nat × Nat × Nat × Int) :=
  (List.range 512).filterMap (fun i =>
    let v := cfgNat s g 1 i
    if i < count then some (g, 1, i, ((1 + i * 2 ^ 3 + profile * 2 ^ 13 + v / 2 ^ 21 * 2 ^ 21 : Nat) : Int))
    else if bit v 0 then some (g, 1, i, ((v - 1 : Nat) : Int))
    else none)

/-- The fields that UR_MESH_CFG sets (R499): timing, HOP0, MESH_TEMPLATE_0, and RX_s and DET_s of the first two sectors. -/
def meshCfgFields (s : State) (ts first count profile pre : Nat) (power : Int) (width : Nat) : List (Nat × Nat × Nat × Int) :=
  let hop := (List.range count).map (fun i => (0x0820, 2, i, ((first + i * 200 + 1 * 2 ^ 32 : Nat) : Int)))
  let rx := ([0x0930, 0x0931].map (fun g =>
    [(g, 1, 0, (((first + (count - 1) * 100) / 25 : Nat) : Int)), (g, 2, 0, (width : Int)), (g, 3, 0, (200 : Int)), (g, 4, 0, (first : Int)), (g, 5, 0, (count : Int))])).flatten
  let det := ([0x0940, 0x0941].map (fun g => urDetectors s g count profile)).flatten
  (if cfgNat s 0x0800 1 0 = ts then [] else [(0x0800, 1, 0, (ts : Int))]) ++ [(0x0820, 1, 0, (count : Int))] ++ hop
    ++ [(0x0810, 8, 0, (pre : Int)), (0x0810, 9, 0, power)] ++ rx ++ det

/-- UR_MESH_CFG: 0-3 TS_LEN, 4-7 first channel, 8 count, 9 profile, 10-11 DL_PREAMBLE, 12-13 ACK_POWER (R499). -/
def urMeshCfg (c : Cmd) (s : State) : Answer :=
  let ts := fld c.req 0 4
  let first := fld c.req 4 4
  let count := byteAt c.req 8
  let profile := byteAt c.req 9
  if count = 0 then .bad 8 s
  else if 3 < profile then .bad 9 s
  else match urWidth first count with
    | none => .bad 8 s
    | some w =>
      if cfgNat s 0x0800 1 0 ≠ ts ∧ s.mode.mode ≠ .config then .fail .modeRefused 0 s
      else urCommit (meshCfgFields s ts first count profile (fld c.req 10 2) (toSigned 16 (fld c.req 12 2)) w) [] c s

/-- UR_MESH_CFG -/
def execUrMeshCfg (u : UrEntry) : State → Host.Outcome State Fault Refusal := urOp 0x30 14 false urMeshCfg u

/-- A node index that UR commands name: 1 to 16,383 (Table 19.9, quirk 11). -/
def urNode (n : Nat) : Bool := decide (1 ≤ n) && decide (n < 16384)

/-- The lowest free entry of the link table. -/
def freeLink (s : State) : Option Nat :=
  let used := (liveLinks s).map (·.index)
  ((List.range (used.length + 1)).find? (fun i => !used.contains i)).filter (fun i => decide (i < 524288))

/-- UR_LINK_ADD: 0 slotframe, 1-2 slot, 3-4 channel offset, 5-6 node, 7 flags. -/
def urLinkAdd (c : Cmd) (s : State) : Answer :=
  let n := fld c.req 5 2
  let f := byteAt c.req 7
  if 7 < byteAt c.req 0 then .bad 0 s
  else if !urNode n then .bad 5 s
  else match freeLink s with
    | none => .fail .noResource 0 s
    | some i =>
      let word := fld c.req 1 2 + at' 16 (fld c.req 3 2) + at' 32 (byteAt c.req 0) + at' 38 (f % 16) + at' 45 1 + at' 48 n
      urCommit [(0x0820, 4, i, (word : Int))] (leBytes 4 i) c s

/-- UR_LINK_ADD -/
def execUrLinkAdd (u : UrEntry) : State → Host.Outcome State Fault Refusal := urOp 0x31 8 false urLinkAdd u

/-- UR_LINK_DEL: 0-3 entry number. -/
def urLinkDel (c : Cmd) (s : State) : Answer :=
  let i := fld c.req 0 4
  let v := cfgNat s 0x0820 4 i
  if 524288 ≤ i then .bad 0 s else urCommit [(0x0820, 4, i, ((if bit v 45 then v - 2 ^ 45 else v : Nat) : Int))] [] c s

/-- UR_LINK_DEL -/
def execUrLinkDel (u : UrEntry) : State → Host.Outcome State Fault Refusal := urOp 0x32 4 false urLinkDel u

/-- UR_SLOTFRAME_SET: 0 handle, 1-2 LENGTH, 3 ENABLE. -/
def urSlotframeSet (c : Cmd) (s : State) : Answer :=
  let h := byteAt c.req 0
  if 7 < h then .bad 0 s
  else if fld c.req 1 2 = 0 then .bad 1 s
  else if 1 < byteAt c.req 3 then .bad 3 s
  else urCommit [(0x0820, 3, h, ((h + at' 8 (byteAt c.req 3) + at' 16 (fld c.req 1 2) : Nat) : Int))] [] c s

/-- UR_SLOTFRAME_SET -/
def execUrSlotframeSet (u : UrEntry) : State → Host.Outcome State Fault Refusal := urOp 0x33 4 false urSlotframeSet u

/-! ### Nodes -/

/-- A command on a node: an index outside 1 to 16,383 is BAD_ARG. -/
def urNodeCmd (h : Nat → Cmd → State → Answer) (c : Cmd) (s : State) : Answer :=
  let n := fld c.req 0 2
  if urNode n then h n c s else .bad 0 s

/-- UR_NODE_ADD: 0-1 node, 2-9 EUI-64, 10-11 short address, 12 KEY_GEN, 13-16 RX_FC; MESH_NODE_ADD with REJOIN = 1. -/
def urNodeAdd (n : Nat) (c : Cmd) (s : State) : Answer :=
  native nodeAdd (leBytes 4 n ++ slice c.req 2 11 ++ leBytes 1 (2 * 5 + 16) ++ slice c.req 13 4) c s

/-- UR_NODE_ADD -/
def execUrNodeAdd (u : UrEntry) : State → Host.Outcome State Fault Refusal := urOp 0x40 17 false (urNodeCmd urNodeAdd) u

/-- UR_NODE_DEL -/
def execUrNodeDel (u : UrEntry) : State → Host.Outcome State Fault Refusal :=
  urOp 0x41 2 false (urNodeCmd (fun n => native (nodeCmd nodeRemove) (leBytes 4 n))) u

/-- The UR RSSI of a node's last frame (R502). -/
def urNodeRssi (r : NodeRec) : Nat := min 255 (2 * (r.rssi + 174)).toNat

/-- The reply of UR_NODE_GET (Table 19.6). -/
def urNodeBytes (s : State) (n : Nat) : List Byte :=
  let r := nodeOf s n
  leBytes 8 r.eui.toNat ++ leBytes 1 (nodeState s n) ++ leBytes 1 r.keyGen.toNat ++ leBytes 4 r.rxFc.toNat ++ leBytes 4 r.txFc.toNat
    ++ leBytes 1 (urNodeRssi r) ++ leBytes 2 r.rxFrames.toNat

/-- UR_NODE_GET -/
def execUrNodeGet (u : UrEntry) : State → Host.Outcome State Fault Refusal :=
  urOp 0x42 2 false (urNodeCmd (fun n => native (nodeCmd (fun n _ s => .ok (urNodeBytes s n) s)) (leBytes 4 n))) u

/-- UR_NODE_REKEY -/
def execUrNodeRekey (u : UrEntry) : State → Host.Outcome State Fault Refusal :=
  urOp 0x43 2 false (urNodeCmd (fun n => native (nodeCmd nodeRekey) (leBytes 4 n ++ zeros 1))) u

/-- UR_NODE_BLOCK: 2 is 1 to block, 0 to unblock. -/
def urNodeBlock (n : Nat) (c : Cmd) (s : State) : Answer :=
  if 1 < byteAt c.req 2 then .bad 2 s else native (nodeCmd nodeStateSet) (leBytes 4 n ++ leBytes 1 (1 + byteAt c.req 2)) c s

/-- UR_NODE_BLOCK -/
def execUrNodeBlock (u : UrEntry) : State → Host.Outcome State Fault Refusal := urOp 0x44 3 false (urNodeCmd urNodeBlock) u

/-! ### Keys -/

/-- The attribute word of UR_KEY_SET: AES-256, HOST, DERIVE_NODE, PERSIST, LC_BIND of PROVISIONED and DEPLOYED. -/
def urKeyAttr : Nat := 2 ^ 27 + 6 * 2 ^ 20 + 2 ^ 19 + 2 ^ 5

/-- A native key command on a slot, as one step of UR_KEY_SET: its refusal, or the state after. -/
def keyStep (h : Cmd → State → Answer) (req : List Byte) (c : Cmd) (s : State) : Except (Status × Nat) State :=
  match native h req c s with
  | .done st d _ t => if st = .ok then .ok t else .error (st, d)
  | .wait t => .ok t

/-- UR_KEY_SET: 0 parity, 1-32 key. The key goes into the slot of the pair that MESH_SECURITY does not name, which then
names it; the slot named before is erased. Where a part is refused nothing changes. -/
def urKeySet (c : Cmd) (s : State) : Answer :=
  let parity := byteAt c.req 0
  let was := cfgNat s 0x0822 (1 + parity) 0
  let slot := if masterSlot s parity then parity + 2 else parity
  if 1 < parity then .bad 0 s
  else if usesParity s parity then .fail .modeRefused 0 s
  else if s.mode.lifecycle = .deployed then .fail .authFail 0 s
  else if (lockedBy s 16 0x0822).isSome then .fail .busy 0 s
  else
    let erase := fun n s => if (slotOf s n).state = .empty then Except.ok s else keyStep keyErase (leBytes 2 n) c s
    match erase slot s with
    | .error (st, d) => .fail st d s
    | .ok t =>
      match keyStep keyImportPlain (leBytes 2 slot ++ zeros 2 ++ leBytes 4 urKeyAttr ++ slice c.req 1 32) c t with
      | .error (st, d) => .fail st d s
      | .ok t =>
        match urCommit [(0x0822, 1 + parity, 0, (slot : Int))] [] c t with
        | .wait t => .wait t
        | .done st d r t =>
          if st ≠ .ok then .fail st d s
          else match erase was t with
            | .ok t => .done st d r t
            | .error _ => .done st d r t

/-- UR_KEY_SET -/
def execUrKeySet (u : UrEntry) : State → Host.Outcome State Fault Refusal := urOp 0x50 33 false urKeySet u

/-! ### Time -/

/-- UR_TIME_GET -/
def execUrTimeGet (u : UrEntry) : State → Host.Outcome State Fault Refusal :=
  urOp 0x60 0 true (fun _ s => .ok (leBytes 4 (urTime s) ++ leBytes 6 (nowSec s) ++ leBytes 4 (nowNanos s)) s) u

/-- UR_TIME_SET: 0-5 seconds, 6-9 nanoseconds: a Meridian commit with ADJ_MODE = SET, which leaves what the host has
staged for rate and hold (R358). BUSY during a commit, STATE while the servo owns Meridian (R359). -/
def urTimeSet (c : Cmd) (s : State) : Answer :=
  let m := s.time.mer
  if m.ownerFw then .fail .modeRefused 0 s
  else if m.commit.busy then .fail .busy 0 s
  else
    let t := modMer (fun m => { m with stRate := BitVec.ofInt 40 m.rate, stHold := m.hold, adjMode := 2, adjSec := BitVec.ofNat 48 (fld c.req 0 6),
                                       adjNs := BitVec.ofNat 32 (fld c.req 6 4) }) s
    match firstFailing (merChecks t.time.mer) with
    | some n => .fail .cfgRefused n s
    | none => .ok [] (modMer (fun x => { x with stRate := m.stRate, stHold := m.stHold, commit := commitEnd x.commit }) (merCommit 0x80000000 t))

/-- UR_TIME_SET -/
def execUrTimeSet (u : UrEntry) : State → Host.Outcome State Fault Refusal := urOp 0x61 10 false urTimeSet u

/-! ### Twins (R507) -/

/-- UR_TWIN_CFG: 0 member, 1 ENABLE; only in IDLE. -/
def urTwinCfg (c : Cmd) (s : State) : Answer :=
  let m := byteAt c.req 0
  let e := byteAt c.req 1
  if 1 < m then .bad 0 s
  else if 1 < e then .bad 1 s
  else if s.mode.mode ≠ .config then .fail .modeRefused 0 s
  else urCommit [(0x0B00, 1, 0, (m : Int)), (0x0B00, 2, 0, 3), (0x0B00, 3, 0, (e : Int)), (0x0B00, 4, 0, (1 - m : Nat)), (0x0B00, 4, 1, (1 - m : Nat))] [] c s

/-- UR_TWIN_CFG -/
def execUrTwinCfg (u : UrEntry) : State → Host.Outcome State Fault Refusal := urOp 0x70 2 false urTwinCfg u

/-- UR_TWIN_SWITCH: transition 10 (R435, R507). -/
def urTwinSwitch (c : Cmd) (s : State) : Answer :=
  match s.mode.mode with
  | .activeC => native modeSet (leBytes 1 Mode.standbyC.code ++ zeros 7) c s
  | .standbyC => native modeSet (leBytes 1 Mode.activeC.code ++ zeros 7) c s
  | _ => .fail .modeRefused 0 s

/-- UR_TWIN_SWITCH -/
def execUrTwinSwitch (u : UrEntry) : State → Host.Outcome State Fault Refusal := urOp 0x71 0 false urTwinSwitch u

/-! ### Opcodes that the table does not list -/

/-- The opcodes of Table 19.6. -/
def urListed (c : Nat) : Bool :=
  [0x01, 0x02, 0x03, 0x04, 0x10, 0x11, 0x12, 0x20, 0x21, 0x22, 0x23, 0x30, 0x31, 0x32, 0x33, 0x40, 0x41, 0x42, 0x43, 0x44, 0x50, 0x60, 0x61, 0x70, 0x71].contains c

/-- UR_UNLISTED_OPCODE: BAD_CMD; the firmware commands 0x90 to 0x92 complete with STATE (Table 19.7, Table 19.10). -/
def execUrUnlistedOpcode (opcode : Byte) (u : UrEntry) : State → Host.Outcome State Fault Refusal :=
  occur 0 (fun s =>
    if served s 16 && !urListed opcode.toNat then
      let c := urCmdOf opcode.toNat u
      complete c (if [0x90, 0x91, 0x92].contains opcode.toNat then .modeRefused else .badOpcode) 0 [] (urFetch c s)
    else s)

/-! ### The merge of shadow banks (R330) -/

/-- A command whose commit waited, run again. -/
def runWaiting (c : Cmd) (s : State) : Answer :=
  if c.queue = 16 then
    match c.opcode with
    | 0x10 => urPortSet c s
    | 0x20 => urL2Add c s
    | 0x21 => urL2Del c s
    | 0x23 => urL2Age c s
    | 0x30 => urMeshCfg c s
    | 0x31 => urLinkAdd c s
    | 0x32 => urLinkDel c s
    | 0x33 => urSlotframeSet c s
    | 0x50 => urKeySet c s
    | _ => urTwinCfg c s
  else configCommit c s

/-- The commits that waited begin in their order; one that loads a shadow bank makes those after it wait again. -/
def resumeCommits : List Cmd → State → State
  | [], s => s
  | c :: r, s =>
    match runWaiting c s with
    | .done st d rep t => resumeCommits r (complete c st d rep t)
    | .wait t => modSw (fun w => { w with commitWait := w.commitWait ++ r }) t

/-- No packet of an older epoch is on the slow path (R329). -/
def epochsDrained (s : State) : Bool := s.sw.slow.all (fun p => p.2.all (fun x => decide (x.pkt.md.epoch = s.cfg.epoch.toNat)))

/-- SHADOW_MERGE: the shadow buckets merge into the base bank (R330). -/
def shadowMerge (s : State) : State :=
  if s.sw.shadow && epochsDrained s then
    let l := s.sw.commitWait
    resumeCommits l (modSw (fun w => { w with shadow := false, banks := [], commitWait := [] }) s)
  else s

/-- SHADOW_MERGE -/
def execShadowMerge (dt : Nat) : State → Host.Outcome State Fault Refusal := event dt shadowMerge

end Sys2Proof.Machine
end

