-- ==== Sys2Proof/Machine/Dispatch.lean ====
section
/-!
DEFINITION. The dispatch: one arm per command, each one direct call of the command's meaning.
-/
namespace Sys2Proof.Machine

def exec (i : Instr) (s : State) : Host.Outcome State Fault Refusal :=
  match i with
  | .sysIdentify e => Sys2Proof.Machine.execSysIdentify e s
  | .sysStatus e => Sys2Proof.Machine.execSysStatus e s
  | .sysModeSet e => Sys2Proof.Machine.execSysModeSet e s
  | .sysLifecycleSet e => Sys2Proof.Machine.execSysLifecycleSet e s
  | .sysModeParamSet e => Sys2Proof.Machine.execSysModeParamSet e s
  | .sysModeParamGet e => Sys2Proof.Machine.execSysModeParamGet e s
  | .sysBackhaulReport e => Sys2Proof.Machine.execSysBackhaulReport e s
  | .sysConfigCommit e => Sys2Proof.Machine.execSysConfigCommit e s
  | .sysConfigDiscard e => Sys2Proof.Machine.execSysConfigDiscard e s
  | .sysEventRoute e => Sys2Proof.Machine.execSysEventRoute e s
  | .sysJobStatus e => Sys2Proof.Machine.execSysJobStatus e s
  | .sysFwStage e => Sys2Proof.Machine.execSysFwStage e s
  | .sysFwVerify e => Sys2Proof.Machine.execSysFwVerify e s
  | .sysFwActivate e => Sys2Proof.Machine.execSysFwActivate e s
  | .sysFwStatus e => Sys2Proof.Machine.execSysFwStatus e s
  | .sysCompatProfileLoad e => Sys2Proof.Machine.execSysCompatProfileLoad e s
  | .sysCompatMigrate e => Sys2Proof.Machine.execSysCompatMigrate e s
  | .unlistedOpcode opcode e => Sys2Proof.Machine.execUnlistedOpcode opcode e s
  | .portCfgSet e => Sys2Proof.Machine.execPortCfgSet e s
  | .portCfgGet e => Sys2Proof.Machine.execPortCfgGet e s
  | .portStatus e => Sys2Proof.Machine.execPortStatus e s
  | .portCountersGet e => Sys2Proof.Machine.execPortCountersGet e s
  | .portSerdesSet e => Sys2Proof.Machine.execPortSerdesSet e s
  | .portSerdesGet e => Sys2Proof.Machine.execPortSerdesGet e s
  | .swBufferSet e => Sys2Proof.Machine.execSwBufferSet e s
  | .swBufferGet e => Sys2Proof.Machine.execSwBufferGet e s
  | .swQosSet e => Sys2Proof.Machine.execSwQosSet e s
  | .swQosGet e => Sys2Proof.Machine.execSwQosGet e s
  | .swMirrorSet e => Sys2Proof.Machine.execSwMirrorSet e s
  | .swMirrorGet e => Sys2Proof.Machine.execSwMirrorGet e s
  | .swQueueFlush e => Sys2Proof.Machine.execSwQueueFlush e s
  | .swPrpSet e => Sys2Proof.Machine.execSwPrpSet e s
  | .swPrpGet e => Sys2Proof.Machine.execSwPrpGet e s
  | .swQueueStatus e => Sys2Proof.Machine.execSwQueueStatus e s
  | .swCountersGet e => Sys2Proof.Machine.execSwCountersGet e s
  | .portHostTx e => Sys2Proof.Machine.execPortHostTx e s
  | .portHostRxSet e => Sys2Proof.Machine.execPortHostRxSet e s
  | .portHostRxRelease e => Sys2Proof.Machine.execPortHostRxRelease e s
  | .clsStageSet e => Sys2Proof.Machine.execClsStageSet e s
  | .clsStageGet e => Sys2Proof.Machine.execClsStageGet e s
  | .clsEntryWrite e => Sys2Proof.Machine.execClsEntryWrite e s
  | .clsEntryRead e => Sys2Proof.Machine.execClsEntryRead e s
  | .clsEntryDelete e => Sys2Proof.Machine.execClsEntryDelete e s
  | .clsEntryBulk e => Sys2Proof.Machine.execClsEntryBulk e s
  | .clsMeterSet e => Sys2Proof.Machine.execClsMeterSet e s
  | .clsMeterGet e => Sys2Proof.Machine.execClsMeterGet e s
  | .clsParserSet e => Sys2Proof.Machine.execClsParserSet e s
  | .clsParserGet e => Sys2Proof.Machine.execClsParserGet e s
  | .clsCounterGet e => Sys2Proof.Machine.execClsCounterGet e s
  | .clsStatsGet e => Sys2Proof.Machine.execClsStatsGet e s
  | .clsPolicerSet e => Sys2Proof.Machine.execClsPolicerSet e s
  | .clsPolicerGet e => Sys2Proof.Machine.execClsPolicerGet e s
  | .fwdParamSet e => Sys2Proof.Machine.execFwdParamSet e s
  | .fwdParamGet e => Sys2Proof.Machine.execFwdParamGet e s
  | .fwdEntryWrite e => Sys2Proof.Machine.execFwdEntryWrite e s
  | .fwdEntryRead e => Sys2Proof.Machine.execFwdEntryRead e s
  | .fwdEntryDelete e => Sys2Proof.Machine.execFwdEntryDelete e s
  | .fwdEntryBulk e => Sys2Proof.Machine.execFwdEntryBulk e s
  | .fwdNexthopSet e => Sys2Proof.Machine.execFwdNexthopSet e s
  | .fwdNexthopGet e => Sys2Proof.Machine.execFwdNexthopGet e s
  | .fwdVlanSet e => Sys2Proof.Machine.execFwdVlanSet e s
  | .fwdVlanGet e => Sys2Proof.Machine.execFwdVlanGet e s
  | .fwdL2Flush e => Sys2Proof.Machine.execFwdL2Flush e s
  | .fwdCountersGet e => Sys2Proof.Machine.execFwdCountersGet e s
  | .meshTimingSet e => Sys2Proof.Machine.execMeshTimingSet e s
  | .meshTimingGet e => Sys2Proof.Machine.execMeshTimingGet e s
  | .meshTemplateSet e => Sys2Proof.Machine.execMeshTemplateSet e s
  | .meshTemplateGet e => Sys2Proof.Machine.execMeshTemplateGet e s
  | .meshScheduleSet e => Sys2Proof.Machine.execMeshScheduleSet e s
  | .meshScheduleGet e => Sys2Proof.Machine.execMeshScheduleGet e s
  | .meshDriftParamSet e => Sys2Proof.Machine.execMeshDriftParamSet e s
  | .meshDriftParamGet e => Sys2Proof.Machine.execMeshDriftParamGet e s
  | .meshNodeDriftGet e => Sys2Proof.Machine.execMeshNodeDriftGet e s
  | .meshNodeDriftReset e => Sys2Proof.Machine.execMeshNodeDriftReset e s
  | .meshNodeSyncSet e => Sys2Proof.Machine.execMeshNodeSyncSet e s
  | .meshMacCountersGet e => Sys2Proof.Machine.execMeshMacCountersGet e s
  | .meshNodeAdd e => Sys2Proof.Machine.execMeshNodeAdd e s
  | .meshNodeGet e => Sys2Proof.Machine.execMeshNodeGet e s
  | .meshPartitionGet e => Sys2Proof.Machine.execMeshPartitionGet e s
  | .meshNodeStateSet e => Sys2Proof.Machine.execMeshNodeStateSet e s
  | .meshNodeRekey e => Sys2Proof.Machine.execMeshNodeRekey e s
  | .meshNodeKeyExport e => Sys2Proof.Machine.execMeshNodeKeyExport e s
  | .meshSecuritySet e => Sys2Proof.Machine.execMeshSecuritySet e s
  | .meshSecurityGet e => Sys2Proof.Machine.execMeshSecurityGet e s
  | .meshSecCountersGet e => Sys2Proof.Machine.execMeshSecCountersGet e s
  | .meshNodeRemove e => Sys2Proof.Machine.execMeshNodeRemove e s
  | .meshNodeRestore e => Sys2Proof.Machine.execMeshNodeRestore e s
  | .meshPartitionSet e => Sys2Proof.Machine.execMeshPartitionSet e s
  | .meshAddrBulk e => Sys2Proof.Machine.execMeshAddrBulk e s
  | .meshGxLqSet e => Sys2Proof.Machine.execMeshGxLqSet e s
  | .meshGxLqGet e => Sys2Proof.Machine.execMeshGxLqGet e s
  | .radioSectorSet e => Sys2Proof.Machine.execRadioSectorSet e s
  | .radioSectorGet e => Sys2Proof.Machine.execRadioSectorGet e s
  | .radioFrontendSet e => Sys2Proof.Machine.execRadioFrontendSet e s
  | .radioFrontendGet e => Sys2Proof.Machine.execRadioFrontendGet e s
  | .radioCalWrite e => Sys2Proof.Machine.execRadioCalWrite e s
  | .radioCalRead e => Sys2Proof.Machine.execRadioCalRead e s
  | .radioRegRead e => Sys2Proof.Machine.execRadioRegRead e s
  | .radioRegWrite e => Sys2Proof.Machine.execRadioRegWrite e s
  | .radioRegUpdate e => Sys2Proof.Machine.execRadioRegUpdate e s
  | .radioTxCountersGet e => Sys2Proof.Machine.execRadioTxCountersGet e s
  | .radioDutyStatus e => Sys2Proof.Machine.execRadioDutyStatus e s
  | .radioRxSet e => Sys2Proof.Machine.execRadioRxSet e s
  | .radioRxGet e => Sys2Proof.Machine.execRadioRxGet e s
  | .radioDetectorSet e => Sys2Proof.Machine.execRadioDetectorSet e s
  | .radioDetectorGet e => Sys2Proof.Machine.execRadioDetectorGet e s
  | .radioRxCountersGet e => Sys2Proof.Machine.execRadioRxCountersGet e s
  | .radioIqCapture e => Sys2Proof.Machine.execRadioIqCapture e s
  | .radioIqRead e => Sys2Proof.Machine.execRadioIqRead e s
  | .keySlotInfo e => Sys2Proof.Machine.execKeySlotInfo e s
  | .keyGenerate e => Sys2Proof.Machine.execKeyGenerate e s
  | .keyImportPlain e => Sys2Proof.Machine.execKeyImportPlain e s
  | .keyImportWrapped e => Sys2Proof.Machine.execKeyImportWrapped e s
  | .keyExportWrapped e => Sys2Proof.Machine.execKeyExportWrapped e s
  | .keyDerive e => Sys2Proof.Machine.execKeyDerive e s
  | .keyErase e => Sys2Proof.Machine.execKeyErase e s
  | .keyCtxOpen e => Sys2Proof.Machine.execKeyCtxOpen e s
  | .keyCtxUpdate e => Sys2Proof.Machine.execKeyCtxUpdate e s
  | .keyCtxFinal e => Sys2Proof.Machine.execKeyCtxFinal e s
  | .keyCtxClose e => Sys2Proof.Machine.execKeyCtxClose e s
  | .keyAuthNonce e => Sys2Proof.Machine.execKeyAuthNonce e s
  | .keyAuthoritySet e => Sys2Proof.Machine.execKeyAuthoritySet e s
  | .keyTamperCfgSet e => Sys2Proof.Machine.execKeyTamperCfgSet e s
  | .keyTamperStatus e => Sys2Proof.Machine.execKeyTamperStatus e s
  | .keyPerimeterGet e => Sys2Proof.Machine.execKeyPerimeterGet e s
  | .keyDebugUnlock e => Sys2Proof.Machine.execKeyDebugUnlock e s
  | .timeGet e => Sys2Proof.Machine.execTimeGet e s
  | .timeServoSet e => Sys2Proof.Machine.execTimeServoSet e s
  | .timeServoGet e => Sys2Proof.Machine.execTimeServoGet e s
  | .timePtpPortSet e => Sys2Proof.Machine.execTimePtpPortSet e s
  | .timePtpPortGet e => Sys2Proof.Machine.execTimePtpPortGet e s
  | .timeCountersGet e => Sys2Proof.Machine.execTimeCountersGet e s
  | .clusterSet e => Sys2Proof.Machine.execClusterSet e s
  | .clusterGet e => Sys2Proof.Machine.execClusterGet e s
  | .twinStatus e => Sys2Proof.Machine.execTwinStatus e s
  | .clusterStatus e => Sys2Proof.Machine.execClusterStatus e s
  | .twinResync e => Sys2Proof.Machine.execTwinResync e s
  | .chordCountersGet e => Sys2Proof.Machine.execChordCountersGet e s
  | .twinHealthGet e => Sys2Proof.Machine.execTwinHealthGet e s
  | .storeStatus e => Sys2Proof.Machine.execStoreStatus e s
  | .storeFormat e => Sys2Proof.Machine.execStoreFormat e s
  | .storeDriveAdd e => Sys2Proof.Machine.execStoreDriveAdd e s
  | .storeDriveRetire e => Sys2Proof.Machine.execStoreDriveRetire e s
  | .storeParamSet e => Sys2Proof.Machine.execStoreParamSet e s
  | .storeParamGet e => Sys2Proof.Machine.execStoreParamGet e s
  | .storeDdqGet e => Sys2Proof.Machine.execStoreDdqGet e s
  | .storeDdqFlush e => Sys2Proof.Machine.execStoreDdqFlush e s
  | .storeImagePut e => Sys2Proof.Machine.execStoreImagePut e s
  | .storeImageList e => Sys2Proof.Machine.execStoreImageList e s
  | .storeImageDelete e => Sys2Proof.Machine.execStoreImageDelete e s
  | .storeCampaignStart e => Sys2Proof.Machine.execStoreCampaignStart e s
  | .storeCampaignStatus e => Sys2Proof.Machine.execStoreCampaignStatus e s
  | .storeCampaignStop e => Sys2Proof.Machine.execStoreCampaignStop e s
  | .storeJournalRead e => Sys2Proof.Machine.execStoreJournalRead e s
  | .storeHistoryRead e => Sys2Proof.Machine.execStoreHistoryRead e s
  | .storeCountersGet e => Sys2Proof.Machine.execStoreCountersGet e s
  | .diagHealthGet e => Sys2Proof.Machine.execDiagHealthGet e s
  | .diagHealthResolve e => Sys2Proof.Machine.execDiagHealthResolve e s
  | .diagBistRun e inUse => Sys2Proof.Machine.execDiagBistRun e inUse s
  | .diagLatticeStatus e => Sys2Proof.Machine.execDiagLatticeStatus e s
  | .diagParamSet e => Sys2Proof.Machine.execDiagParamSet e s
  | .diagParamGet e => Sys2Proof.Machine.execDiagParamGet e s
  | .diagDumpList e => Sys2Proof.Machine.execDiagDumpList e s
  | .diagDumpRead e => Sys2Proof.Machine.execDiagDumpRead e s
  | .diagDumpErase e => Sys2Proof.Machine.execDiagDumpErase e s
  | .diagRepairGet e => Sys2Proof.Machine.execDiagRepairGet e s
  | .diagEccCountersGet e => Sys2Proof.Machine.execDiagEccCountersGet e s
  | .diagDumpForce e => Sys2Proof.Machine.execDiagDumpForce e s
  | .diagFrameCapture e => Sys2Proof.Machine.execDiagFrameCapture e s
  | .diagFrameRead e => Sys2Proof.Machine.execDiagFrameRead e s
  | .urGetVersion u => Sys2Proof.Machine.execUrGetVersion u s
  | .urGetStatus u => Sys2Proof.Machine.execUrGetStatus u s
  | .urSetState u => Sys2Proof.Machine.execUrSetState u s
  | .urClearStats u => Sys2Proof.Machine.execUrClearStats u s
  | .urPortSet u => Sys2Proof.Machine.execUrPortSet u s
  | .urPortGet u => Sys2Proof.Machine.execUrPortGet u s
  | .urPortStats u => Sys2Proof.Machine.execUrPortStats u s
  | .urL2Add u => Sys2Proof.Machine.execUrL2Add u s
  | .urL2Del u => Sys2Proof.Machine.execUrL2Del u s
  | .urL2Flush u => Sys2Proof.Machine.execUrL2Flush u s
  | .urL2Age u => Sys2Proof.Machine.execUrL2Age u s
  | .urMeshCfg u => Sys2Proof.Machine.execUrMeshCfg u s
  | .urLinkAdd u => Sys2Proof.Machine.execUrLinkAdd u s
  | .urLinkDel u => Sys2Proof.Machine.execUrLinkDel u s
  | .urSlotframeSet u => Sys2Proof.Machine.execUrSlotframeSet u s
  | .urNodeAdd u => Sys2Proof.Machine.execUrNodeAdd u s
  | .urNodeDel u => Sys2Proof.Machine.execUrNodeDel u s
  | .urNodeGet u => Sys2Proof.Machine.execUrNodeGet u s
  | .urNodeRekey u => Sys2Proof.Machine.execUrNodeRekey u s
  | .urNodeBlock u => Sys2Proof.Machine.execUrNodeBlock u s
  | .urKeySet u => Sys2Proof.Machine.execUrKeySet u s
  | .urTimeGet u => Sys2Proof.Machine.execUrTimeGet u s
  | .urTimeSet u => Sys2Proof.Machine.execUrTimeSet u s
  | .urTwinCfg u => Sys2Proof.Machine.execUrTwinCfg u s
  | .urTwinSwitch u => Sys2Proof.Machine.execUrTwinSwitch u s
  | .urUnlistedOpcode opcode u => Sys2Proof.Machine.execUrUnlistedOpcode opcode u s
  | .bootDoorbell port v => Sys2Proof.Machine.execBootDoorbell port v s
  | .mqSqTailWrite port q v => Sys2Proof.Machine.execMqSqTailWrite port q v s
  | .mqCqHeadWrite port q v => Sys2Proof.Machine.execMqCqHeadWrite port q v s
  | .mqCtrlEnable port q v => Sys2Proof.Machine.execMqCtrlEnable port q v s
  | .mqCtrlDisable port q v => Sys2Proof.Machine.execMqCtrlDisable port q v s
  | .mqSeqNextWrite port q v => Sys2Proof.Machine.execMqSeqNextWrite port q v s
  | .mqClaim port q v => Sys2Proof.Machine.execMqClaim port q v s
  | .mqRelease port q v => Sys2Proof.Machine.execMqRelease port q v s
  | .evConsWrite port n v => Sys2Proof.Machine.execEvConsWrite port n v s
  | .evCtrlClaim port n v => Sys2Proof.Machine.execEvCtrlClaim port n v s
  | .evCtrlRelease port n v => Sys2Proof.Machine.execEvCtrlRelease port n v s
  | .evCtrlEnable port n v => Sys2Proof.Machine.execEvCtrlEnable port n v s
  | .w1cClear port bar off v hwSet => Sys2Proof.Machine.execW1cClear port bar off v hwSet s
  | .registerWrite port bar off v => Sys2Proof.Machine.execRegisterWrite port bar off v s
  | .rlLowRead port bar off => Sys2Proof.Machine.execRlLowRead port bar off s
  | .gatedTimeRead port off periods => Sys2Proof.Machine.execGatedTimeRead port off periods s
  | .merCommitGo port v => Sys2Proof.Machine.execMerCommitGo port v s
  | .merCommitDiscard port v => Sys2Proof.Machine.execMerCommitDiscard port v s
  | .toutCommitGo port n v => Sys2Proof.Machine.execToutCommitGo port n v s
  | .tinCommitGo port n v => Sys2Proof.Machine.execTinCommitGo port n v s
  | .arcCommitGo port n v => Sys2Proof.Machine.execArcCommitGo port n v s
  | .blockCommitDiscard port off v => Sys2Proof.Machine.execBlockCommitDiscard port off v s
  | .tinCapPop port n => Sys2Proof.Machine.execTinCapPop port n s
  | .tsqPop port p => Sys2Proof.Machine.execTsqPop port p s
  | .arcCapRead port n => Sys2Proof.Machine.execArcCapRead port n s
  | .arcStart port v => Sys2Proof.Machine.execArcStart port v s
  | .arcStop port v => Sys2Proof.Machine.execArcStop port v s
  | .arcCmpHiWrite port n v => Sys2Proof.Machine.execArcCmpHiWrite port n v s
  | .arcArm port n v => Sys2Proof.Machine.execArcArm port n v s
  | .urCtrlRun v => Sys2Proof.Machine.execUrCtrlRun v s
  | .urRingReset v => Sys2Proof.Machine.execUrRingReset v s
  | .urCmdTailWrite v => Sys2Proof.Machine.execUrCmdTailWrite v s
  | .urRspHeadWrite v => Sys2Proof.Machine.execUrRspHeadWrite v s
  | .urEvtHeadWrite v => Sys2Proof.Machine.execUrEvtHeadWrite v s
  | .extUnlock v => Sys2Proof.Machine.execExtUnlock v s
  | .extFeaturesWrite v => Sys2Proof.Machine.execExtFeaturesWrite v s
  | .powerUp dt vbat r => Sys2Proof.Machine.execPowerUp dt vbat r s
  | .refClkArrival dt => Sys2Proof.Machine.execRefClkArrival dt s
  | .mainPowerLost dt vbat => Sys2Proof.Machine.execMainPowerLost dt vbat s
  | .pwrReqFall dt => Sys2Proof.Machine.execPwrReqFall dt s
  | .railFault dt rail => Sys2Proof.Machine.execRailFault dt rail s
  | .converterRailFault dt b => Sys2Proof.Machine.execConverterRailFault dt b s
  | .pmbAlert dt reads => Sys2Proof.Machine.execPmbAlert dt reads s
  | .railPoll dt reads => Sys2Proof.Machine.execRailPoll dt reads s
  | .railFaultRestart dt r => Sys2Proof.Machine.execRailFaultRestart dt r s
  | .pwronRst dt ns acts => Sys2Proof.Machine.execPwronRst dt ns acts s
  | .sysRst dt ns acts => Sys2Proof.Machine.execSysRst dt ns acts s
  | .perst dt port => Sys2Proof.Machine.execPerst dt port s
  | .functionLevelReset dt port => Sys2Proof.Machine.execFunctionLevelReset dt port s
  | .resetRelease dt => Sys2Proof.Machine.execResetRelease dt s
  | .avsMonitorTick dt short spare => Sys2Proof.Machine.execAvsMonitorTick dt short spare s
  | .thermalAlert dt hot => Sys2Proof.Machine.execThermalAlert dt hot s
  | .thermalShutdown dt => Sys2Proof.Machine.execThermalShutdown dt s
  | .refClkLost dt => Sys2Proof.Machine.execRefClkLost dt s
  | .refClkRelock dt => Sys2Proof.Machine.execRefClkRelock dt s
  | .relockSlewComplete dt => Sys2Proof.Machine.execRelockSlewComplete dt s
  | .driveImageVerified dt table => Sys2Proof.Machine.execDriveImageVerified dt table s
  | .driveImageTimeout dt => Sys2Proof.Machine.execDriveImageTimeout dt s
  | .hostImageVerified dt version compat table => Sys2Proof.Machine.execHostImageVerified dt version compat table s
  | .hostImageTimeout dt => Sys2Proof.Machine.execHostImageTimeout dt s
  | .bootImageDeadline dt => Sys2Proof.Machine.execBootImageDeadline dt s
  | .selftestComplete dt r => Sys2Proof.Machine.execSelftestComplete dt r s
  | .selftestTimeout dt => Sys2Proof.Machine.execSelftestTimeout dt s
  | .modeTimeout dt => Sys2Proof.Machine.execModeTimeout dt s
  | .backhaulLost dt => Sys2Proof.Machine.execBackhaulLost dt s
  | .backhaulRestored dt => Sys2Proof.Machine.execBackhaulRestored dt s
  | .probeLapse dt port => Sys2Proof.Machine.execProbeLapse dt port s
  | .quiescentWake dt source => Sys2Proof.Machine.execQuiescentWake dt source s
  | .fatalError dt cause locus => Sys2Proof.Machine.execFatalError dt cause locus s
  | .dumpComplete dt length => Sys2Proof.Machine.execDumpComplete dt length s
  | .dumpTimeout dt => Sys2Proof.Machine.execDumpTimeout dt s
  | .apexRestartComplete dt => Sys2Proof.Machine.execApexRestartComplete dt s
  | .fwVerifyDone dt img version compat apex facet => Sys2Proof.Machine.execFwVerifyDone dt img version compat apex facet s
  | .commandFetchFailed dt q perim => Sys2Proof.Machine.execCommandFetchFailed dt q perim s
  | .completionWriteFailed dt q => Sys2Proof.Machine.execCompletionWriteFailed dt q s
  | .hostLinkDown dt port => Sys2Proof.Machine.execHostLinkDown dt port s
  | .hostLinkReturn dt port => Sys2Proof.Machine.execHostLinkReturn dt port s
  | .hostPortLossTimeout dt port => Sys2Proof.Machine.execHostPortLossTimeout dt port s
  | .queueDrainDone dt q => Sys2Proof.Machine.execQueueDrainDone dt q s
  | .toutEdge dt n => Sys2Proof.Machine.execToutEdge dt n s
  | .tinEdgeCapture dt n rising => Sys2Proof.Machine.execTinEdgeCapture dt n rising s
  | .arcMatch dt => Sys2Proof.Machine.execArcMatch dt s
  | .arcCapture dt n rising => Sys2Proof.Machine.execArcCapture dt n rising s
  | .slowClockCalibrated dt ticks => Sys2Proof.Machine.execSlowClockCalibrated dt ticks s
  | .batteryClockWrite dt => Sys2Proof.Machine.execBatteryClockWrite dt s
  | .clkTimeGate dt => Sys2Proof.Machine.execClkTimeGate dt s
  | .clkTimeUngate dt periods => Sys2Proof.Machine.execClkTimeUngate dt periods s
  | .servoSyncTimeout dt => Sys2Proof.Machine.execServoSyncTimeout dt s
  | .ingressFrame dt port frame fcsOk codeErr ago fecFixed fecBad => Sys2Proof.Machine.execIngressFrame dt port frame fcsOk codeErr ago fecFixed fecBad s
  | .prpForgetExpiry dt pair sa seq => Sys2Proof.Machine.execPrpForgetExpiry dt pair sa seq s
  | .linkUp dt port => Sys2Proof.Machine.execLinkUp dt port s
  | .linkDown dt port sending => Sys2Proof.Machine.execLinkDown dt port sending s
  | .sgmiiSpeedChange dt port rate sending => Sys2Proof.Machine.execSgmiiSpeedChange dt port rate sending s
  | .pauseFrameReceived dt port da quanta => Sys2Proof.Machine.execPauseFrameReceived dt port da quanta s
  | .pfcFrameReceived dt port da vector times => Sys2Proof.Machine.execPfcFrameReceived dt port da vector times s
  | .pauseTimerExpiry dt port => Sys2Proof.Machine.execPauseTimerExpiry dt port s
  | .xoffThreshold dt port => Sys2Proof.Machine.execXoffThreshold dt port s
  | .xonThreshold dt port => Sys2Proof.Machine.execXonThreshold dt port s
  | .pauseRefresh dt port => Sys2Proof.Machine.execPauseRefresh dt port s
  | .egressFrameSend dt port => Sys2Proof.Machine.execEgressFrameSend dt port s
  | .txUnderrun dt port sent => Sys2Proof.Machine.execTxUnderrun dt port sent s
  | .underrunDecay dt port => Sys2Proof.Machine.execUnderrunDecay dt port s
  | .pipelinePacket dt pipe => Sys2Proof.Machine.execPipelinePacket dt pipe s
  | .slowPathReturn dt pipe => Sys2Proof.Machine.execSlowPathReturn dt pipe s
  | .schedulerDecision dt port => Sys2Proof.Machine.execSchedulerDecision dt port s
  | .learnRequest dt => Sys2Proof.Machine.execLearnRequest dt s
  | .moveHoldExpiry dt vid mac => Sys2Proof.Machine.execMoveHoldExpiry dt vid mac s
  | .ageingSweep dt t => Sys2Proof.Machine.execAgeingSweep dt t s
  | .shadowMerge dt => Sys2Proof.Machine.execShadowMerge dt s
  | .learnMessageReceived dt src compat epoch type vid seq mac port timeUs => Sys2Proof.Machine.execLearnMessageReceived dt src compat epoch type vid seq mac port timeUs s
  | .resyncReqReceived dt src compat epoch seq => Sys2Proof.Machine.execResyncReqReceived dt src compat epoch seq s
  | .flushForcedRewind dt port => Sys2Proof.Machine.execFlushForcedRewind dt port s
  | .queueFlushComplete dt port => Sys2Proof.Machine.execQueueFlushComplete dt port s
  | .gainIndexRaise dt sector adcB => Sys2Proof.Machine.execGainIndexRaise dt sector adcB s
  | .gainIndexLower dt sector adcB => Sys2Proof.Machine.execGainIndexLower dt sector adcB s
  | .preambleDetection dt sector det metricA metricB preA preB => Sys2Proof.Machine.execPreambleDetection dt sector det metricA metricB preA preB s
  | .aerialSelection dt lane snrA snrB sfdBegun => Sys2Proof.Machine.execAerialSelection dt lane snrA snrB sfdBegun s
  | .sfdTimeout dt lane => Sys2Proof.Machine.execSfdTimeout dt lane s
  | .headerPoint dt lane word length mcs ms reserved fcs32 dw hcsOk => Sys2Proof.Machine.execHeaderPoint dt lane word length mcs ms reserved fcs32 dw hcsOk s
  | .ldpcCodewordDecoded dt lane ok credit => Sys2Proof.Machine.execLdpcCodewordDecoded dt lane ok credit s
  | .ppduEnd dt lane psdu rssi alt noise evm ago => Sys2Proof.Machine.execPpduEnd dt lane psdu rssi alt noise evm ago s
  | .rxCfgApplication dt sector => Sys2Proof.Machine.execRxCfgApplication dt sector s
  | .ppduRequest dt sector => Sys2Proof.Machine.execPpduRequest dt sector s
  | .txStartSequence dt sector id => Sys2Proof.Machine.execTxStartSequence dt sector id s
  | .coexGrantSample dt sector id grant => Sys2Proof.Machine.execCoexGrantSample dt sector id grant s
  | .coexGrantFall dt group => Sys2Proof.Machine.execCoexGrantFall dt group s
  | .txEnd dt sector id => Sys2Proof.Machine.execTxEnd dt sector id s
  | .dacRangeApply dt sector => Sys2Proof.Machine.execDacRangeApply dt sector s
  | .dacRangeHold dt sector => Sys2Proof.Machine.execDacRangeHold dt sector s
  | .sectorCfgApply dt sector => Sys2Proof.Machine.execSectorCfgApply dt sector s
  | .frontEndCfgApply dt sector => Sys2Proof.Machine.execFrontEndCfgApply dt sector s
  | .dutyBucketBoundary dt channel => Sys2Proof.Machine.execDutyBucketBoundary dt channel s
  | .iqCaptureTrigger dt => Sys2Proof.Machine.execIqCaptureTrigger dt s
  | .iqCaptureComplete dt blocks => Sys2Proof.Machine.execIqCaptureComplete dt blocks s
  | .frameCaptureComplete dt => Sys2Proof.Machine.execFrameCaptureComplete dt s
  | .captureAreaReturn dt => Sys2Proof.Machine.execCaptureAreaReturn dt s
  | .uplinkFrame dt facet upset => Sys2Proof.Machine.execUplinkFrame dt facet upset s
  | .joinQueueFrame dt => Sys2Proof.Machine.execJoinQueueFrame dt s
  | .ackTurnaroundExpiry dt id => Sys2Proof.Machine.execAckTurnaroundExpiry dt id s
  | .ackWindowExpiry dt node => Sys2Proof.Machine.execAckWindowExpiry dt node s
  | .copyHoldExpiry dt facet => Sys2Proof.Machine.execCopyHoldExpiry dt facet s
  | .downlinkPlan dt slot => Sys2Proof.Machine.execDownlinkPlan dt slot s
  | .keyDerivationDone dt engine => Sys2Proof.Machine.execKeyDerivationDone dt engine s
  | .keyWaitExpiry dt facet => Sys2Proof.Machine.execKeyWaitExpiry dt facet s
  | .txLeaseExtensionRecorded dt node => Sys2Proof.Machine.execTxLeaseExtensionRecorded dt node s
  | .checkpoint dt => Sys2Proof.Machine.execCheckpoint dt s
  | .checkpointWritten dt => Sys2Proof.Machine.execCheckpointWritten dt s
  | .nodeRecordRestoreDone dt node twin => Sys2Proof.Machine.execNodeRecordRestoreDone dt node twin s
  | .driftAgeSweep dt facet => Sys2Proof.Machine.execDriftAgeSweep dt facet s
  | .nvmeCommandComplete dt port id status => Sys2Proof.Machine.execNvmeCommandComplete dt port id status s
  | .nvmeIoTimeout dt port id => Sys2Proof.Machine.execNvmeIoTimeout dt port id s
  | .nvmeAbortTimeout dt port id => Sys2Proof.Machine.execNvmeAbortTimeout dt port id s
  | .driveLinkTimeout dt port => Sys2Proof.Machine.execDriveLinkTimeout dt port s
  | .driveInserted dt port info => Sys2Proof.Machine.execDriveInserted dt port info s
  | .smartPoll dt port readOnly worn => Sys2Proof.Machine.execSmartPoll dt port readOnly worn s
  | .nvmeAsyncEvent dt port readOnly worn => Sys2Proof.Machine.execNvmeAsyncEvent dt port readOnly worn s
  | .rebuildStripe dt => Sys2Proof.Machine.execRebuildStripe dt s
  | .rebuildComplete dt => Sys2Proof.Machine.execRebuildComplete dt s
  | .storeFormatDone dt => Sys2Proof.Machine.execStoreFormatDone dt s
  | .regUpdateDone dt readBack => Sys2Proof.Machine.execRegUpdateDone dt readBack s
  | .dumpReadDone dt ok => Sys2Proof.Machine.execDumpReadDone dt ok s
  | .bistRunDone dt failed restored => Sys2Proof.Machine.execBistRunDone dt failed restored s
  | .journalRecord dt => Sys2Proof.Machine.execJournalRecord dt s
  | .journalBlockClose dt => Sys2Proof.Machine.execJournalBlockClose dt s
  | .deferredFrameArrival dt port => Sys2Proof.Machine.execDeferredFrameArrival dt port s
  | .prefetchStart dt node => Sys2Proof.Machine.execPrefetchStart dt node s
  | .prefetchComplete dt node => Sys2Proof.Machine.execPrefetchComplete dt node s
  | .prefetchDeadline dt node => Sys2Proof.Machine.execPrefetchDeadline dt node s
  | .heldDrainRelease dt => Sys2Proof.Machine.execHeldDrainRelease dt s
  | .linkFrameReceived dt link frame => Sys2Proof.Machine.execLinkFrameReceived dt link frame s
  | .linkFrameResend dt link => Sys2Proof.Machine.execLinkFrameResend dt link s
  | .chordLockLoss dt link => Sys2Proof.Machine.execChordLockLoss dt link s
  | .helloSend dt => Sys2Proof.Machine.execHelloSend dt s
  | .helloReceived dt link hops src compat epoch body => Sys2Proof.Machine.execHelloReceived dt link hops src compat epoch body s
  | .leaseSend dt => Sys2Proof.Machine.execLeaseSend dt s
  | .leaseReceived dt link src compat epoch body => Sys2Proof.Machine.execLeaseReceived dt link src compat epoch body s
  | .leaseAckReceived dt src compat epoch body => Sys2Proof.Machine.execLeaseAckReceived dt src compat epoch body s
  | .leaseAckTimeout dt => Sys2Proof.Machine.execLeaseAckTimeout dt s
  | .leaseExpiry dt => Sys2Proof.Machine.execLeaseExpiry dt s
  | .twinStartupWait dt => Sys2Proof.Machine.execTwinStartupWait dt s
  | .isolationHoldExpiry dt => Sys2Proof.Machine.execIsolationHoldExpiry dt s
  | .handoverInstant dt => Sys2Proof.Machine.execHandoverInstant dt s
  | .handoffReceived dt src compat epoch body => Sys2Proof.Machine.execHandoffReceived dt src compat epoch body s
  | .handoffTimeout dt => Sys2Proof.Machine.execHandoffTimeout dt s
  | .replNodeReceived dt src compat epoch seq body => Sys2Proof.Machine.execReplNodeReceived dt src compat epoch seq body s
  | .replConfirmReceived dt src compat epoch body => Sys2Proof.Machine.execReplConfirmReceived dt src compat epoch body s
  | .replConfirmTimeout dt => Sys2Proof.Machine.execReplConfirmTimeout dt s
  | .replDdqReceived dt src compat epoch seq body => Sys2Proof.Machine.execReplDdqReceived dt src compat epoch seq body s
  | .jrnlMirrorReceived dt src compat epoch seq body => Sys2Proof.Machine.execJrnlMirrorReceived dt src compat epoch seq body s
  | .replKeyReceived dt src compat epoch seq body => Sys2Proof.Machine.execReplKeyReceived dt src compat epoch seq body s
  | .resyncMessageReceived dt src compat epoch body => Sys2Proof.Machine.execResyncMessageReceived dt src compat epoch body s
  | .bulkResyncComplete dt => Sys2Proof.Machine.execBulkResyncComplete dt s
  | .healthSend dt => Sys2Proof.Machine.execHealthSend dt s
  | .healthReceived dt src compat epoch body => Sys2Proof.Machine.execHealthReceived dt src compat epoch body s
  | .healthGap dt => Sys2Proof.Machine.execHealthGap dt s
  | .revertHoldExpiry dt => Sys2Proof.Machine.execRevertHoldExpiry dt s
  | .frameMessageReceived dt src compat body => Sys2Proof.Machine.execFrameMessageReceived dt src compat body s
  | .memberUnreachable dt member => Sys2Proof.Machine.execMemberUnreachable dt member s
  | .selftestStep dt locus pct passed => Sys2Proof.Machine.execSelftestStep dt locus pct passed s
  | .scrubPass dt word uncorrectable locus addr => Sys2Proof.Machine.execScrubPass dt word uncorrectable locus addr s
  | .keySlotSweep dt faulty => Sys2Proof.Machine.execKeySlotSweep dt faulty s
  | .tamperDeclaration dt sensor live => Sys2Proof.Machine.execTamperDeclaration dt sensor live s
  | .keyCtxTimeout dt ctx => Sys2Proof.Machine.execKeyCtxTimeout dt ctx s
  | .authNonceExpiry dt => Sys2Proof.Machine.execAuthNonceExpiry dt s
  | .engineSegmentEnd dt engine => Sys2Proof.Machine.execEngineSegmentEnd dt engine s
  | .urH0LinkTimeout dt => Sys2Proof.Machine.execUrH0LinkTimeout dt s
  | .migrationBoundary dt => Sys2Proof.Machine.execMigrationBoundary dt s
  | .modeTransitionComplete dt => Sys2Proof.Machine.execModeTransitionComplete dt s
  | .blockCommitComplete dt off => Sys2Proof.Machine.execBlockCommitComplete dt off s
  | .sectorUngate dt sector => Sys2Proof.Machine.execSectorUngate dt sector s
  | .rxWindowClose dt sector => Sys2Proof.Machine.execRxWindowClose dt sector s
  | .journalBackfill dt => Sys2Proof.Machine.execJournalBackfill dt s
  | .tapOperation dt op => Sys2Proof.Machine.execTapOperation dt op s
  | .controllerReadyTimeout dt port => Sys2Proof.Machine.execControllerReadyTimeout dt port s
  | .controllerFatalStatus dt port => Sys2Proof.Machine.execControllerFatalStatus dt port s

end Sys2Proof.Machine
end

