-- ==== Sys2Proof/Safety.lean ====
section
/-!
DEFINITION. What claims about a run are stated in: outcomes that go on, runs, and the forward order of the life cycle.
-/
namespace Sys2Proof.Machine

/-- A step goes on. -/
def goesOn : Host.Outcome State Fault Refusal → Bool
  | .next _ => true
  | .fault _ => false
  | .refused _ => false

/-- The state reached by a list of commands, each sent when the one before has been carried out. -/
def runCommands : List Instr → State → Host.Outcome State Fault Refusal
  | [], s => .next s
  | c :: r, s =>
    match step { s with pending := [c] } with
    | .next t => runCommands r t
    | .fault f => .fault f
    | .refused f => .refused f

/-- How far along its life a part is (Table 2.1): the life-cycle state moves only to a larger code (R31). -/
def lifeRank (s : State) : Nat := s.mode.lifecycle.code

/-- The part has been in at least the life-cycle stage `k`. -/
def lifeReached (k : Nat) (s : State) : Prop := k ≤ lifeRank s

/-! ### What a mailbox command does -/

/-- The opcode, the modes and the length rule of each mailbox command (R468, Tables 18.1 to 18.13), with its entry. -/
def mailOp : Instr → Option (Op × Entry)
  | .sysIdentify e => some (opRead 0x0101 0, e)
  | .sysStatus e => some (opRead 0x0102 0, e)
  | .sysModeSet e => some (opAll 0x0103 8, e)
  | .sysLifecycleSet e => some ({ code := 0x0104, modes := modesCS, len := lenIs 288, read := false }, e)
  | .sysModeParamSet e => some (opGset 0x0105, e)
  | .sysModeParamGet e => some (opGget 0x0106, e)
  | .sysBackhaulReport e => some (opAll 0x0107 16, e)
  | .sysConfigCommit e => some ({ code := 0x0108, modes := modesAll, len := commitLen true, read := false }, e)
  | .sysConfigDiscard e => some ({ code := 0x0109, modes := modesAll, len := commitLen false, read := false }, e)
  | .sysEventRoute e => some (opAll 0x010A 8, e)
  | .sysJobStatus e => some (opRead 0x010B 4, e)
  | .sysFwStage e => some ({ code := 0x010C, modes := modesCS, len := fwStageLen, read := false }, e)
  | .sysFwVerify e => some ({ code := 0x010D, modes := modesCS, len := lenIs 0, read := false }, e)
  | .sysFwActivate e => some ({ code := 0x010E, modes := modesSvc, len := lenIs 8, read := false }, e)
  | .sysFwStatus e => some (opRead 0x010F 0, e)
  | .sysCompatProfileLoad e => some ({ code := 0x0110, modes := modesCfg, len := lenIs 16, read := false }, e)
  | .sysCompatMigrate e => some ({ code := 0x0111, modes := fun s _ => decide (s.mode.mode = .activeC), len := lenIs 8, read := false }, e)
  | .portCfgSet e => some (opGset 0x0201, e)
  | .portCfgGet e => some (opGget 0x0202, e)
  | .portStatus e => some (opRead 0x0203 2, e)
  | .portCountersGet e => some (opRead 0x0204 8, e)
  | .portSerdesSet e => some (opGset 0x0205, e)
  | .portSerdesGet e => some (opGget 0x0206, e)
  | .swBufferSet e => some (opGset 0x0207, e)
  | .swBufferGet e => some (opGget 0x0208, e)
  | .swQosSet e => some (opGset 0x0209, e)
  | .swQosGet e => some (opGget 0x020A, e)
  | .swMirrorSet e => some (opGset 0x020B, e)
  | .swMirrorGet e => some (opGget 0x020C, e)
  | .swQueueFlush e => some ({ code := 0x020D, modes := modesFwdSB, len := lenIs 4, read := false }, e)
  | .swPrpSet e => some (opGset 0x020E, e)
  | .swPrpGet e => some (opGget 0x020F, e)
  | .swQueueStatus e => some (opRead 0x0210 3, e)
  | .swCountersGet e => some (opRead 0x0211 8, e)
  | .portHostTx e => some ({ code := 0x0212, modes := modesFwd, len := fun r => decide (r ≠ []) && (txList r).isSome, read := false }, e)
  | .portHostRxSet e => some (opAll 0x0213 14, e)
  | .portHostRxRelease e => some (opAll 0x0214 4, e)
  | .clsStageSet e => some (opGset 0x0301, e)
  | .clsStageGet e => some (opGget 0x0302, e)
  | .clsEntryWrite e => some ({ code := 0x0303, modes := modesOf stageGroup, len := lenIs 104, read := false }, e)
  | .clsEntryRead e => some (opRead 0x0304 88, e)
  | .clsEntryDelete e => some ({ code := 0x0305, modes := modesOf stageGroup, len := lenIs 88, read := false }, e)
  | .clsEntryBulk e => some ({ code := 0x0306, modes := modesOf stageGroup, len := fun r => decide (4 ≤ r.length) && decide ((r.length - 4) % 104 = 0), read := false }, e)
  | .clsMeterSet e => some ({ code := 0x0307, modes := modesOf (fun _ => 0x0606), len := spanLen 24, read := false }, e)
  | .clsMeterGet e => some (opRead 0x0308 8, e)
  | .clsParserSet e => some (opGset 0x0309, e)
  | .clsParserGet e => some (opGget 0x030A, e)
  | .clsCounterGet e => some (opRead 0x030B 7, e)
  | .clsStatsGet e => some (opRead 0x030C 8, e)
  | .clsPolicerSet e => some ({ code := 0x031C, modes := modesOf (fun _ => 0x0607), len := spanLen 8, read := false }, e)
  | .clsPolicerGet e => some (opRead 0x031D 8, e)
  | .fwdParamSet e => some (opGset 0x0310, e)
  | .fwdParamGet e => some (opGget 0x0311, e)
  | .fwdEntryWrite e => some ({ code := 0x0312, modes := modesOf tableGroup, len := lenIs 32, read := false }, e)
  | .fwdEntryRead e => some ({ code := 0x0313, modes := modesAll, len := tableKeyLen, read := true }, e)
  | .fwdEntryDelete e => some ({ code := 0x0314, modes := modesOf tableGroup, len := tableKeyLen, read := false }, e)
  | .fwdEntryBulk e => some ({ code := 0x0315, modes := modesOf tableGroup, len := fun r => decide (8 ≤ r.length) && decide ((r.length - 8) % 24 = 0), read := false }, e)
  | .fwdNexthopSet e => some ({ code := 0x0316, modes := modesOf (fun _ => 0x0702), len := spanLen 16, read := false }, e)
  | .fwdNexthopGet e => some (opRead 0x0317 9, e)
  | .fwdVlanSet e => some ({ code := 0x0318, modes := modesOf (fun _ => 0x0701), len := lenIs 24, read := false }, e)
  | .fwdVlanGet e => some ({ code := 0x0319, modes := modesAll, len := fun r => lenIs 2 r || lenIs 24 r, read := true }, e)
  | .fwdL2Flush e => some (opAll 0x031A 4, e)
  | .fwdCountersGet e => some (opRead 0x031B 8, e)
  | .meshTimingSet e => some (opGset 0x0401, e)
  | .meshTimingGet e => some (opGget 0x0402, e)
  | .meshTemplateSet e => some (opGset 0x0403, e)
  | .meshTemplateGet e => some (opGget 0x0404, e)
  | .meshScheduleSet e => some ({ code := 0x0405, modes := modesOf (fun _ => 0x0820), len := scheduleLen, read := false }, e)
  | .meshScheduleGet e => some ({ code := 0x0406, modes := modesAll, len := scheduleGetLen, read := true }, e)
  | .meshDriftParamSet e => some (opGset 0x0407, e)
  | .meshDriftParamGet e => some (opGget 0x0408, e)
  | .meshNodeDriftGet e => some (opRead 0x0409 4, e)
  | .meshNodeDriftReset e => some (opAll 0x040A 4, e)
  | .meshNodeSyncSet e => some (opAll 0x040B 5, e)
  | .meshMacCountersGet e => some (opRead 0x040C 8, e)
  | .meshNodeAdd e => some (opAll 0x0410 20, e)
  | .meshNodeGet e => some (opRead 0x0411 4, e)
  | .meshPartitionGet e => some (opRead 0x0412 1, e)
  | .meshNodeStateSet e => some (opAll 0x0413 5, e)
  | .meshNodeRekey e => some (opAll 0x0414 5, e)
  | .meshNodeKeyExport e => some (opAll 0x0415 8, e)
  | .meshSecuritySet e => some (opGset 0x0416, e)
  | .meshSecurityGet e => some (opGget 0x0417, e)
  | .meshSecCountersGet e => some (opRead 0x0418 8, e)
  | .meshNodeRemove e => some (opAll 0x0419 4, e)
  | .meshNodeRestore e => some (opAll 0x041A 4, e)
  | .meshPartitionSet e => some ({ code := 0x041B, modes := modesOf (fun _ => 0x0824), len := fun r => decide (4 ≤ r.length) && r.length == 4 + fld r 2 2, read := false }, e)
  | .meshAddrBulk e => some ({ code := 0x041C, modes := modesAll, len := fun r => decide (8 ≤ r.length) && r.length == 8 + 2 * fld r 4 4, read := false }, e)
  | .meshGxLqSet e => some (opGset 0x0420, e)
  | .meshGxLqGet e => some (opGget 0x0421, e)
  | .radioSectorSet e => some (opGset 0x0501, e)
  | .radioSectorGet e => some (opGget 0x0502, e)
  | .radioFrontendSet e => some (opGset 0x0503, e)
  | .radioFrontendGet e => some (opGget 0x0504, e)
  | .radioCalWrite e => some ({ code := 0x0505, modes := modesOf (fun r => 0x0920 + byteAt r 0), len := fun r => decide (8 ≤ r.length) && r.length == 8 + 8 * fld r 4 2, read := false }, e)
  | .radioCalRead e => some (opRead 0x0506 6, e)
  | .radioRegRead e => some (opRead 0x0508 0, e)
  | .radioRegWrite e => some ({ code := 0x0509, modes := modesCfg, len := regLen 280, read := false }, e)
  | .radioRegUpdate e => some ({ code := 0x050A, modes := modesCS, len := regLen 97, read := false }, e)
  | .radioTxCountersGet e => some (opRead 0x050B 8, e)
  | .radioDutyStatus e => some (opRead 0x050C 0, e)
  | .radioRxSet e => some (opGset 0x050D, e)
  | .radioRxGet e => some (opGget 0x050E, e)
  | .radioDetectorSet e => some ({ code := 0x050F, modes := modesOf (fun r => 0x0940 + byteAt r 0), len := fun r => decide (6 ≤ r.length) && r.length == 6 + 8 * fld r 4 2, read := false }, e)
  | .radioDetectorGet e => some (opRead 0x0510 6, e)
  | .radioRxCountersGet e => some (opRead 0x0511 8, e)
  | .radioIqCapture e => some ({ code := 0x0512, modes := modesIq, len := lenIs 26, read := false }, e)
  | .radioIqRead e => some ({ code := 0x0513, modes := modesIq, len := lenIs 8, read := true }, e)
  | .keySlotInfo e => some (opAll 0x0601 2, e)
  | .keyGenerate e => some (opAll 0x0602 8, e)
  | .keyImportPlain e => some (opLen 0x0603 (lenToken 40), e)
  | .keyImportWrapped e => some (opAll 0x0604 64, e)
  | .keyExportWrapped e => some (opAll 0x0605 4, e)
  | .keyDerive e => some (opLen 0x0606 (fun r => decide (12 ≤ r.length) && decide (r.length = 12 + byteAt r 9 + byteAt r 10)), e)
  | .keyErase e => some (opAll 0x0607 2, e)
  | .keyCtxOpen e => some (opAll 0x0608 24, e)
  | .keyCtxUpdate e => some (opLen 0x0609 (fun r => decide (4 ≤ r.length)), e)
  | .keyCtxFinal e => some (opLen 0x060A (fun r => decide (4 ≤ r.length)), e)
  | .keyCtxClose e => some (opAll 0x060B 1, e)
  | .keyAuthNonce e => some (opAll 0x060C 0, e)
  | .keyAuthoritySet e => some (opLen 0x060D (lenToken 105), e)
  | .keyTamperCfgSet e => some (opLen 0x060E (lenToken 8), e)
  | .keyTamperStatus e => some ({ opAll 0x060F 1 with read := true }, e)
  | .keyPerimeterGet e => some (opRead 0x0610 0, e)
  | .keyDebugUnlock e => some (opAll 0x0611 288, e)
  | .timeGet e => some (opRead 0x0701 0, e)
  | .timeServoSet e => some (opAll 0x0702 4, e)
  | .timeServoGet e => some ({ opRead 0x0703 0 with len := fun r => lenIs 0 r || lenIs 4 r }, e)
  | .timePtpPortSet e => some (opAll 0x0704 3, e)
  | .timePtpPortGet e => some ({ opRead 0x0705 1 with len := fun r => lenIs 1 r || lenIs 3 r }, e)
  | .timeCountersGet e => some (opRead 0x0706 8, e)
  | .clusterSet e => some (opGset 0x0801, e)
  | .clusterGet e => some (opGget 0x0802, e)
  | .twinStatus e => some (opRead 0x0803 0, e)
  | .clusterStatus e => some (opRead 0x0804 0, e)
  | .twinResync e => some ({ code := 0x0805, modes := modesSB, len := lenIs 0, read := false }, e)
  | .chordCountersGet e => some (opRead 0x0806 8, e)
  | .twinHealthGet e => some (opRead 0x0807 0, e)
  | .storeStatus e => some (opRead 0x0901 0, e)
  | .storeFormat e => some ({ code := 0x0902, modes := modesCfg, len := lenIs 2, read := false }, e)
  | .storeDriveAdd e => some ({ code := 0x0903, modes := modesDriveAdd, len := lenIs 2, read := false }, e)
  | .storeDriveRetire e => some (opAll 0x0904 1, e)
  | .storeParamSet e => some (opGset 0x0905, e)
  | .storeParamGet e => some (opGget 0x0906, e)
  | .storeDdqGet e => some (opRead 0x0907 4, e)
  | .storeDdqFlush e => some (opAll 0x0908 4, e)
  | .storeImagePut e => some ({ code := 0x0910, modes := modesAll, len := imagePutLen, read := false }, e)
  | .storeImageList e => some (opRead 0x0911 0, e)
  | .storeImageDelete e => some (opAll 0x0912 1, e)
  | .storeCampaignStart e => some ({ code := 0x0913, modes := modesAll, len := fun r => decide (12 ≤ r.length) && r.length == 12 + 4 * fld r 8 2, read := false }, e)
  | .storeCampaignStatus e => some (opRead 0x0914 1, e)
  | .storeCampaignStop e => some (opAll 0x0915 1, e)
  | .storeJournalRead e => some (opRead 0x0920 18, e)
  | .storeHistoryRead e => some (opRead 0x0921 4, e)
  | .storeCountersGet e => some (opRead 0x0930 8, e)
  | .diagHealthGet e => some (opRead 0x0A01 0, e)
  | .diagHealthResolve e => some (opAll 0x0A02 6, e)
  | .diagBistRun e _ => some ({ code := 0x0A03, modes := modesSB, len := fun r => decide (2 ≤ r.length) && r.length == 2 + 4 * fld r 0 2, read := false }, e)
  | .diagLatticeStatus e => some (opRead 0x0A04 4, e)
  | .diagParamSet e => some (opGset 0x0A05, e)
  | .diagParamGet e => some (opGget 0x0A06, e)
  | .diagDumpList e => some (opRead 0x0A07 0, e)
  | .diagDumpRead e => some (opAll 0x0A08 20, e)
  | .diagDumpErase e => some (opAll 0x0A09 1, e)
  | .diagRepairGet e => some (opRead 0x0A0A 0, e)
  | .diagEccCountersGet e => some (opRead 0x0A0B 8, e)
  | .diagDumpForce e => some (opAll 0x0A0C 0, e)
  | .diagFrameCapture e => some (opAll 0x0A0D 8, e)
  | .diagFrameRead e => some (opRead 0x0A0E 6, e)
  | _ => none

/-- A new command is taken from its queue: it is the queue's turn, its sequence number is the next one, its entry breaks
no rule of R59, its request can be read and its reply written. -/
def Taken (e : Entry) (s : State) : Prop :=
  e.queue < 16 ∧ served s e.queue = true ∧ e.seq = (queueOf s e.queue).seqNext ∧ entryFault e = none
    ∧ readFailed e = false ∧ e.writeOk = true

/-- The command is taken up, and the mode, the life cycle, the compatibility window and its length accept it (R59, R66,
R467, R506). -/
def CmdRuns (c : Instr) (s : State) : Prop :=
  match mailOp c with
  | some (op, e) => Taken e s ∧ accepted op e.req s = true ∧ op.len e.req = true
  | none => False

/-- The newest reply of the queue's cache is that of the command: its status, DETAIL, reply length and the first 512
bytes of its reply (R66, R67). -/
def Answered (e : Entry) (st : Status) (detail : Nat) (reply : List Byte) (t : State) : Prop :=
  (queueOf t e.queue).cache.head?.map (fun r => (r.seq, r.status, r.detail, r.replyLen, r.body))
    = some (e.seq, st, detail, reply.length, reply.take 512)

/-- From `s` to `t` nothing changes but what completing a command of queue `q` changes: the queue, the host ports, the
turns of service, the outputs and UR_IRQ_STATUS. Every other register, table, memory and counter is as before. -/
def AnswersOnly (q : Nat) (s t : State) : Prop :=
  t = { s with host := { s.host with h0 := t.host.h0, h1 := t.host.h1, queues := t.host.queues, lastServed := t.host.lastServed },
               out := t.out, compat := { s.compat with irqStatus := t.compat.irqStatus } }
    ∧ ∀ q', q' ≠ q → queueOf t q' = queueOf s q'

/-- The state in which the meaning of a command taken up runs: fetched, and its sequence number consumed. -/
def started (e : Entry) (s : State) : State :=
  modQueue e.queue (fun x => { x with seqNext := x.seqNext + 1 }) (fetchEntry e.queue (begin 0 s))

/-- The command completes at once with a status, DETAIL and reply, and what it leaves is `u`, but for its answer. -/
def Completes (c : Instr) (e : Entry) (s : State) (st : Status) (detail : Nat) (reply : List Byte) (u : State) : Prop :=
  ∃ t, exec c s = .next t ∧ Answered e st detail reply t ∧ AnswersOnly e.queue (framed false s u) t

/-- The command completes OK with a reply, and what it leaves is `u`, but for its answer. -/
def Does (c : Instr) (e : Entry) (s : State) (reply : List Byte) (u : State) : Prop := Completes c e s .ok 0 reply u

/-- The command starts what it asks for, and completes later (R33): what it leaves is `u`. -/
def Begins (c : Instr) (s : State) (u : State) : Prop := exec c s = .next (framed false s u)

/-- `dt` ticks after `s` the event occurs, and leaves `u`. -/
def Occurs (c : Instr) (dt : Nat) (s : State) (u : State) : Prop := exec c s = .next (framed false (begin dt s) u)

/-- The command starts a job: it is ACCEPTED with the job's handle, and the job stands last among those running, with the
command's queue, opcode and request. -/
def StartsJob (c : Instr) (code : Nat) (e : Entry) (s t : State) : Prop :=
  exec c s = .next t ∧ Answered e .accepted 0 (leBytes 4 s.jobs.next) t
    ∧ ∃ j, t.jobs.running = s.jobs.running ++ [j] ∧ j.handle = s.jobs.next ∧ j.queue = e.queue ∧ j.opcode = code ∧ j.req = e.req
        ∧ j.done = false

/-! ### Messages of the cluster -/

/-- A message of `src` is in order with this chip: the same firmware level, no later epoch, and nothing noted against the
sender (R419, R420). -/
def Calm (src compat epoch : Nat) (s : State) : Prop :=
  src ≠ memberId s ∧ compat = s.fw.runCompat.toNat ∧ epoch ≤ s.cfg.epoch.toNat ∧ (memberOf s src).compatBad = false ∧ (memberOf s src).behind = 0

/-- A message of the twin reaches a chip that runs as a twin. -/
def TwinHeard (src compat epoch : Nat) (s : State) : Prop :=
  chordRuns s = true ∧ twinEnabled s = true ∧ src = twinId s ∧ Calm src compat epoch s

/-! ### UR-340 commands -/

/-- The opcode of a UR command, its parameter bytes, its entry, and whether it is answered after migration and in
DECOMMISSIONED (Table 19.6, R32). -/
def urOf : Instr → Option (Nat × Nat × UrEntry × Bool × Bool)
  | .urGetVersion u => some (0x01, 0, u, true, true)
  | .urGetStatus u => some (0x02, 0, u, true, true)
  | .urSetState u => some (0x03, 1, u, false, false)
  | .urClearStats u => some (0x04, 0, u, false, false)
  | .urPortSet u => some (0x10, 6, u, false, false)
  | .urPortGet u => some (0x11, 1, u, false, false)
  | .urPortStats u => some (0x12, 1, u, false, false)
  | .urL2Add u => some (0x20, 9, u, false, false)
  | .urL2Del u => some (0x21, 8, u, false, false)
  | .urL2Flush u => some (0x22, 3, u, false, false)
  | .urL2Age u => some (0x23, 2, u, false, false)
  | .urMeshCfg u => some (0x30, 14, u, false, false)
  | .urLinkAdd u => some (0x31, 8, u, false, false)
  | .urLinkDel u => some (0x32, 4, u, false, false)
  | .urSlotframeSet u => some (0x33, 4, u, false, false)
  | .urNodeAdd u => some (0x40, 17, u, false, false)
  | .urNodeDel u => some (0x41, 2, u, false, false)
  | .urNodeGet u => some (0x42, 2, u, false, false)
  | .urNodeRekey u => some (0x43, 2, u, false, false)
  | .urNodeBlock u => some (0x44, 3, u, false, false)
  | .urKeySet u => some (0x50, 33, u, false, false)
  | .urTimeGet u => some (0x60, 0, u, true, false)
  | .urTimeSet u => some (0x61, 10, u, false, false)
  | .urTwinCfg u => some (0x70, 2, u, false, false)
  | .urTwinSwitch u => some (0x71, 0, u, false, false)
  | _ => none

/-- The UR ring is served, and migration, the life cycle and the command's length accept it (R32, R492, R494, R505). -/
def UrRuns (c : Instr) (s : State) : Prop :=
  match urOf c with
  | some (_, n, u, migrated, last) =>
    served s 16 = true ∧ u.paramLen.toNat = n ∧ u.param.length = n ∧ (s.compat.migrated = true → migrated = true)
      ∧ (s.mode.lifecycle = .decommissioned → last = true)
  | none => False

/-- The command as the Apex takes it. -/
def urTaken (c : Instr) : Cmd := match urOf c with | some (code, _, u, _, _) => urCmdOf code u | none => urCmdOf 0 { tag := 0, paramLen := 0, param := [] }

/-- The state in which the meaning of a UR command runs: its entry is fetched. -/
def urStarted (c : Instr) (s : State) : State := urFetch (urTaken c) (begin 0 s)

/-- The response of a command taken up in `s` is written at UR_RSP_TAIL: its opcode, tag, code, the time and the data (Table 19.4),
and the ring counts move on. -/
def UrAnswered (k : Cmd) (st : Status) (data : List Byte) (s t : State) : Prop :=
  Output.hostWrite .h0 (s.compat.rspBase.toNat + 64 * (s.compat.rspTail.toNat % urRingSize s)) (urResponseBytes t k st.urCode data) ∈ t.out
    ∧ t.compat.cmdHead = s.compat.cmdHead + 1 ∧ t.compat.rspTail = s.compat.rspTail + 1 ∧ t.compat.inFlight = none

/-- From `s` to `t` nothing changes but what answering a UR command changes. -/
def UrOnly (s t : State) : Prop :=
  t = { s with out := t.out, host := { s.host with lastServed := t.host.lastServed },
               compat := { s.compat with cmdHead := t.compat.cmdHead, rspTail := t.compat.rspTail, inFlight := t.compat.inFlight, irqStatus := t.compat.irqStatus } }

/-- The command answers OK with data, and changes nothing but its rings. -/
def UrReads (c : Instr) (s : State) (data : List Byte) : Prop :=
  ∃ t, exec c s = .next t ∧ UrAnswered (urTaken c) .ok data s t ∧ UrOnly s t

/-- The fields are staged under the owner of the UR interface. -/
def urStaged (c : Instr) (fields : List (Nat × Nat × Nat × Int)) (s : State) : State :=
  fields.foldl (fun s f => stageField 16 f.1 f.2.1 f.2.2.1 f.2.2.2 s) (urStarted c s)

/-- The groups of the fields can be committed at once: no other owner stages them, none waits for a merge, the mode allows them,
and every check of theirs passes (R23, R330, R496). -/
def UrMayCommit (c : Instr) (fields : List (Nat × Nat × Nat × Int)) (s : State) : Prop :=
  let names := (fields.map (·.1)).eraseDups
  let w := urStaged c fields s
  names.all (fun g => (lockedBy s 16 g).isNone) = true ∧ (s.mode.mode = .service → names.any epochBearing = false)
    ∧ s.sw.commitWait = [] ∧ (s.sw.shadow = true → names.any forwardingGroup = false) ∧ names.all (stageable w) = true
    ∧ (s.mode.mode = .config ∨ names.any (changesConfigOnly w) = false) ∧ refusedBy (postCommit names w).1 w (postCommit names w).2 names = none

/-- What is live after the fields were committed. -/
def urLive (c : Instr) (fields : List (Nat × Nat × Nat × Int)) (s : State) : State :=
  goLive ((fields.map (·.1)).eraseDups) none (urStaged c fields s)

/-- The command commits the fields in one step and answers OK with data. -/
def UrCommits (c : Instr) (fields : List (Nat × Nat × Nat × Int)) (s : State) (data : List Byte) : Prop :=
  UrMayCommit c fields s → exec c s = .next (framed false s (urRespond (urTaken c) Status.ok.urCode data (urLive c fields s)))

end Sys2Proof.Machine
end

