-- ==== Sys2Proof/Certificates/Slice0/Obligations.lean ====
section
/-!
DEFINITION. Statements for the provers, chapter by chapter.
-/

section

open Sys2Proof Sys2Proof.Machine

/-! ### The block -/

/-- A step takes the command at the front of the queue and runs it on the state with the queue's rest. -/
def Obligations.StepRunsFront : Prop :=
  ∀ (c : Instr) (s : State) (rest : List Instr),
    step { s with pending := c :: rest } = exec c { s with pending := rest }

/-- With no command waiting one CLK_TIME tick passes, and nothing else changes (the model's choice, log 1): C and Arc
count it while CLK_TIME runs (R356, R373), and the outputs of the step before are gone. -/
def Obligations.EmptyQueueLetsATickPass : Prop :=
  ∀ s : State, s.pending = [] →
    step s = .next { s with now := s.now + 1, out := [],
                            time := if alive s && !s.time.mer.gated then clockAdvance 1 s.time else s.time }

/-- Whatever a command does, the queue of waiting commands, the fused and strapped values (R2, R526) and, but for
SYS_LIFECYCLE_SET, the life-cycle state (R31) stay as they are, and the instant does not go back.
What the spec leaves open here is the model's choice: log 83. -/
def Obligations.EveryCommandsFrame : Prop :=
  ∀ (c : Instr) (s t : State), exec c s = .next t →
    t.pending = s.pending ∧ t.fuses = s.fuses ∧ s.now ≤ t.now
      ∧ ((∃ e, c = .sysLifecycleSet e) ∨ t.mode.lifecycle = s.mode.lifecycle)

/-- R31: the life-cycle state never goes back: a part that has reached a stage of Table 2.1 has reached it after every
step. -/
def Obligations.LifeCycleNeverGoesBack : Prop :=
  ∀ (k : Nat) (s t : State), lifeReached k s → step s = .next t → lifeReached k t

/-- Right after reset: BOOT, no transition, no configuration staged or live, epoch 0, every mailbox queue disabled and
unowned, every event ring disabled, no counter counted, no command waiting.
What the spec leaves open here is the model's choice: log 2, log 3 and log 55. -/
def Obligations.ResetLeavesBoot : Prop :=
  State.reset.mode.mode = .boot ∧ State.reset.mode.trans = none ∧ State.reset.mode.origin = none
    ∧ State.reset.cfg.epoch = 0 ∧ State.reset.cfg.staged = [] ∧ State.reset.pending = []
    ∧ (∀ q, (queueOf State.reset q).qstate = .disabled ∧ (queueOf State.reset q).owner = none
        ∧ (queueOf State.reset q).seqNext = 0 ∧ (queueOf State.reset q).cache = [])
    ∧ (∀ n, (ringOf State.reset n).enable = false ∧ (ringOf State.reset n).prod = 0 ∧ (ringOf State.reset n).hold = [])
    ∧ (∀ t i n, ctrGet State.reset t i n = 0) ∧ (∀ a, eventByte State.reset a = 0)

/-! ### The mailbox protocol -/

/-- R66: a sequence number whose reply is in the queue's cache is answered from the cache and not executed: through the
owning port the completion carries the sequence number, the first status and DETAIL, and REPLAYED = 1; the cache, SEQ_NEXT
and everything but the queue, the host ports and the outputs stay.

R66: a sequence number that is neither the next one nor one of the cached 64 before it is completed SEQ_ERROR,
executes nothing and leaves SEQ_NEXT and the cache. -/
def Obligations.SequenceNumbers : Prop :=
  (
  ∀ (c : Instr) (op : Op) (e : Entry) (s : State) (r : CachedReply) (p : HostPort),
    mailOp c = some (op, e) → e.queue < 16 → served s e.queue = true → e.writeOk = true →
    seqClass (queueOf s e.queue) e.seq = .duplicate r →
    (queueOf s e.queue).owner = some p → (queueOf s e.queue).losing = false → (portOf s p).linkUp = true →
    ∃ t, exec c s = .next t ∧ AnswersOnly e.queue s t
      ∧ (queueOf t e.queue).cache = (queueOf s e.queue).cache
      ∧ (queueOf t e.queue).seqNext = (queueOf s e.queue).seqNext
      ∧ (queueOf t e.queue).sqHead = (queueOf s e.queue).sqHead + 1
      ∧ (queueOf t e.queue).cqTail = (queueOf s e.queue).cqTail + 1
      ∧ ∃ b, .hostWrite p ((queueOf s e.queue).cqBase.toNat + 64 * ((queueOf s e.queue).cqTail.toNat % 256)) b ∈ t.out
          ∧ fld b 2 2 = e.seq.toNat ∧ fld b 4 2 = r.status.code ∧ bit (byteAt b 7) 1 = true
  )
  ∧ (
  ∀ (c : Instr) (op : Op) (e : Entry) (s : State) (p : HostPort),
    mailOp c = some (op, e) → e.queue < 16 → served s e.queue = true →
    seqClass (queueOf s e.queue) e.seq = .outside →
    (queueOf s e.queue).owner = some p → (queueOf s e.queue).losing = false → (portOf s p).linkUp = true →
    ∃ t, exec c s = .next t ∧ AnswersOnly e.queue s t
      ∧ (queueOf t e.queue).cache = (queueOf s e.queue).cache
      ∧ (queueOf t e.queue).seqNext = (queueOf s e.queue).seqNext
      ∧ ∃ b, .hostWrite p ((queueOf s e.queue).cqBase.toNat + 64 * ((queueOf s e.queue).cqTail.toNat % 256)) b ∈ t.out
          ∧ fld b 2 2 = e.seq.toNat ∧ fld b 4 2 = Status.seqError.code ∧ bit (byteAt b 7) 1 = false
  )

/-- The checks of a new command in their order (R59, R63, R467, R506): an entry that breaks a rule of R59, a request that
cannot be read, a mode that does not accept the command, a wrong length. Each is completed with its status and nothing is
executed: only the queue, the host ports and the outputs change, and the sequence number is consumed. -/
def Obligations.RefusedCommandsChangeNothing : Prop :=
  ∀ (c : Instr) (op : Op) (e : Entry) (s : State),
    mailOp c = some (op, e) → e.queue < 16 → served s e.queue = true → e.seq = (queueOf s e.queue).seqNext → e.writeOk = true →
    ∀ (st : Status) (d : Nat),
      ((entryFault e = some (st, d))
        ∨ (entryFault e = none ∧ readFailed e = true ∧ st = .dmaError ∧ d = 1)
        ∨ (entryFault e = none ∧ readFailed e = false ∧ accepted op e.req s = false ∧ st = .modeRefused ∧ d = 0)
        ∨ (entryFault e = none ∧ readFailed e = false ∧ accepted op e.req s = true ∧ op.len e.req = false ∧ st = .lenError ∧ d = 0)) →
      ∃ t, exec c s = .next t ∧ Answered e st d [] t ∧ AnswersOnly e.queue s t
        ∧ (queueOf t e.queue).seqNext = (queueOf s e.queue).seqNext + 1

/-- R64, R73: while it is not its queue's turn, or the mailboxes do not run, a command is not fetched: nothing changes.

R64: the queue that the Apex serves next is ready, and no ready queue has a higher PRIO; a UR-340 ring counts as queue
16 with PRIO 0b10 (R492).
What the spec leaves open here is the model's choice: log 58. -/
def Obligations.ServiceOrder : Prop :=
  (
  ∀ (c : Instr) (op : Op) (e : Entry) (s : State), mailOp c = some (op, e) → served s e.queue = false →
    exec c s = .next { s with out := [] }
  )
  ∧ (
  ∀ (s : State) (q : Nat), nextServed s = some q →
    q ≤ 16 ∧ ready s q = true ∧ ∀ q', q' ≤ 16 → ready s q' = true → prioOf s q' ≤ prioOf s q
  )

/-- R58, R60: a completion of at most 32 reply bytes that falls due while the owning port's link is up is written at the
tail of the completion ring, CQ_TAIL counts it and IN_FLIGHT counts it off, and where the command set FLAGS.IRQ and the
queue IRQ_EN its vector's message follows.
What the spec leaves open here is the model's choice: log 7 and log 58. -/
def Obligations.CompletionIsWritten : Prop :=
  ∀ (s : State) (q : Nat) (c : Completion) (p : HostPort),
    (queueOf s q).owner = some p → (queueOf s q).losing = false → (portOf s p).linkUp = true → c.replyLen ≤ 32 →
    viaWindow s q = false →
    let x := queueOf s q
    let t := deliverCompletion q c s
    queueOf t q = { x with cqTail := x.cqTail + 1, inFlight := x.inFlight - 1 }
      ∧ (msixCapable s p = true → msixMasked (portOf s p) x.vector.toNat = false →
          t.out = s.out ++ [.hostWrite p (x.cqBase.toNat + 64 * (x.cqTail.toNat % 256)) (completionBytes x c c.status c.detail false)]
            ++ (if c.irq && x.irqEn then [.msix p x.vector.toNat] else []))

/-- R70: an event of severity `sev` raised while its ring is enabled, has room and holds none back is written at
64 × (PROD mod 4096) of the ring, PROD then counts it, and every other byte of the event ring memory stays. -/
def Obligations.EventIsWrittenAtProd : Prop :=
  ∀ (s : State) (sev code : Nat) (locus : W32) (body : List Byte) (n : Nat),
    s.mode.mode.mailboxes = true → routeOf s code = n → (ringOf s n).enable = true → ringFull (ringOf s n) = false →
    (ringOf s n).hold = [] →
    let t := raiseAt sev code locus body s
    let a := 0x40000 * n + 64 * ((ringOf s n).prod.toNat % 4096)
    (ringOf t n).prod = (ringOf s n).prod + 1
      ∧ (∀ b, b < a ∨ a + 64 ≤ b → eventByte t b = eventByte s b)
      ∧ (code < 2 ^ 16 → eventByte t a = BitVec.ofNat 8 code ∧ eventByte t (a + 1) = BitVec.ofNat 8 (code / 256))
      ∧ (∀ i, i < 40 → eventByte t (a + 24 + i) = (padTo 40 body).getD i 0)

/-! ### Commit groups, counters and plain reads -/

/-- R471: the commands that read a commit group answer with the group, the number of its records, the length of the further
data, the records in row order with their live values (VIEW = 0) or staged values (VIEW = 1), and the further data; a read
changes nothing.
What the spec leaves open here is the model's choice: log 10 and log 20. -/
def Obligations.GroupReadsAnswer : Prop :=
  ∀ p ∈ ([(.sysModeParamGet, isModeGroup, noData), (.portCfgGet, groupIn 0x0200 0x0241, noData), (.portSerdesGet, serdesGroup, noData),
      (.swBufferGet, (· == 0x0500), noData), (.swQosGet, groupIn 0x0400 0x0451, noData), (.swMirrorGet, (· == 0x0501), noData),
      (.swPrpGet, (· == 0x0502), prpData), (.clsStageGet, groupIn 0x0600 0x0605, noData), (.clsParserGet, (· == 0x0608), noData),
      (.fwdParamGet, (· == 0x0700), slowFacets), (.meshTimingGet, (· == 0x0800), timingData), (.meshTemplateGet, groupIn 0x0810 0x0817, noData),
      (.meshDriftParamGet, (· == 0x0821), noData), (.meshSecurityGet, (· == 0x0822), checkpointData), (.meshGxLqGet, (· == 0x0823), noData),
      (.radioSectorGet, groupIn 0x0900 0x0907, noData), (.radioFrontendGet, groupIn 0x0910 0x0917, noData),
      (.radioRxGet, groupIn 0x0930 0x0937, noData), (.clusterGet, (· == 0x0B00), noData), (.storeParamGet, isStoreGroup, noData),
      (.diagParamGet, (· == 0x0C00), noData)] : List ((Entry → Instr) × (Nat → Bool) × (State → List Byte))),
    ∀ (e : Entry) (s : State) (x : GroupSpec), CmdRuns (p.1 e) s → groupSpec (reqGroup e.req) = some x → p.2.1 (reqGroup e.req) = true →
      byteAt e.req 2 ≤ 1 →
      let x' := { x with fields := gFields (reqGroup e.req) x }
      Does (p.1 e) e s
        (leBytes 2 (reqGroup e.req) ++ leBytes 2 (recordCount x') ++ leBytes 2 (p.2.2 s).length ++ zeros 2
          ++ groupRecords x' (fun row idx => if byteAt e.req 2 = 0 then cfgGet s (reqGroup e.req) row idx else cfgStaged s (reqGroup e.req) row idx)
          ++ p.2.2 s) s

/-- R22, R24, R470: the commands that set a commit group stage the records of a well-formed request, the last record of a
field deciding, and the staged copy belongs to the queue; live values, other groups and everything else stay. A copy that
another queue owns is CFG_LOCKED with that queue's number.
What the spec leaves open here is the model's choice: log 10 and log 41. -/
def Obligations.GroupSetsStage : Prop :=
  ∀ p ∈ ([(.sysModeParamSet, isModeGroup), (.portCfgSet, groupIn 0x0200 0x0241), (.portSerdesSet, serdesGroup), (.swBufferSet, (· == 0x0500)),
      (.swQosSet, groupIn 0x0400 0x0451), (.swMirrorSet, (· == 0x0501)), (.swPrpSet, (· == 0x0502)), (.clsParserSet, (· == 0x0608)),
      (.fwdParamSet, (· == 0x0700)), (.meshTimingSet, (· == 0x0800)), (.meshTemplateSet, groupIn 0x0810 0x0817),
      (.meshDriftParamSet, (· == 0x0821)), (.meshSecuritySet, (· == 0x0822)), (.meshGxLqSet, (· == 0x0823)),
      (.radioSectorSet, groupIn 0x0900 0x0907), (.radioFrontendSet, groupIn 0x0910 0x0917), (.radioRxSet, groupIn 0x0930 0x0937),
      (.clusterSet, (· == 0x0B00)), (.storeParamSet, isStoreGroup), (.diagParamSet, (· == 0x0C00))] : List ((Entry → Instr) × (Nat → Bool))),
    ∀ (e : Entry) (s : State) (x : GroupSpec) (recs : List FieldRecord), CmdRuns (p.1 e) s → groupSpec (reqGroup e.req) = some x →
      p.2 (reqGroup e.req) = true → parseRecords e.req (fld e.req 2 2) 8 = some recs → recs.all (recordOk (gFields (reqGroup e.req) x)) = true →
      (∀ o, lockedBy s e.queue (reqGroup e.req) = some o → Completes (p.1 e) e s .cfgLocked o [] s)
        ∧ (lockedBy s e.queue (reqGroup e.req) = none →
            ∃ t, exec (p.1 e) s = .next t ∧ Answered e .ok 0 [] t
              ∧ AnswersOnly e.queue { s with cfg := { s.cfg with staged := t.cfg.staged, owner := t.cfg.owner } } t
              ∧ (recs ≠ [] → stagedBy t (reqGroup e.req) = some e.queue)
              ∧ (∀ pre r post, recs = pre ++ r :: post →
                  (∀ r' ∈ post, cfgKey (reqGroup e.req) r'.field r'.index ≠ cfgKey (reqGroup e.req) r.field r.index) →
                  cfgStaged t (reqGroup e.req) r.field r.index = recordValue x.fields r)
              ∧ (∀ g row idx, (∀ r ∈ recs, cfgKey (reqGroup e.req) r.field r.index ≠ cfgKey g row idx) →
                  cfgStaged t g row idx = cfgStaged s g row idx))

/-- R473: the commands that read counters answer with the counters asked for, in their numbers' order and at their width;
with CLEAR those counters read 0 afterwards. Every other counter, and everything else, stays. -/
def Obligations.CounterReadsAnswer : Prop :=
  ∀ p ∈ ([(.clsStatsGet, (decide <| · < 4), .pipe, id, 22), (.fwdCountersGet, (· == 0xFFFF), .fwd, fun _ => 0, 27),
      (.meshMacCountersGet, (· == 0xFFFF), .mac, fun _ => 0, 21), (.meshSecCountersGet, (· == 0xFFFF), .sec, fun _ => 0, 15),
      (.radioTxCountersGet, (decide <| · < 8), .tx, id, 15), (.chordCountersGet, (decide <| · < 12), .chord, id, 29),
      (.chordCountersGet, (· == 0xFFFF), .chip, fun _ => 0, 7), (.storeCountersGet, (· == 0xFFFF), .store, fun _ => 0, 9),
      (.diagEccCountersGet, (· == 0xFFFF), .ecc, fun _ => 0, 25)] : List ((Entry → Instr) × (Nat → Bool) × CtrTable × (Nat → Nat) × Nat)),
    ∀ (e : Entry) (s : State), CmdRuns (p.1 e) s →
      let r := ctrReq e.req
      let n := p.2.2.2.2
      let count := if r.count = 0 then n - r.first else r.count
      let inst := p.2.2.2.1 r.inst
      p.2.1 r.inst = true → r.first < n → r.first + count ≤ n → (r.clear = true → (if p.2.2.1.wide then 8 else 4) * count ≤ 512) →
      ∃ t, exec (p.1 e) s = .next t ∧ Answered e .ok 0 (ctrBytes s p.2.2.1 inst r.first count) t
        ∧ AnswersOnly e.queue { s with ctr := t.ctr } t
        ∧ (∀ i, r.first ≤ i → i < r.first + count → ctrGet t p.2.2.1 inst i = if r.clear then 0 else ctrGet s p.2.2.1 inst i)
        ∧ (∀ tb j i, (∀ k, r.first ≤ k → k < r.first + count → ctrKey tb j i ≠ ctrKey p.2.2.1 inst k) → ctrGet t tb j i = ctrGet s tb j i)

/-- The commands that read without a parameter answer with the layout of their tables and change nothing.
What the spec leaves open here is the model's choice: log 6, log 15, log 20, log 25, log 45 and log 47. -/
def Obligations.PlainReadsAnswer : Prop :=
  ∀ p ∈ ([(.sysIdentify, identifyBytes), (.sysStatus, sysStatusBytes),
      (.sysFwStatus, fun s => s.fw.inForce.line ++ s.fw.previous.line ++ s.fw.staged.line ++ zeros 8), (.radioRegRead, regReadBytes),
      (.radioDutyStatus, dutyBytes), (.timeGet, timeGetBytes), (.twinStatus, twinStatusBytes),
      (.clusterStatus, fun s => ((List.range 16).map (memberBytes s)).flatten), (.twinHealthGet, fun s => s.chord.twin.health),
      (.storeStatus, storeStatus), (.storeImageList, imageListBytes),
      (.diagDumpList, fun s => (dumpOf s 0).bytes ++ (dumpOf s 1).bytes ++ fatalBytes s.integ.lastFatal), (.diagRepairGet, repairBytes),
      (.timeServoGet, fun s => leBytes 1 (b2n s.time.mer.ownerFw) ++ zeros 1 ++ leBytes 2 s.time.mer.holdTimeout)]
      : List ((Entry → Instr) × (State → List Byte))),
    ∀ (e : Entry) (s : State), CmdRuns (p.1 e) s → Does (p.1 e) e s (p.2 s) s

/-! ### System commands -/

/-- The system commands that carry out their effect at once: SYS_JOB_STATUS answers with the record of a running or kept job
(R474); SYS_EVENT_ROUTE sends the named event code, or with 0xFFFF every code, to the ring named (R70); SYS_BACKHAUL_REPORT
notes every port of its map reachable (R41); SYS_CONFIG_DISCARD discards the staged copies of the groups named, or with no
group those of its queue (R24, R472); SYS_FW_STAGE appends its bytes to the staged set (R476).
What the spec leaves open here is the model's choice: log 63. -/
def Obligations.SystemCommandsAct : Prop :=
  ∀ (e : Entry) (s : State),
    (∀ j, CmdRuns (.sysJobStatus e) s → (s.jobs.running ++ s.jobs.completed).find? (fun x => decide (x.handle = fld e.req 0 4)) = some j →
      Does (.sysJobStatus e) e s (jobBytes j) s)
    ∧ (CmdRuns (.sysEventRoute e) s → (fld e.req 0 2 = 0xFFFF ∨ fld e.req 0 2 ∈ eventCodes) → byteAt e.req 2 ≤ 3 →
      ∃ t, exec (.sysEventRoute e) s = .next t ∧ Answered e .ok 0 [] t
        ∧ AnswersOnly e.queue { s with host := { s.host with routes := t.host.routes } } t
        ∧ ∀ k, routeOf t k = if (fld e.req 0 2 = 0xFFFF ∧ k ∈ eventCodes) ∨ k = fld e.req 0 2 ∧ k ∈ eventCodes then byteAt e.req 2 else routeOf s k)
    ∧ (CmdRuns (.sysBackhaulReport e) s →
      Does (.sysBackhaulReport e) e s [] ((bitList 0x42 (fld e.req 0 16)).foldl reportPort (started e s)))
    ∧ (∀ names, CmdRuns (.sysConfigDiscard e) s → groupsOf (cmdOf 0x0109 e) s = .ok names →
      let held := names.filter (fun g => (stagedBy s g).isSome)
      ∃ t, exec (.sysConfigDiscard e) s = .next t ∧ Answered e .ok 0 (commitReply s held.length 0xFFFF) t
        ∧ AnswersOnly e.queue { s with cfg := { s.cfg with staged := t.cfg.staged, owner := t.cfg.owner } } t
        ∧ (∀ g, g ∈ held → stagedBy t g = none ∧ ∀ row idx, keyGroup (cfgKey g row idx) = g → cfgStaged t g row idx = cfgGet s g row idx)
        ∧ (∀ g, g ∉ held → stagedBy t g = stagedBy s g))
    ∧ (CmdRuns (.sysFwStage e) s → arrayUp s = true →
      let staged := if bit (byteAt e.req 4) 0 then { FwSet.none with state := .loading } else s.fw.staged
      fld e.req 0 4 = staged.bytes.length → staged.state = .loading → fld e.req 0 4 + (e.req.drop 8).length ≤ 8388608 →
      ∃ t, exec (.sysFwStage e) s = .next t ∧ Answered e .ok 0 [] t
        ∧ t.fw = { s.fw with staged := { staged with bytes := staged.bytes ++ e.req.drop 8,
                                                     state := if bit (byteAt e.req 4) 1 then .loaded else .loading } })
    ∧ (CmdRuns (.sysCompatProfileLoad e) s → fld e.req 0 2 = 0x0402 →
      let on := bit (byteAt e.req 2) 0
      let vendor := BitVec.ofNat 16 (fld e.req 4 2)
      let id := BitVec.ofNat 16 (fld e.req 6 2)
      Does (.sysCompatProfileLoad e) e s [] { started e s with
        compat := { s.compat with profile := on, subsysVendor := vendor, subsysId := id, saved := if arrayUp s then some (on, vendor, id) else s.compat.saved } })

/-- R23, R25, R472: SYS_CONFIG_COMMIT with every group its own queue's, no forwarding group waiting for a merge, and every
check passed makes the groups live together, with the epoch that EPOCH_SET names, or one higher for an epoch-bearing
group; a commit that must wait for a merge waits.
What the spec leaves open here is the model's choice: log 67 and log 68. -/
def Obligations.CommitGoesLive : Prop :=
  ∀ (e : Entry) (s : State) (names : List Nat), CmdRuns (.sysConfigCommit e) s → groupsOf (cmdOf 0x0108 e) s = .ok names →
    (s.mode.mode = .service → names.any epochBearing = false) →
    let held := names.filter (fun g => (stagedBy s g).isSome)
    let waits := !s.sw.commitWait.isEmpty || (s.sw.shadow && held.any forwardingGroup)
    (waits = true → Begins (.sysConfigCommit e) s
      { started e s with sw := { s.sw with commitWait := s.sw.commitWait ++ [cmdOf 0x0108 e] } })
    ∧ (waits = false → held.all (stageable (started e s)) = true →
        (s.mode.mode = .config ∨ held.any (changesConfigOnly (started e s)) = false) →
        ((s.mode.mode ≠ .activeC ∧ s.mode.mode ≠ .standbyC) ∨ keepsFixed (postCommit held (started e s)).2 = true) →
        refusedBy (postCommit held (started e s)).1 (started e s) (postCommit held (started e s)).2 held = none →
        (∀ v, epochReq e.req = some v → s.cfg.epoch.toNat < v ∧ held.any epochBearing = true) →
        Does (.sysConfigCommit e) e s (commitReply (goLive held (epochReq e.req) (started e s)) held.length 0xFFFF)
          (goLive held (epochReq e.req) (started e s)))

/-- R23: when the staged copy of a group becomes live, every field staged in it has its staged value, every other field of
any group its live value, and the group is no longer owned. -/
def Obligations.StagedBecomesLive : Prop :=
  ∀ (g : Nat) (s : State), Sparse.wf (fun _ => none) s.cfg.staged = true →
    stagedBy (makeLive g s) g = none
      ∧ (∀ row idx, row < 2 ^ 8 → g < 2 ^ 16 → cfgGet (makeLive g s) g row idx = cfgStaged s g row idx)
      ∧ (∀ g' row idx, row < 2 ^ 8 → g' < 2 ^ 16 → g' ≠ g → cfgGet (makeLive g s) g' row idx = cfgGet s g' row idx)

/-- The commands that begin something: SYS_MODE_SET the transition of the row that its mode and target name, with trigger
0x01 (R32, R33); SYS_FW_VERIFY a job (R476); SYS_FW_ACTIVATE a job, with the set named in force and, for an Apex image, the
Apex restarting (R49, R476); SYS_COMPAT_MIGRATE transition 11 (R508); SYS_LIFECYCLE_SET the new state and the chip's reset
(R31).
What the spec leaves open here is the model's choice: log 60 and log 63. -/
def Obligations.SystemCommandsBegin : Prop :=
  ∀ (e : Entry) (s : State),
    (∀ target row, CmdRuns (.sysModeSet e) s → modeOfCode (byteAt e.req 0) = some target → s.mode.trans = none →
      rowOf s target = some row → (bit (byteAt e.req 1) 0 = true → row = 8 ∨ row = 10 ∧ target = .activeC) →
      firstFalse 1 (preconditions (started e s) row target (bit (byteAt e.req 1) 0)) = none →
      Begins (.sysModeSet e) s (beginRow row target (bit (byteAt e.req 1) 0) (cmdOf 0x0103 e) (started e s))
        ∧ (row ≠ 8 → row ≠ 9 → row ≠ 10 → ∃ t, exec (.sysModeSet e) s = .next t
            ∧ t.mode = { s.mode with trans := some { row, fromMode := s.mode.mode, toMode := target, trigger := 0x01, wake := none,
                                                     cmd := some (cmdOf 0x0103 e), since := s.now, limit := rowLimit row } }))
    ∧ (CmdRuns (.sysFwVerify e) s → stagedWhole s = true → s.jobs.running.length < 16 →
      ∃ t, exec (.sysFwVerify e) s = .next t ∧ Answered e .accepted 0 (leBytes 4 s.jobs.next) t
        ∧ AnswersOnly e.queue { s with jobs := t.jobs } t
        ∧ t.jobs.running.map (fun j => (j.handle, j.opcode)) = s.jobs.running.map (fun j => (j.handle, j.opcode)) ++ [(s.jobs.next, 0x010D)])
    ∧ (let x := if byteAt e.req 0 = 1 then s.fw.previous else s.fw.staged
       CmdRuns (.sysFwActivate e) s → byteAt e.req 0 ≤ 1 → bit (byteAt e.req 1) 0 = true → x.state = .verified → x.apex = true →
       (bit (byteAt e.req 1) 1 = true → x.facet = true ∧ servingMode (datapath s) = false) → s.jobs.running.length < 16 →
       ∃ t, exec (.sysFwActivate e) s = .next t ∧ Answered e .accepted 0 (leBytes 4 s.jobs.next) t ∧ t.host.serving = false
         ∧ t.fw = { activateSet (byteAt e.req 0 == 1) s.fw with restart := some (leNat (leBytes 4 s.jobs.next), s.now) })
    ∧ (let x := if byteAt e.req 0 = 1 then s.fw.previous else s.fw.staged
       CmdRuns (.sysFwActivate e) s → byteAt e.req 0 ≤ 1 → bit (byteAt e.req 1) 0 = false → bit (byteAt e.req 1) 1 = true →
       x.state = .verified → x.facet = true → servingMode (datapath s) = false → s.jobs.running.length < 16 → s.mode.trans = none →
       ∃ t, exec (.sysFwActivate e) s = .next t ∧ t.fw = runInForce (activateSet (byteAt e.req 0 == 1) s.fw)
         ∧ t.mode.trans.map (fun x => (x.row, x.trigger)) = some (17, 0x0C))
    ∧ (CmdRuns (.sysCompatMigrate e) s → s.mode.trans = none → feature s 6 = true → commitBusy s = false →
       ownedGroups s 16 = [] → s.compat.inFlight = none →
       ∃ t, exec (.sysCompatMigrate e) s = .next t ∧ t.compat.migrating = some (bit (byteAt e.req 0) 0, slotAfter 2000 s)
         ∧ t.mode = { s.mode with trans := some { row := 11, fromMode := s.mode.mode, toMode := .activeN, trigger := 0x0B, wake := none,
                                                  cmd := some (cmdOf 0x0111 e), since := s.now, limit := rowLimit 11 } })
    ∧ (∀ target l, CmdRuns (.sysLifecycleSet e) s → lifeOfCode (byteAt e.req 0) = some target → arrow s.mode.lifecycle target = some l →
       tokenValid (started e s) 0x0104 l e.req = true →
       ∃ t, exec (.sysLifecycleSet e) s = .next t ∧ Answered e .ok 0 [] t ∧ t.mode.lifecycle = target
         ∧ t.keys.destroyedFor = target ∧ t.keys.nonce = none ∧ t.power.phase = .inReset .lifecycle ∧ t.power.resetOutN = false
         ∧ (s.mode.lifecycle = .provisioned → t.radio.regLocked = true))

/-- R467: an opcode that no table lists is completed BAD_OPCODE, in every mode, and nothing else changes. -/
def Obligations.UnlistedOpcodeIsBad : Prop :=
  ∀ (code : W16) (e : Entry) (s : State), Taken e s → listedOpcode code.toNat = false →
    Completes (.unlistedOpcode code e) e s .badOpcode 0 [] s

/-! ### Modes, reset and power -/

/-- R33, R34, R41, R47, R508: the events that move the mode. In each clause `b` is the state once the ticks before the event
have passed.
What the spec leaves open here is the model's choice: log 59, log 60, log 61 and log 62. -/
def Obligations.ModeEventsAct : Prop :=
  ∀ (dt : Nat) (s : State), let b := begin dt s
    alive b = true →
    (∀ x, b.mode.trans = some x → ripe x b = true → overdue x b = false →
      Occurs (.modeTransitionComplete dt) dt s (completeTransition x b))
    ∧ (((∃ x, b.mode.trans = some x ∧ overdue x b = true) ∨ restartOverdue b = true) →
      Occurs (.modeTimeout dt) dt s (fatal 3 0xFFFFFFFF b))
    ∧ (∀ persist slot x, b.compat.migrating = some (persist, slot) → b.mode.trans = some x → x.row = 11 → slotStart b slot ≤ meshTime b →
        overdue x b = false →
        let c := { b with compat := { b.compat with migrating := none, migrated := true } }
        Occurs (.migrationBoundary dt) dt s (completeTransition x (if persist then dropProfile c else c)))
    ∧ (lossDeclared b = true → b.mode.mode = .activeN → cfgBit b 0x0100 1 = true → b.mode.trans = none →
        ∃ t, exec (.backhaulLost dt) s = .next t ∧ t.mode.backhaulLost = true
          ∧ t.mode.trans = some { row := 12, fromMode := .activeN, toMode := .island, trigger := 0x04, wake := none, cmd := none,
                                  since := b.now, limit := rowLimit 12 })
    ∧ (restoreDeclared b = true → b.mode.mode = .island → b.mode.trans = none →
        ∃ t, exec (.backhaulRestored dt) s = .next t
          ∧ t.mode.trans = some { row := 13, fromMode := .island, toMode := .activeN, trigger := 0x05, wake := none, cmd := none,
                                  since := b.now, limit := rowLimit 13 })
    ∧ (∀ port, cfgBit b 0x0100 3 = true → probeFresh b port = false → portStopped b port = false →
        Occurs (.probeLapse dt port) dt s (noteBackhaul port (swPort b port).linkUp b))
    ∧ (∀ source, b.mode.mode = .quiescent → b.mode.trans = none → wakeHolds b source = true →
        (source = 0 ∨ source = 7 ∨ bit (cfgNat b 0x0101 3 0) source = true) →
        ∃ t, exec (.quiescentWake dt source) s = .next t ∧ t.host.serving = false
          ∧ t.mode.trans = some { row := 15, fromMode := .quiescent, toMode := b.mode.origin.getD .activeN, trigger := 0x06,
                                  wake := some source, cmd := none, since := b.now, limit := rowLimit 15 })
    ∧ (∀ cause locus, cause ∈ [1, 2, 5, 6, 7, 8] → b.mode.bootHalt = false →
        Occurs (.fatalError dt cause locus) dt s (fatal cause locus b))
    ∧ (∀ length at_ slot, b.mode.mode = .dump → b.integ.dumping = some (at_, slot) →
        ∃ t, exec (.dumpComplete dt length) s = .next t ∧ t.power.phase = .inReset .internal ∧ t.integ.dumping = none
          ∧ t.integ.lastFatal = b.integ.lastFatal.map (fun r => { r with state := 2 })
          ∧ (slot ≠ 0xFF → dumpOf t slot = { dumpOf b slot with state := 2, length }))
    ∧ (∀ at_ slot, b.mode.mode = .dump → b.integ.dumping = some (at_, slot) → 20 * secTicks ≤ since b at_ →
        Occurs (.dumpTimeout dt) dt s { b with power := { b.power with phase := .inReset .internal } })

/-- R34, R36, R50, R459: a fatal error in a mode from CONFIG on enters DUMP, without origin or transition, and the dump
begins; in DUMP the chip resets; in BOOT and SELFTEST one failed reset is counted, and the third halts the boot ROM.
What the spec leaves open here is the model's choice: log 14. -/
def Obligations.FatalErrorEntersDump : Prop :=
  ∀ (cause locus : Nat) (s : State),
    (s.mode.mode ≠ .off → s.mode.mode ≠ .boot → s.mode.mode ≠ .selftest → s.mode.mode ≠ .dump →
      (fatal cause locus s).mode.mode = .dump ∧ (fatal cause locus s).mode.origin = none ∧ (fatal cause locus s).mode.trans = none
        ∧ (fatal cause locus s).integ.fatalDue = true ∧ (fatal cause locus s).integ.dumping.map (·.1) = some s.now
        ∧ (fatal cause locus s).integ.lastFatal.map (fun r => (r.cause, r.locus)) = some (cause, locus))
    ∧ (s.mode.mode = .dump → fatal cause locus s = { s with power := { s.power with phase := .inReset .internal } })
    ∧ (s.mode.mode = .boot ∨ s.mode.mode = .selftest →
        (fatal cause locus s).mode.failedResets = s.mode.failedResets + 1
          ∧ (s.mode.failedResets < 2 → (fatal cause locus s).power.phase = .inReset .internal)
          ∧ (2 ≤ s.mode.failedResets → (fatal cause locus s).mode.bootHalt = true ∧ (fatal cause locus s).mode.mode = .boot))

/-- R511 to R517, R524, R536, R539: the supplies.
What the spec leaves open here is the model's choice: log 70. -/
def Obligations.PowerEventsAct : Prop :=
  ∀ (dt : Nat) (s : State), let b := begin dt s
    (∀ vbat r, b.power.vddIo = false →
      ∃ t, exec (.powerUp dt vbat r) s = .next t ∧ t.power.vddIo = true ∧ t.power.vbat = vbat ∧ t.power.vddCore = 750
        ∧ (r = .good → t.power.phase = .inReset .powerOn) ∧ (r = .noRef → t.power.phase = .waitRef)
        ∧ (r = .wrongIo → t.power.phase = .staysDown ∧ t.power.pwrFaultN = true))
    ∧ (b.power.phase = .waitRef →
      Occurs (.refClkArrival dt) dt s { b with power := { b.power with phase := .inReset .powerOn, ref := .locked } })
    ∧ (∀ vbat, b.power.vddIo = true →
      ∃ t, exec (.mainPowerLost dt vbat) s = .next t ∧ t.power.phase = .down ∧ t.power.vddIo = false ∧ t.power.resetOutN = false
        ∧ t.mode.mode = .off ∧ (vbat = false → t.time.mer.battery = none ∧ t.compat.profile = false ∧ t.integ.candidates = [] ∧ t.chord.twin.genHigh = 0))
    ∧ (powered b = true →
      (∃ t, exec (.pwrReqFall dt) s = .next t ∧ t.power.phase = .down ∧ t.power.resetOutN = false ∧ t.mode.mode = .off)
      ∧ (∀ rail, isConverter rail = false → ∃ t, exec (.railFault dt rail) s = .next t ∧ t.mode.mode = .off ∧ t.power.faults = recentFaults b
          ∧ (t.power.phase = if 3 ≤ (recentFaults b).length then .staysDown else .faultWait b.now))
      ∧ (∃ t, exec (.thermalShutdown dt) s = .next t ∧ t.mode.mode = .off ∧ t.power.faults = recentFaults b
          ∧ (t.power.phase = if 3 ≤ (recentFaults b).length then .staysDown else .faultWait b.now))
      ∧ (∀ hot, Occurs (.thermalAlert dt hot) dt s { b with power := { b.power with thermAlert := hot } })
      ∧ (∀ x, bit b.power.convOff (b2n x) = false →
          ∃ t, exec (.converterRailFault dt x) s = .next t ∧ t.power = { b.power with convOff := b.power.convOff + 2 ^ b2n x }
            ∧ (∀ k, k < 8 → t.integ.sectorsFailed.getLsbD k = (b.integ.sectorsFailed.getLsbD k || (decide (k / 4 = b2n x))))))
    ∧ (∀ t0 r, b.power.phase = .faultWait t0 → secTicks ≤ since b t0 → Occurs (.railFaultRestart dt r) dt s (bringUp r b))
    ∧ (∀ reads, Occurs (.pmbAlert dt reads) dt s (readRegulators reads b) ∧ Occurs (.railPoll dt reads) dt s (readRegulators reads b))
    ∧ (alive b = true →
      (∀ spare, b.power.vddCore < 850 → ∀ l, Occurs (.avsMonitorTick dt (some l) spare) dt s
          { b with power := { b.power with vddCore := min 850 (b.power.vddCore + 5) } })
      ∧ (650 < b.power.vddCore → Occurs (.avsMonitorTick dt none true) dt s
          { b with power := { b.power with vddCore := max 650 (b.power.vddCore - 5) } })
      ∧ (b.power.ref ≠ .lost → ∃ t, exec (.refClkLost dt) s = .next t ∧ t.power = { b.power with ref := .lost } ∧ t.time.mer.refLost = true
          ∧ holdover t.time.mer = true)
      ∧ (b.power.ref = .lost → Occurs (.refClkRelock dt) dt s { b with power := { b.power with ref := .slewing } })
      ∧ (b.power.ref = .slewing → ∃ t, exec (.relockSlewComplete dt) s = .next t ∧ t.power = { b.power with ref := .locked }
          ∧ t.time.mer.refLost = false))

/-- R36, R74, R449, R525: resets, the boot ROM and the power-up test.
What the spec leaves open here is the model's choice: log 4, log 9, log 50 and log 69. -/
def Obligations.ResetAndBootAct : Prop :=
  ∀ (dt : Nat) (s : State), let b := begin dt s
    (∀ ns acts, b.power.phase = .running → (1000 ≤ ns ∨ 100 ≤ ns ∧ acts = true) →
      Occurs (.pwronRst dt ns acts) dt s { b with power := { b.power with phase := .inReset .pwronRst, resetOutN := false } }
      ∧ (b.mode.bootHalt = false →
          Occurs (.sysRst dt ns acts) dt s { b with power := { b.power with phase := .inReset .sysRst, resetOutN := false } }))
    ∧ (∀ k, b.power.phase = .inReset k →
      ∃ t, exec (.resetRelease dt) s = .next t ∧ t.mode.mode = .boot ∧ t.mode.trans = none ∧ t.mode.lifecycle = s.mode.lifecycle
        ∧ t.mode.failedResets = (if reachesPorts k then 0 else b.mode.failedResets) ∧ t.mode.releasedAt = b.now
        ∧ t.power.phase = .running ∧ t.power.resetOutN = true ∧ t.cfg = CfgState.reset ∧ t.jobs = JobState.reset
        ∧ t.host.queues = [] ∧ t.host.rings = [] ∧ t.ctr = [] ∧ t.sw = SwState.reset ∧ t.mesh = MeshState.reset
        ∧ t.compat.inForce = b.compat.profile ∧ t.radio.regSlots = b.radio.regSlots)
    ∧ (alive b = true →
      (∀ table, bootRuns b = true → b.host.boot.hostPhase = false → since b b.mode.releasedAt ≤ 200 * msTicks →
        ∃ t, exec (.driveImageVerified dt table) s = .next t ∧ t.mode.mode = .selftest ∧ t.mode.enteredAt = b.now
          ∧ t.fw.runVersion = b.fw.inForce.version ∧ t.fw.runCompat = b.fw.inForce.compat ∧ t.power.drivesReleased = true ∧ t.keys.perim.lock = true)
      ∧ (bootRuns b = true → b.host.boot.hostPhase = false → 200 * msTicks ≤ since b b.mode.releasedAt → b.host.boot.doorbellHeld = false →
        ∃ t, exec (.driveImageTimeout dt) s = .next t ∧ t.mode.mode = .boot ∧ t.host.boot = { b.host.boot with hostPhase := true }
          ∧ t.power.drivesReleased = true)
      ∧ (∀ version compat table i, b.host.boot.verifying = some i → bootRuns b = true → since b i.since ≤ 200 * msTicks →
        ∃ t, exec (.hostImageVerified dt version compat table) s = .next t ∧ t.mode.mode = .selftest
          ∧ t.fw.runVersion = BitVec.ofNat 32 version ∧ t.fw.runCompat = BitVec.ofNat 16 compat)
      ∧ (∀ i, b.host.boot.verifying = some i → bootRuns b = true → 200 * msTicks ≤ since b i.since →
        Occurs (.hostImageTimeout dt) dt s { b with host := { b.host with boot := { b.host.boot with verifying := none } } })
      ∧ (bootRuns b = true → 60 * secTicks ≤ since b b.mode.releasedAt →
        Occurs (.bootImageDeadline dt) dt s { b with mode := { b.mode with bootHalt := true } })
      ∧ (∀ r, b.mode.mode = .selftest → since b b.mode.enteredAt ≤ 2500 * msTicks → r.digestOk = true →
        Occurs (.selftestComplete dt r) dt s (selftestDone r b))
      ∧ (b.mode.mode = .selftest → 2500 * msTicks ≤ since b b.mode.enteredAt → b.mode.failedResets < 2 →
        Occurs (.selftestTimeout dt) dt s
          { b with mode := { b.mode with failedResets := b.mode.failedResets + 1 }, power := { b.power with phase := .inReset .internal } })
      ∧ (∀ j img version compat apex facet, runningJob b 0x010D = some j →
        let ends := fun (st : Status) (t : State) => exec (.fwVerifyDone dt img version compat apex facet) s = .next t
          ∧ t.jobs.completed.head?.map (fun x => (x.handle, x.status)) = some (j.handle, st)
        (stagedWhole b = true → imgUsable b img = true →
          ∃ t, ends .ok t ∧ t.fw = { b.fw with staged := { b.fw.staged with version, compat, apex, facet, state := .verified } })
        ∧ (stagedWhole b = true → imgUsable b img = false → ∃ t, ends .authFail t ∧ t.fw = { b.fw with staged := { b.fw.staged with state := .loaded } })
        ∧ (stagedWhole b = false → ∃ t, ends .notFound t ∧ t.fw = b.fw))
      ∧ (∀ h t0, b.fw.restart = some (h, t0) → since b t0 ≤ 300 * msTicks →
        ∃ t, exec (.apexRestartComplete dt) s = .next t ∧ t.host.serving = true
          ∧ t.fw = { b.fw with runVersion := b.fw.inForce.version, runCompat := b.fw.inForce.compat, restart := none }))
    ∧ (b.power.vddIo = true →
      Occurs (.tapOperation dt .reset) dt s { b with power := { b.power with tap := .idcode } }
      ∧ (∀ i, Occurs (.tapOperation dt (.shiftInstr i)) dt s { b with power := { b.power with tap := i } })
      ∧ Occurs (.tapOperation dt .shiftData) dt s { b with out := b.out ++ [.tdo (if tapEffective b b.power.tap = .idcode then 0x2964054F else 0)] })
    ∧ (∀ op, b.power.vddIo = false → Occurs (.tapOperation dt op) dt s b)

/-! ### Host registers and host links -/

/-- R54, R55, R61, R62, R72: the registers of a mailbox queue, as its owner writes them, and a claim of an unowned queue. In
QUIESCENT a doorbell is also wake source 0x0 (R73). A write through another port is ignored and sets FOREIGN_WRITE.
What the spec leaves open here is the model's choice: log 58. -/
def Obligations.QueueRegistersAct : Prop :=
  ∀ (p : HostPort) (q : Nat) (v : W32) (s : State), mqAnswers s p q = true →
    let x := queueOf s q
    let w : W16 := v.setWidth 16
    (x.owner = some p →
      (∃ t, exec (.mqSqTailWrite p q v) s = .next t
        ∧ queueOf t q = (if x.qstate = .running ∧ (w - x.sqHead).toNat ≤ 256 then { x with sqTail := w } else { x with dbErr := true })
        ∧ (s.mode.mode = .quiescent → s.mode.trans = none → t.mode.trans.map (fun y => (y.row, y.wake)) = some (15, some 0))
        ∧ (s.mode.mode ≠ .quiescent → s.mode.trans = none → AnswersOnly q s t))
      ∧ (∃ t, exec (.mqCqHeadWrite p q v) s = .next t ∧ AnswersOnly q s t
        ∧ queueOf t q = (if x.qstate = .disabled ∨ (x.cqTail - w).toNat ≤ 256 then { x with cqHead := w } else { x with dbErr := true }))
      ∧ (v.getLsbD 31 = true → x.qstate = .disabled →
        ∃ t, exec (.mqCtrlEnable p q v) s = .next t ∧ AnswersOnly q s t
          ∧ queueOf t q = { x with enable := true, qstate := .running, sqHead := x.sqTail, cqTail := x.cqHead, prio := v.extractLsb' 24 2, vector := v.extractLsb' 16 5, irqEn := v.getLsbD 0 })
      ∧ (v.getLsbD 31 = false → x.qstate = .running ∨ x.qstate = .halted →
        ∃ t, exec (.mqCtrlDisable p q v) s = .next t
          ∧ queueOf t q = { x with enable := false, qstate := if x.qstate = .running then .draining else .disabled, vector := v.extractLsb' 16 5, irqEn := v.getLsbD 0 }
          ∧ ∀ n c, ctxOf t n = some c → c.queue ≠ q)
      ∧ (∃ t, exec (.mqSeqNextWrite p q v) s = .next t ∧ AnswersOnly q s t
        ∧ queueOf t q = (if x.qstate = .disabled then { x with seqNext := w, cache := [] } else x))
      ∧ (x.qstate = .disabled → ∃ t, exec (.mqRelease p q 0) s = .next t ∧ AnswersOnly q s t ∧ queueOf t q = { x with owner := none }))
    ∧ (x.owner = none → ∃ t, exec (.mqClaim p q 1) s = .next t ∧ AnswersOnly q s t ∧ queueOf t q = { x with owner := some p })
    ∧ (x.owner ≠ some p → ∀ c ∈ ([.mqCqHeadWrite p q v, .mqSeqNextWrite p q v, .mqRelease p q 0] : List Instr),
        ∃ t, exec c s = .next t ∧ AnswersOnly q s t ∧ queueOf t q = { x with foreignWrite := true })

/-- R55, R70, R71, R74: the registers of an event ring whose held events are none, and BOOT_DOORBELL.
What the spec leaves open here is the model's choice: log 9. -/
def Obligations.RingRegistersAct : Prop :=
  ∀ (p : HostPort) (n : Nat) (v : W32) (s : State),
    (evAnswers s p n = true → (ringOf s n).hold = [] →
      let r := ringOf s n
      (r.owner = some p → (r.prod - v).toNat ≤ 4096 →
        ∃ t, exec (.evConsWrite p n v) s = .next t ∧ ringOf t n = { r with cons := v } ∧ ∀ a, eventByte t a = eventByte s a)
      ∧ (r.owner = none → ringOwnerField v = portCode p →
        ∃ t, exec (.evCtrlClaim p n v) s = .next t
          ∧ ringOf t n = { r with owner := some p, enable := v.getLsbD 31, vector := v.extractLsb' 16 5, irqEn := v.getLsbD 0 })
      ∧ (r.owner = some p → ringOwnerField v = 0 → (r.enable = false ∨ v.getLsbD 31 = false) →
        ∃ t, exec (.evCtrlRelease p n v) s = .next t
          ∧ ringOf t n = { r with owner := none, enable := false, vector := v.extractLsb' 16 5, irqEn := v.getLsbD 0 })
      ∧ (r.owner = some p → ringOwnerField v ≠ 0 →
        ∃ t, exec (.evCtrlEnable p n v) s = .next t
          ∧ ringOf t n = { r with enable := v.getLsbD 31, vector := v.extractLsb' 16 5, irqEn := v.getLsbD 0 }))
    ∧ (alive s = true → nativeBar0 s .h0 = true → s.mode.mode = .boot → s.mode.bootHalt = false → s.host.boot.hostPhase = false →
        exec (.bootDoorbell .h0 1) s = .next { s with out := [], host := { s.host with boot := { s.host.boot with doorbellHeld := true } } })
    ∧ (alive s = true → nativeBar0 s .h0 = true → s.mode.mode = .boot → s.mode.bootHalt = false → s.host.boot.hostPhase = true →
        s.host.boot.verifying = none → 0 < s.host.boot.len.toNat → s.host.boot.len.toNat ≤ 0x00800000 →
        exec (.bootDoorbell .h0 1) s = .next { s with out := [], host := { s.host with boot := { s.host.boot with doorbellHeld := false, verifying := some { since := s.now, addr := s.host.boot.addr, len := s.host.boot.len } } } })

/-- R56, R63, R72, R525: transfers that fail, a link that goes down and returns, the loss of a port, and the end of a
queue's drain.
What the spec leaves open here is the model's choice: log 58. -/
def Obligations.HostLinkEventsAct : Prop :=
  ∀ (dt : Nat) (p : HostPort) (q : Nat) (s : State), let b := begin dt s
    alive b = true →
    (served b q = true → q < 16 →
      ∃ t, exec (.commandFetchFailed dt q none) s = .next t ∧ queueOf t q = { queueOf b q with fetchErr := true, qstate := .halted }
        ∧ ∀ n c, ctxOf t n = some c → c.queue ≠ q)
    ∧ (q < 16 → (queueOf b q).owner = some p → (portOf b p).linkUp = true → (queueOf b q).qstate = .running ∨ (queueOf b q).qstate = .draining →
      ∃ t, exec (.completionWriteFailed dt q) s = .next t ∧ queueOf t q = { queueOf b q with cqWriteErr := true, qstate := .halted }
        ∧ ∀ n c, ctxOf t n = some c → c.queue ≠ q)
    ∧ ((portOf b p).linkUp = true →
      (∃ t, exec (.hostLinkDown dt p) s = .next t ∧ t = { b with host := t.host }
        ∧ portOf t p = { portOf b p with linkUp := false, downAt := some b.now })
      ∧ (∃ t, exec (.perst dt p) s = .next t ∧ t = { b with host := t.host }
        ∧ portOf t p = { portOf b p with linkUp := false, downAt := some b.now, msixTable := [] }))
    ∧ ((portOf b p).linkUp = false → portFailed b (0x80 + portNum p) = false → (portOf b p).held = [] →
      ∃ t, exec (.hostLinkReturn dt p) s = .next t ∧ (portOf t p).linkUp = true ∧ (portOf t p).downAt = none ∧ (portOf t p).held = []
        ∧ ∀ q', queueOf t q' = queueOf b q')
    ∧ (∀ t0, (portOf b p).downAt = some t0 → 100 * msTicks < since b t0 →
      ∃ t, exec (.hostPortLossTimeout dt p) s = .next t ∧ (portOf t p).held = [] ∧ (portOf t p).downAt = none
        ∧ ∀ q', q' < 16 → (queueOf b q').owner = some p → (queueOf t q').enable = false
            ∧ ((queueOf b q').qstate = .running → (queueOf t q').qstate = .draining ∧ (queueOf t q').losing = true)
            ∧ ((queueOf b q').qstate = .halted ∨ (queueOf b q').qstate = .disabled → (queueOf t q').owner = none))
    ∧ (nativeBar0 b p = true →
      ∃ t, exec (.functionLevelReset dt p) s = .next t ∧ (portOf t p).held = []
        ∧ ∀ q', q' < 16 → (queueOf b q').owner = some p → (queueOf t q').enable = false
            ∧ ((queueOf b q').qstate = .running → (queueOf t q').qstate = .draining ∧ (queueOf t q').losing = true)
            ∧ ((queueOf b q').qstate = .halted ∨ (queueOf b q').qstate = .disabled → (queueOf t q').owner = none))
    ∧ (q < 16 → (queueOf b q).qstate = .draining → (queueOf b q).inFlight = 0 →
      ∃ t, exec (.queueDrainDone dt q) s = .next t ∧ AnswersOnly q b t
        ∧ queueOf t q = { queueOf b q with qstate := .disabled, losing := false, owner := if (queueOf b q).losing then none else (queueOf b q).owner })

/-- R491, R492, R505: the registers of the UR-340 interface, and H0 down for more than 100 ms.
What the spec leaves open here is the model's choice: log 65. -/
def Obligations.UrRegistersAct : Prop :=
  ∀ (v : W32) (s : State), alive s = true → urAnswers s = true →
    let put := fun (c : CompatState) => (.next { s with out := [], compat := c } : Host.Outcome State Fault Refusal)
    let c := s.compat
    (v.getLsbD 2 = false → exec (.urCtrlRun v) s = put { c with run := v.getLsbD 0, irqEn := v.getLsbD 1 })
    ∧ (v.getLsbD 2 = true → c.run = false →
        exec (.urRingReset v) s = put { c with run := v.getLsbD 0, irqEn := v.getLsbD 1, cmdTail := 0, cmdHead := 0, rspHead := 0, rspTail := 0, evtHead := 0, evtTail := 0 })
    ∧ exec (.urCmdTailWrite v) s = put { c with cmdTail := v.setWidth 16 }
    ∧ exec (.urRspHeadWrite v) s = put { c with rspHead := v.setWidth 16 }
    ∧ exec (.urEvtHeadWrite v) s = put { c with evtHead := v.setWidth 16 }
    ∧ exec (.extUnlock v) s = put { c with extOpen := c.extOpen || decide (v = 0x5348554D) }
    ∧ exec (.extFeaturesWrite v) s = put { c with features := if c.extOpen then c.features ||| v.setWidth 9 else c.features }
    ∧ (∀ dt t0, alive (begin dt s) = true → s.host.h0.downAt = some t0 → s.host.h0.linkUp = false → 100 * msTicks < since (begin dt s) t0 →
        Occurs (.urH0LinkTimeout dt) dt s { begin dt s with compat := { c with run := false } })

/-! ### Meridian, pulse outputs, capture pins and Arc -/

/-- R26, R358, R359, R370, R372, R374: a write of GO to the BLOCK_COMMIT of an idle block checks its staged set; with every
check passed the set becomes live at the tick of the write (the model's choice of that tick), and a write of DISCARD makes the
staged set the live one again.
What the spec leaves open here is the model's choice: log 56. -/
def Obligations.BlockCommitsAct : Prop :=
  ∀ (p : HostPort) (n : Nat) (s : State), alive s = true → nativeBar0 s p = true →
    (s.time.mer.ownerFw = false → s.time.mer.commit.busy = false →
      (firstFailing (merChecks s.time.mer) = none →
        ∃ t, exec (.merCommitGo p 0x80000000) s = .next t ∧ (t.time.mer.baseT : Int) = newBase s.time.mer ∧ t.time.mer.baseC = s.time.mer.c
          ∧ t.time.mer.rate = toSigned 40 s.time.mer.stRate.toNat ∧ t.time.mer.hold = s.time.mer.stHold ∧ t.time.mer.adjMode = 0
          ∧ t.time.mer.commit.busy = true)
      ∧ (∃ t, exec (.merCommitDiscard p 0x40000000) s = .next t ∧ t.time.mer.stRate = BitVec.ofInt 40 s.time.mer.rate
          ∧ t.time.mer.stHold = s.time.mer.hold ∧ t.time.mer.adjMode = 0 ∧ t.time.mer.adjNs = 0 ∧ t.time.mer.adjSec = 0
          ∧ t.time.mer.baseT = s.time.mer.baseT))
    ∧ (n < 8 → (toutOf s n).commit.busy = false → firstFailing (toutChecks s (toutOf s n).staged) = none →
        ∃ t, exec (.toutCommitGo p n 0x80000000) s = .next t ∧ (toutOf t n).live = (toutOf s n).staged ∧ (toutOf t n).commit.busy = true
          ∧ (toutMode (toutOf s n).staged = 1 → (toutOf t n).next = some (toutStart (toutOf s n).staged))
          ∧ (toutMode (toutOf s n).staged = 0 → (toutOf t n).next = none)
          ∧ ∀ k, k ≠ n → toutOf t k = toutOf s k)
    ∧ (n < 8 → (tinOf s n).commit.busy = false →
        ∃ t, exec (.tinCommitGo p n 0x80000000) s = .next t ∧ (tinOf t n).live = (tinOf s n).staged ∧ (tinOf t n).commit.busy = true
          ∧ ∀ k, k ≠ n → tinOf t k = tinOf s k)
    ∧ (n < 32 → s.time.arcReserved.getLsbD n = false → (arcOf s n).commit.busy = false → firstFailing (arcChecks (arcOf s n).staged) = none →
        ∃ t, exec (.arcCommitGo p n 0x80000000) s = .next t ∧ (arcOf t n).live = (arcOf s n).staged ∧ (arcOf t n).commit.busy = true
          ∧ (arcOf t n).armed = ((arcOf s n).armed && arcMode (arcOf s n).staged != 0) ∧ ∀ k, k ≠ n → arcOf t k = arcOf s k)
    ∧ (n < 8 → (toutOf s n).commit.busy = false →
        ∃ t, exec (.blockCommitDiscard p (0x0100 + 0x40 * n + 0x2C) 0x40000000) s = .next t ∧ (toutOf t n).staged = (toutOf s n).live
          ∧ (toutOf t n).live = (toutOf s n).live)
    ∧ (∃ t, exec (.blockCommitComplete 0 0x0040) s = .next t ∧ t.time.mer.commit.busy = false
        ∧ t = { s with out := [], time := { s.time with mer := { s.time.mer with commit := t.time.mer.commit } } })

/-- R369, R372, R373, R375, R377: pops and reads of captured times, and start, stop, compare and arm of the Arc channels.

R359, R367, R380: the time commands that set and read by port or count.
What the spec leaves open here is the model's choice: log 57 and log 65. -/
def Obligations.TimeAccessesAct : Prop :=
  (
  ∀ (p : HostPort) (n : Nat) (v : W32) (s : State), alive s = true → nativeBar0 s p = true →
    (n < 8 → s.time.mer.gated = false → ∃ t, exec (.tinCapPop p n) s = .next t ∧ (tinOf t n).fifo = (tinOf s n).fifo.drop 1)
    ∧ (n < 0x42 → s.time.mer.gated = false → (ptpOf s n).mode ≠ 3 → ∃ t, exec (.tsqPop p n) s = .next t ∧ (tsqOf t n).fifo = (tsqOf s n).fifo.drop 1)
    ∧ (n < 32 → s.time.mer.gated = false → ∃ t, exec (.arcCapRead p n) s = .next t ∧ (arcOf t n).capValid = false
        ∧ .regRead ((arcOf s n).cap.setWidth 32) ∈ t.out)
    ∧ (∃ t, exec (.arcStart p v) s = .next t
        ∧ (∀ k, k < 32 → v.getLsbD k = true → s.time.arcReserved.getLsbD k = false →
            (arcOf t k).running = true ∧ (arcOf t k).count = (arcOf s k).live.phase)
        ∧ (∀ k, k < 32 → v.getLsbD k = true → s.time.arcReserved.getLsbD k = true → arcOf t k = { arcOf s k with foreignWrite := true })
        ∧ (∀ k, v.getLsbD k = false → arcOf t k = arcOf s k))
    ∧ (∃ t, exec (.arcStop p v) s = .next t
        ∧ (∀ k, k < 32 → v.getLsbD k = true → s.time.arcReserved.getLsbD k = false → arcOf t k = { arcOf s k with running := false })
        ∧ (∀ k, v.getLsbD k = false → arcOf t k = arcOf s k))
    ∧ (n < 32 → s.time.arcReserved.getLsbD n = false →
        (∃ t, exec (.arcCmpHiWrite p n v) s = .next t ∧ (arcOf t n).cmp = ((v.setWidth 64 <<< 32) ||| (arcOf s n).cmpLo.setWidth 64))
        ∧ (∃ t, exec (.arcArm p n 1) s = .next t ∧ (arcOf t n).armed = true))
    ∧ (n < 32 → s.time.arcReserved.getLsbD n = true → ∀ c ∈ ([.arcCmpHiWrite p n v, .arcArm p n v, .arcCommitGo p n v] : List Instr),
        ∃ t, exec c s = .next t ∧ arcOf t n = { arcOf s n with foreignWrite := true })
  )
  ∧ (
  ∀ (e : Entry) (s : State),
    (CmdRuns (.timeServoSet e) s → byteAt e.req 0 ≤ 1 → 0 < fld e.req 2 2 → fld e.req 2 2 ≤ 600 →
      ∃ t, exec (.timeServoSet e) s = .next t ∧ Answered e .ok 0 [] t ∧ t.time.mer.holdTimeout = fld e.req 2 2
        ∧ t.time.mer.ownerSet = (byteAt e.req 0 == 1) ∧ t.time.mer.ownerFw = (byteAt e.req 0 == 1 || anyBoundary s.time))
    ∧ (CmdRuns (.timePtpPortSet e) s → byteAt e.req 0 ≤ 0x41 → byteAt e.req 1 ≤ 3 →
      ∃ t, exec (.timePtpPortSet e) s = .next t ∧ Answered e .ok 0 [] t
        ∧ ptpOf t (byteAt e.req 0) = { ptpOf s (byteAt e.req 0) with mode := byteAt e.req 1, domain := BitVec.ofNat 8 (byteAt e.req 2) }
        ∧ ∀ k, k ≠ byteAt e.req 0 → ptpOf t k = ptpOf s k)
    ∧ (CmdRuns (.timePtpPortGet e) s → byteAt e.req 0 ≤ 0x41 →
      let x := ptpOf s (byteAt e.req 0)
      Does (.timePtpPortGet e) e s (leBytes 1 (byteAt e.req 0) ++ leBytes 1 x.mode ++ leBytes 1 x.domain.toNat ++ leBytes 8 (ofSigned 64 x.peerDelay)) s)
    ∧ (let r := ctrReq e.req
       CmdRuns (.timeCountersGet e) s → r.inst = 0xFFFF → r.clear = false → r.count ≠ 0 → r.first + r.count ≤ 88 →
       Does (.timeCountersGet e) e s (((List.range r.count).map (fun i => leBytes 4 (timeCtrRead s (r.first + i)))).flatten) s)
  )

/-- R356 to R378: what time brings: edges of a pulse output, captures on a pin and an Arc channel, matches, the slow clock,
the battery-domain clock, the gating of CLK_TIME and the servo's timeout.
What the spec leaves open here is the model's choice: log 11. -/
def Obligations.TimeEventsAct : Prop :=
  ∀ (dt n : Nat) (rising : Bool) (s : State), let b := begin dt s
    alive b = true →
    (∀ e, n < 8 → (toutOf b n).pulseEnd = none → (toutOf b n).next = some e → e ≤ nowNs b →
      ∃ t, exec (.toutEdge dt n) s = .next t ∧ (toutOf t n).pulseEnd = some (b.time.mer.c.toNat + (toutOf b n).live.widthNs.toNat * 4 / 5))
    ∧ (∀ e, n < 8 → (toutOf b n).pulseEnd = some e → e ≤ b.time.mer.c.toNat →
      ∃ t, exec (.toutEdge dt n) s = .next t ∧ (toutOf t n).pulseEnd = none ∧ (toutOf t n).next = (toutOf b n).next)
    ∧ (n < 8 → b.time.mer.gated = false → edgeTaken (bits (tinOf b n).live.toNat 0 2) rising = true → (tinOf b n).fifo.length < 4 →
      ∃ t, exec (.tinEdgeCapture dt n rising) s = .next t
        ∧ (tinOf t n).fifo = (tinOf b n).fifo ++ [((merTimeAgo b.time.mer (bits (tinOf b n).live.toNat 2 8) / 65536).toNat, rising)])
    ∧ (b.time.mer.gated = false → ∀ k, k < 32 → arcMatches (arcOf b k) = true →
      ∃ t, exec (.arcMatch dt) s = .next t ∧ (arcOf t k).matched = true ∧ (arcOf t k).armed = (bits (arcOf b k).live.cfg.toNat 0 3 == 2))
    ∧ (n < 32 → b.time.mer.gated = false → bits (arcOf b n).live.capcfg.toNat 0 4 ≠ 0 → edgeTaken (bits (arcOf b n).live.capcfg.toNat 4 2) rising = true →
      ∃ t, exec (.arcCapture dt n rising) s = .next t ∧ (arcOf t n).edges = (arcOf b n).edges + 1
        ∧ (((arcOf b n).edges + 1) % (bits (arcOf b n).live.capcfg.toNat 14 8 + 1) = 0 → (arcOf t n).capValid = true))
    ∧ (b.time.mer.gated = false → ∀ ticks, Occurs (.slowClockCalibrated dt ticks) dt s
        { b with time := { b.time with mer := { b.time.mer with slowRatio := ticks * 512, slowCalValid := true } } })
    ∧ Occurs (.batteryClockWrite dt) dt s
        { b with time := { b.time with mer := { b.time.mer with battery := some (merTime b.time.mer * 32768 / secUnits, b.now) } } }
    ∧ (mayGate b = true → Occurs (.clkTimeGate dt) dt s { b with time := { b.time with mer := { b.time.mer with gated := true } } })
    ∧ (b.time.mer.gated = true → ∀ periods, ∃ t, exec (.clkTimeUngate dt periods) s = .next t ∧ t.time.mer.gated = false
        ∧ t.time.mer.madeUp = true
        ∧ t.time.mer.c = b.time.mer.c + BitVec.ofNat 64 ((periods * b.time.mer.slowRatio + b.time.mer.fracTicks) / 2 ^ 24))
    ∧ (b.time.mer.ownerFw = true → holdTimeoutTicks b.time.mer ≤ since b b.time.mer.lastSync →
      ∃ t, exec (.servoSyncTimeout dt) s = .next t ∧ t.time.mer.servoLost = true ∧ holdover t.time.mer = true)

/-! ### Ports, switch and tables: mailbox commands -/

/-- R280, R349, R355, R477, R478: the commands of ports and queues: a port's status and counters, a flush, a switch
queue's status and counters, and frames that the host sends.

R479: the commands of the host's receive ring: PORT_HOST_RX_SET sets it up, PORT_HOST_RX_RELEASE gives entries back.
What the spec leaves open here is the model's choice: log 6, log 20, log 21 and log 79. -/
def Obligations.SwitchCommandsAct : Prop :=
  (
  ∀ (e : Entry) (s : State), let b := started e s
    (CmdRuns (.portStatus e) s → isMac (fld e.req 0 2) = true →
      let p := fld e.req 0 2
      ∃ l t, exec (.portStatus e) s = .next t ∧ l.length = 4 * (lanesOf s p).length
        ∧ Answered e .ok 0 (padTo 32 (leBytes 1 (b2n (swPort s p).linkUp) ++ leBytes 1 (portCfg s p 1) ++ leBytes 2 (swPort s p).thresh
            ++ leBytes 1 (pauseState s p) ++ leBytes 1 (pfcMap s p) ++ zeros 2 ++ l)) t
        ∧ AnswersOnly e.queue { s with free := t.free } t)
    ∧ (let r := ctrReq e.req
       let count := if r.count = 0 then 45 - r.first else r.count
       CmdRuns (.portCountersGet e) s → isMac r.inst = true → r.first < 45 → r.first + count ≤ 45 →
       (r.clear = true → (if CtrTable.port.wide then 8 else 4) * count ≤ 512) →
       ∃ t, exec (.portCountersGet e) s = .next t ∧ Answered e .ok 0 (ctrBytes (accruePause r.inst b) .port r.inst r.first count) t
         ∧ AnswersOnly e.queue { s with ctr := t.ctr, sw := (accruePause r.inst b).sw } t
         ∧ ∀ i, r.first ≤ i → i < r.first + count → ctrGet t .port r.inst i = if r.clear then 0 else ctrGet (accruePause r.inst b) .port r.inst i)
    ∧ (CmdRuns (.swQueueFlush e) s → egressOk s (fld e.req 0 2) = true →
      ∃ t f, exec (.swQueueFlush e) s = .next t ∧ t.sw.flushes = s.sw.flushes ++ [f] ∧ f.port = fld e.req 0 2 ∧ f.mask = byteAt e.req 2
        ∧ f.cmd = some (cmdOf 0x020D e) ∧ ∀ q, q < 8 → bit (byteAt e.req 2) q = true → queueList t (fld e.req 0 2) q = [])
    ∧ (CmdRuns (.swQueueStatus e) s → egressOk s (fld e.req 0 2) = true →
      ∃ t reply, exec (.swQueueStatus e) s = .next t ∧ Answered e .ok 0 reply t
        ∧ AnswersOnly e.queue { s with sw := { s.sw with hwm := t.sw.hwm } } t
        ∧ (∀ q, q < 8 → slice reply (40 * q) 40 = queueStatusBytes s (fld e.req 0 2) q)
        ∧ (bit (byteAt e.req 2) 0 = false → t.sw.hwm = s.sw.hwm)
        ∧ (bit (byteAt e.req 2) 0 = true → ∀ q, q < 8 → Sparse.get (fun _ => 0) t.sw.hwm (8 * fld e.req 0 2 + q) = 0))
    ∧ (let r := ctrReq e.req
       let n := if r.inst = hostPort then 129 else 128
       let count := if r.count = 0 then n - r.first else r.count
       let ctr := fun (u : State) (i : Nat) => ctrGet u (swCounter r.inst i).1 (swCounter r.inst i).2.1 (swCounter r.inst i).2.2
       CmdRuns (.swCountersGet e) s → egressOk s r.inst = true → r.first < n → r.first + count ≤ n → (r.clear = true → 8 * count ≤ 512) →
       ∃ t, exec (.swCountersGet e) s = .next t
         ∧ Answered e .ok 0 (((List.range count).map (fun i => leBytes 8 (ctr s (r.first + i)))).flatten) t
         ∧ AnswersOnly e.queue { s with ctr := t.ctr } t
         ∧ ∀ i, r.first ≤ i → i < r.first + count → ctr t i = if r.clear then 0 else ctr s i)
    ∧ (∀ l, CmdRuns (.portHostTx e) s → txList e.req = some l → (∀ o ∈ l, txGood s e.req o = true) →
      (∃ t n, exec (.portHostTx e) s = .next t ∧ n ≤ l.length ∧ Answered e .ok 0 (leBytes 4 n ++ leBytes 4 (l.length - n)) t)
      ∧ (∀ o, l = [o] → bit (fld e.req o 16) 18 = false → (ingressList s hostPort).length < ingressDepth hostPort →
          cellsFor (bits (fld e.req o 16) 0 16) ≤ freeCells s →
          ∃ t k, exec (.portHostTx e) s = .next t ∧ Answered e .ok 0 (leBytes 4 1 ++ leBytes 4 0) t
            ∧ ingressList t hostPort = ingressList s hostPort ++ [k] ∧ k.bytes = slice e.req (o + 16) (bits (fld e.req o 16) 0 16)))
  )
  ∧ (
  ∀ (e : Entry) (s : State),
    (CmdRuns (.portHostRxSet e) s → fld e.req 0 8 % 4096 = 0 → fld e.req 8 2 ∈ [16, 32, 64, 128, 256, 512, 1024, 2048, 4096] →
      2048 ≤ fld e.req 10 2 → fld e.req 10 2 ≤ 10240 → fld e.req 10 2 % 1024 = 0 → byteAt e.req 12 < 32 →
      (s.sw.ring.enable = false ∨ bit (byteAt e.req 13) 1 = false) →
      ∃ t, exec (.portHostRxSet e) s = .next t ∧ Answered e .ok 0 [] t
        ∧ AnswersOnly e.queue { s with sw := { s.sw with ring := t.sw.ring } } t
        ∧ t.sw.ring.enable = bit (byteAt e.req 13) 1 ∧ t.sw.ring.base = fld e.req 0 8 ∧ t.sw.ring.entries = fld e.req 8 2
        ∧ t.sw.ring.size = fld e.req 10 2 ∧ t.sw.ring.vector = byteAt e.req 12 ∧ t.sw.ring.irqEn = bit (byteAt e.req 13) 0
        ∧ t.sw.ring.tooLong = s.sw.ring.tooLong ∧ ∀ p, (queueOf s e.queue).owner = some p → t.sw.ring.port = p)
    ∧ (CmdRuns (.portHostRxRelease e) s →
      let v := BitVec.ofNat 32 (fld e.req 0 4)
      (s.sw.ring.written - v).toNat ≤ (s.sw.ring.written - s.sw.ring.consumed).toNat → (s.sw.ring.written - v).toNat < 2 ^ 31 →
      ∃ t, exec (.portHostRxRelease e) s = .next t
        ∧ Answered e .ok 0 (leBytes 4 s.sw.ring.written.toNat ++ leBytes 4 v.toNat ++ leBytes 4 s.sw.ring.tooLong
            ++ leBytes 4 ((List.range 8).map (fun q => (queueList s hostPort q).length)).sum) t
        ∧ AnswersOnly e.queue { s with sw := { s.sw with ring := { s.sw.ring with consumed := v } } } t)
  )

/-- R293, R299 to R302, R344: the commands of the classification stages, meters and policers.
What the spec leaves open here is the model's choice: log 20 and log 66. -/
def Obligations.ClassificationCommandsAct : Prop :=
  ∀ (e : Entry) (s : State), let b := started e s
    let g := stageGroup e.req
    let free := fun g => lockedBy s e.queue g = none
    (∀ x recs, CmdRuns (.clsStageSet e) s → groupSpec (reqGroup e.req) = some x → groupIn 0x0600 0x0605 (reqGroup e.req) = true →
      parseRecords e.req (fld e.req 2 2) 8 = some recs → recs.all (recordOk (gFields (reqGroup e.req) x)) = true → free (reqGroup e.req) →
      ∃ t, exec (.clsStageSet e) s = .next t ∧ Answered e .ok 0 [] t ∧ t.cfg.live = s.cfg.live
        ∧ (∀ r ∈ recs, ∀ pre post, recs = pre ++ r :: post →
            (∀ r' ∈ post, cfgKey (reqGroup e.req) r'.field r'.index ≠ cfgKey (reqGroup e.req) r.field r.index) → r.field ≠ 5 →
            cfgStaged t (reqGroup e.req) r.field r.index = recordValue x.fields r))
    ∧ (∀ d u, CmdRuns (.clsEntryWrite e) s → byteAt e.req 0 ≤ 5 → free g → writeEntry e.queue g e.req b = (.ok, d, u) →
        Completes (.clsEntryWrite e) e s .ok d [] u)
    ∧ (CmdRuns (.clsEntryWrite e) s → byteAt e.req 0 ≤ 5 → free g → (cfgStaged s g 1 0 = 1 ∨ cfgStaged s g 1 0 = 3) → fld e.req 4 4 < placeLimit s g →
        ∃ t, exec (.clsEntryWrite e) s = .next t ∧ Answered e .ok 0 [] t ∧ stagedBy t g = some e.queue
          ∧ cfgStaged t g 5 (fld e.req 4 4) = ((if bit (reqEntry e.req) 127 then reqEntry e.req else 0 : Nat) : Int))
    ∧ (∀ p x, CmdRuns (.clsEntryRead e) s → byteAt e.req 0 ≤ 5 → byteAt e.req 1 = 0 →
        addressed e.req (cfgNat s g 1 0) (cfgNat s g 3 0) (liveEntries s g) = some (p, x) →
        Does (.clsEntryRead e) e s (leBytes 1 (byteAt e.req 0) ++ zeros 3 ++ leBytes 4 p ++ beBytes 40 (entryKey x) ++ beBytes 40 (entryMask x)
          ++ leBytes 16 (entryAction x)) s)
    ∧ (∀ p x, CmdRuns (.clsEntryRead e) s → byteAt e.req 0 ≤ 5 → byteAt e.req 1 = 1 →
        addressed e.req (cfgStaged s g 1 0).toNat (cfgStaged s g 3 0).toNat (stagedEntries s g) = some (p, x) →
        Does (.clsEntryRead e) e s (leBytes 1 (byteAt e.req 0) ++ zeros 3 ++ leBytes 4 p ++ beBytes 40 (entryKey x) ++ beBytes 40 (entryMask x)
          ++ leBytes 16 (entryAction x)) s)
    ∧ (∀ p x, CmdRuns (.clsEntryDelete e) s → byteAt e.req 0 ≤ 5 → free g →
        addressed e.req (cfgStaged s g 1 0).toNat (cfgStaged s g 3 0).toNat (stagedEntries s g) = some (p, x) →
        ∃ t, exec (.clsEntryDelete e) s = .next t ∧ Answered e .ok 0 [] t ∧ cfgStaged t g 5 p = 0 ∧ stagedBy t g = some e.queue)
    ∧ (∀ u, CmdRuns (.clsEntryBulk e) s → byteAt e.req 0 ≤ 5 → free g → e.req.length = 108 → writeEntry e.queue g (e.req.drop 4) b = (.ok, 0, u) →
        Does (.clsEntryBulk e) e s (leBytes 8 1) u)
    ∧ (∀ c ∈ ([(.clsMeterSet e, 0x0606, 24, 5), (.clsPolicerSet e, 0x0607, 8, 2)] : List (Instr × Nat × Nat × Nat)),
        CmdRuns c.1 s → spanOk e.req 65536 = true → free c.2.1 →
        ∃ t, exec c.1 s = .next t ∧ Answered e .ok 0 [] t
          ∧ AnswersOnly e.queue { s with cfg := { s.cfg with staged := t.cfg.staged, owner := t.cfg.owner } } t
          ∧ (∀ i row, i < fld e.req 4 4 → 1 ≤ row → row ≤ c.2.2.2 →
              cfgStaged t c.2.1 row (fld e.req 0 4 + i)
                = ((fld e.req (8 + c.2.2.1 * i + 4 * (row - 1)) (if row = 5 then 1 else 4) : Nat) : Int))
          ∧ (∀ i row, i < fld e.req 0 4 ∨ fld e.req 0 4 + fld e.req 4 4 ≤ i → i < 2 ^ 16 → row < 2 ^ 8 → cfgStaged t c.2.1 row i = cfgStaged s c.2.1 row i))
    ∧ (∀ c ∈ ([(.clsMeterGet e, meterBytes, 32), (.clsPolicerGet e, policerBytes, 48)] : List (Instr × (State → Nat → List Byte) × Nat)),
        CmdRuns c.1 s → spanOk e.req 65536 = true → 8 + c.2.2 * fld e.req 4 4 ≤ 16384 →
        Does c.1 e s (e.req.take 8 ++ ((List.range (fld e.req 4 4)).map (fun i => c.2.1 s (fld e.req 0 4 + i))).flatten) s)
    ∧ (CmdRuns (.clsCounterGet e) s → 0 < fld e.req 4 2 → fld e.req 4 2 ≤ (if bit (byteAt e.req 6) 0 then 32 else 1024) →
        fld e.req 0 4 + fld e.req 4 2 ≤ 1048576 →
        ∃ t, exec (.clsCounterGet e) s = .next t
          ∧ Answered e .ok 0 (((List.range (fld e.req 4 2)).map (fun i => ctrBytes s .cls (fld e.req 0 4 + i) 0 2)).flatten) t
          ∧ AnswersOnly e.queue { s with ctr := t.ctr } t
          ∧ (bit (byteAt e.req 6) 0 = false → t.ctr = s.ctr)
          ∧ (bit (byteAt e.req 6) 0 = true → ∀ i j, i < fld e.req 4 2 → j < 2 → ctrGet t .cls (fld e.req 0 4 + i) j = 0))

/-- R305, R317, R326, R327: the commands of the forwarding tables: entries are staged as operations in their order, next
hops and VLANs as fields, and a flush removes the learned entries it names at once.
What the spec leaves open here is the model's choice: log 20 and log 66. -/
def Obligations.ForwardingCommandsAct : Prop :=
  ∀ (e : Entry) (s : State), let b := started e s
    let table := byteAt e.req 0
    let g := tableGroup e.req
    let free := fun g => lockedBy s e.queue g = none
    (CmdRuns (.fwdEntryWrite e) s → tableOk e.req = true → free g → (stagedOf s g).length < 65536 →
      Does (.fwdEntryWrite e) e s [] (stageOp e.queue g (if entryValid table (fld e.req 8 24) then 1 else 2) (fld e.req 8 24) b))
    ∧ (∀ x, CmdRuns (.fwdEntryRead e) s → tableOk e.req = true → byteAt e.req 1 = 0 → liveTableEntry s table (reqTableKey e.req) = some x →
      Does (.fwdEntryRead e) e s (leBytes 24 x) s)
    ∧ (∀ x, CmdRuns (.fwdEntryRead e) s → tableOk e.req = true → byteAt e.req 1 = 1 → stagedTableEntry s table (reqTableKey e.req) = some x →
      Does (.fwdEntryRead e) e s (leBytes 24 x) s)
    ∧ (∀ x, CmdRuns (.fwdEntryDelete e) s → tableOk e.req = true → free g → stagedTableEntry s table (reqTableKey e.req) = some x →
      Does (.fwdEntryDelete e) e s [] (stageOp e.queue g 2 (keyWord table (reqTableKey e.req)) b))
    ∧ (CmdRuns (.fwdEntryBulk e) s → tableOk e.req = true → free g → e.req.length = 32 → (stagedOf s g).length < 65536 →
      Does (.fwdEntryBulk e) e s (leBytes 8 1)
        (stageOp e.queue g (if entryValid table (fld e.req 8 24) then 1 else 2) (fld e.req 8 24) b))
    ∧ (CmdRuns (.fwdNexthopSet e) s → spanOk e.req 65536 = true → free 0x0702 →
      ∃ t, exec (.fwdNexthopSet e) s = .next t ∧ Answered e .ok 0 [] t ∧ t.cfg.live = s.cfg.live
        ∧ ∀ i, i < fld e.req 4 4 → cfgStaged t 0x0702 1 (fld e.req 0 4 + i) = ((fld e.req (8 + 16 * i) 16 : Nat) : Int))
    ∧ (CmdRuns (.fwdNexthopGet e) s → spanOk e.req 65536 = true → byteAt e.req 8 ≤ 1 → fld e.req 4 4 ≤ 1024 →
      Does (.fwdNexthopGet e) e s (((List.range (fld e.req 4 4)).map (fun i =>
        leBytes 16 (if byteAt e.req 8 = 0 then cfgGet s 0x0702 1 (fld e.req 0 4 + i) else cfgStaged s 0x0702 1 (fld e.req 0 4 + i)).toNat)).flatten) s)
    ∧ (CmdRuns (.fwdVlanSet e) s → 1 ≤ fld e.req 0 2 → fld e.req 0 2 ≤ 4094 → fld e.req 8 16 &&& (mapEMG + mapHost + mapChord) = fld e.req 8 16 → free 0x0701 →
      ∃ t, exec (.fwdVlanSet e) s = .next t ∧ Answered e .ok 0 [] t ∧ t.cfg.live = s.cfg.live ∧ stagedBy t 0x0701 = some e.queue
        ∧ cfgStaged t 0x0701 1 (fld e.req 0 2) = ((byteAt e.req 2 % 4 + 4 * fld e.req 8 16 : Nat) : Int))
    ∧ (CmdRuns (.fwdVlanGet e) s → 1 ≤ fld e.req 0 2 → fld e.req 0 2 ≤ 4094 →
      let v := cfgNat s 0x0701 1 (fld e.req 0 2)
      Does (.fwdVlanGet e) e s (leBytes 2 (fld e.req 0 2) ++ leBytes 1 (v % 4) ++ zeros 5 ++ leBytes 16 (v / 4)) s)
    ∧ (CmdRuns (.fwdL2Flush e) s →
      ∃ t n, exec (.fwdL2Flush e) s = .next t ∧ Answered e .ok 0 (leBytes 8 n) t
        ∧ ∀ place x, entryAt t.sw.l2 place = some x → entryAt s.sw.l2 place = some x
            ∧ (x.static = false → ¬ ((fld e.req 0 2 = 0xFFFF ∨ x.port = fld e.req 0 2) ∧ (fld e.req 2 2 = 0 ∨ x.vid = fld e.req 2 2))))

/-! ### Mesh, nodes and radio: mailbox commands -/

/-- R175, R482: MESH_SCHEDULE_SET and MESH_PARTITION_SET stage what their entries spell, the last entry of a handle deciding;
the reads answer with the live or the staged schedule, and with the live, staged or used partition map.
What the spec leaves open here is the model's choice: log 20 and log 41. -/
def Obligations.ScheduleCommandsAct : Prop :=
  ∀ (e : Entry) (s : State),
    let r := e.req
    let sees := fun row idx => ((if byteAt r 1 = 0 then cfgGet s else cfgStaged s) 0x0820 row idx).toNat
    (CmdRuns (.meshScheduleSet e) s → lockedBy s e.queue 0x0820 = none →
      (byteAt r 0 = 1 → byteAt r 4 ≤ 15 → fld r 5 2 ≤ 256 → (∀ i, i < fld r 5 2 → byteAt r (8 + 8 * i + 4) ≤ 4) →
        ∃ t, exec (.meshScheduleSet e) s = .next t ∧ Answered e .ok 0 [] t ∧ t.cfg.live = s.cfg.live ∧ stagedBy t 0x0820 = some e.queue
          ∧ cfgStaged t 0x0820 1 (byteAt r 4) = (fld r 5 2 : Int)
          ∧ ∀ i, i < fld r 5 2 → cfgStaged t 0x0820 2 (256 * byteAt r 4 + i) = ((fld r (8 + 8 * i) 5 : Nat) : Int))
      ∧ (byteAt r 0 = 2 → entriesBad slotframeBad 4 8 (pieces 8 r.length (r.drop 4)) = none →
        ∃ t, exec (.meshScheduleSet e) s = .next t ∧ Answered e .ok 0 [] t ∧ t.cfg.live = s.cfg.live ∧ stagedBy t 0x0820 = some e.queue
          ∧ ∀ pre x post, pieces 8 r.length (r.drop 4) = pre ++ x :: post → (∀ y ∈ post, byteAt y 0 ≠ byteAt x 0) →
              cfgStaged t 0x0820 3 (byteAt x 0) = (slotframeWord x : Int))
      ∧ (byteAt r 0 = 3 → fld r 4 4 + fld r 8 4 ≤ 524288 → fld r 4 4 < 524288 →
        ∃ t, exec (.meshScheduleSet e) s = .next t ∧ Answered e .ok 0 [] t ∧ t.cfg.live = s.cfg.live
          ∧ (0 < fld r 8 4 → stagedBy t 0x0820 = some e.queue)
          ∧ ∀ i, i < fld r 8 4 → cfgStaged t 0x0820 4 (fld r 4 4 + i) = (linkWord (fld r (12 + 16 * i) 16) : Int)))
    ∧ (CmdRuns (.meshScheduleGet e) s → byteAt r 1 ≤ 1 →
      (byteAt r 0 = 1 → byteAt r 4 ≤ 15 →
        Does (.meshScheduleGet e) e s (leBytes 1 1 ++ zeros 3 ++ leBytes 1 (byteAt r 4) ++ leBytes 2 (sees 1 (byteAt r 4)) ++ zeros 1
          ++ ((List.range (sees 1 (byteAt r 4))).map (fun i => leBytes 5 (sees 2 (256 * byteAt r 4 + i)) ++ zeros 3)).flatten) s)
      ∧ (byteAt r 0 = 2 → Does (.meshScheduleGet e) e s (leBytes 1 2 ++ zeros 3 ++ ((List.range 64).map (fun h => slotframeBytes h (sees 3 h))).flatten) s)
      ∧ (byteAt r 0 = 3 → fld r 4 4 + fld r 8 4 ≤ 524288 → fld r 8 4 ≤ 1023 →
        Does (.meshScheduleGet e) e s (leBytes 1 3 ++ zeros 3 ++ slice r 4 8
          ++ ((List.range (fld r 8 4)).map (fun i => leBytes 16 (sees 4 (fld r 4 4 + i)))).flatten) s))
    ∧ (CmdRuns (.meshPartitionSet e) s → lockedBy s e.queue 0x0824 = none → fld r 0 2 < 1024 → fld r 0 2 + fld r 2 2 ≤ 1024 →
      ∃ t, exec (.meshPartitionSet e) s = .next t ∧ Answered e .ok 0 [] t ∧ t.cfg.live = s.cfg.live
        ∧ ∀ i, i < fld r 2 2 → cfgStaged t 0x0824 1 (fld r 0 2 + i) = (byteAt r (4 + i) : Int))
    ∧ (CmdRuns (.meshPartitionGet e) s → byteAt r 0 ≤ 2 →
      Does (.meshPartitionGet e) e s ((List.range 1024).map (fun p => BitVec.ofNat 8
        (if byteAt r 0 = 0 then cfgNat s 0x0824 1 p else if byteAt r 0 = 1 then (cfgStaged s 0x0824 1 p).toNat else facetOfPartition s p))) s)

/-- R190, R194, R195, R202 to R204, R210, R222, R481, R482: the commands of nodes, on a node that is not FREE, and
MESH_NODE_ADD, which enrols one or replaces its record. Every other node's record stays.
What the spec leaves open here is the model's choice: log 31, log 42 and log 74. -/
def Obligations.NodeCommandsAct : Prop :=
  ∀ (e : Entry) (s : State),
    let r := e.req
    let n := fld r 0 4
    let x := nodeOf s n
    let others := fun (t : State) => ∀ m, m ≠ n → nodeOf t m = nodeOf s m
    (CmdRuns (.meshNodeAdd e) s → n < nodeCount → (n < 16384 ∨ inModes [.activeC, .standbyC] s = false) →
      takenBy (nodeOfEui s (BitVec.ofNat 64 (fld r 4 8))) n = false → (fld r 12 2 = 0xFFFF ∨ takenBy (nodeOfShort s (fld r 12 2)) n = false) →
      bits (byteAt r 15) 1 3 ≠ 0 → bits (byteAt r 15) 1 3 ≠ 4 → (nodeState s n = 0 ∨ bit (byteAt r 15) 4 = true) →
      ∃ t, exec (.meshNodeAdd e) s = .next t ∧ Answered e .ok 0 [] t ∧ others t ∧ shortOf t n = fld r 12 2
        ∧ nodeOf t n = { addedRecord r (if nodeState s n = 0 then Drift.reset else x.drift.cleared) with
                         check := (nodeOf t n).check, txLease := (nodeOf t n).txLease }
        ∧ recordOk? (nodeOf t n) = true)
    ∧ (n < nodeCount → nodeState s n ≠ 0 →
      (CmdRuns (.meshNodeDriftGet e) s → Does (.meshNodeDriftGet e) e s (leBytes 28 x.drift.word) s)
      ∧ (CmdRuns (.meshNodeGet e) s → Does (.meshNodeGet e) e s x.bytes s)
      ∧ (CmdRuns (.meshNodeDriftReset e) s →
        ∃ t, exec (.meshNodeDriftReset e) s = .next t ∧ Answered e .ok 0 [] t ∧ others t
          ∧ nodeOf t n = { x with drift := x.drift.cleared, check := (nodeOf t n).check } ∧ ctrGet t .mac 0 18 = ctrGet (ctrInc .mac 0 18 s) .mac 0 18)
      ∧ (CmdRuns (.meshNodeSyncSet e) s → byteAt r 4 ≤ 1 →
        ∃ t, exec (.meshNodeSyncSet e) s = .next t ∧ Answered e .ok 0 [] t ∧ others t
          ∧ nodeOf t n = { x with drift := { x.drift with sync := byteAt r 4 == 1 }, check := (nodeOf t n).check })
      ∧ (CmdRuns (.meshNodeStateSet e) s → nodeState s n ≠ 4 → byteAt r 4 = 1 ∨ byteAt r 4 = 2 → (byteAt r 4 = 1 → x.txFc.toNat < 0xFFFFF000) →
        ∃ t, exec (.meshNodeStateSet e) s = .next t ∧ Answered e .ok 0 [] t ∧ others t
          ∧ nodeOf t n = { x with state := byteAt r 4, secFails := 0, check := (nodeOf t n).check })
      ∧ (CmdRuns (.meshNodeRekey e) s → nodeState s n = 1 ∨ nodeState s n = 3 →
        ∃ t, exec (.meshNodeRekey e) s = .next t ∧ Answered e .ok 0 (leBytes 4 (pendingGen x)) t ∧ others t
          ∧ nodeOf t n = { x with rekey := !bit (byteAt r 4) 0, check := (nodeOf t n).check })
      ∧ (CmdRuns (.meshNodeKeyExport e) s → byteAt r 4 ≤ 1 →
        let gen := if byteAt r 4 = 0 then x.keyGen.toNat else pendingGen x
        let w := fld r 6 2
        wrapRefusal s w 0 = none → masterUsable s gen = true → bit (slotOf s (masterOf s gen)).attr.toNat 17 = true →
        tagOk s (masterOf s gen) = true → tagOk s w = true →
        Does (.meshNodeKeyExport e) e s
          (wrapBlob (slotOf s w).key (nodeKeyAttr (slotOf s (masterOf s gen)).attr.toNat) (nodeKeyOf s x.eui.toNat gen)) s)
      ∧ (CmdRuns (.meshNodeRemove e) s →
        ∃ t, exec (.meshNodeRemove e) s = .next t ∧ Answered e .ok 0 [] t ∧ others t ∧ nodeState t n = 0 ∧ (nodeOf t n).eui = 0
          ∧ shortOf t n = 0xFFFF ∧ ddqFrames (ddqOf t n) = [] ∧ leasePending t n = none)
      ∧ (CmdRuns (.meshNodeRestore e) s → (∀ c, restoring s n ≠ some (some c)) →
        ∃ t, exec (.meshNodeRestore e) s = .next t ∧ restoring t n = some (some (cmdOf 0x041A e)) ∧ t.mesh.nodes = s.mesh.nodes))
    ∧ (∀ k u, CmdRuns (.meshAddrBulk e) s → n < nodeCount →
        addrBulk ((pieces 2 (fld r 4 4) (r.drop 8)).zipIdx.map (fun p => (n + p.2, leNat p.1))) 0 (started e s) = (.ok, 0, k, u) →
        k = fld r 4 4 ∧ Does (.meshAddrBulk e) e s (leBytes 4 k ++ zeros 28) u)
    ∧ (CmdRuns (.meshAddrBulk e) s → n < nodeCount → fld r 4 4 = 1 → nodeState s n ≠ 0 →
        (fld r 8 2 = 0xFFFF ∨ takenBy (nodeOfShort s (fld r 8 2)) n = false) →
        ∃ t, exec (.meshAddrBulk e) s = .next t ∧ Answered e .ok 0 (leBytes 4 1 ++ zeros 28) t ∧ others t ∧ shortOf t n = fld r 8 2)

/-- R86, R114: the calibration tables and detectors: a write stages its entries without their reserved bits, and with PERSIST
the sector's table is also kept; a read gives the live or the staged entries. R109, R473: the receive counters, with the
lanes held.

R101, R102: RADIO_REG_WRITE in PROVISIONED, with a valid token, commits its record into the lowest unused slot and consumes
the nonce; RADIO_REG_UPDATE starts the job that checks and commits one.
What the spec leaves open here is the model's choice: log 43 and log 71. -/
def Obligations.RadioCommandsAct : Prop :=
  (
  ∀ (e : Entry) (s : State),
    let r := e.req
    let k := byteAt r 0
    (CmdRuns (.radioCalWrite e) s → entrySpanBad 2048 false r = none → lockedBy s e.queue (0x0920 + k) = none →
      ∃ t, exec (.radioCalWrite e) s = .next t ∧ Answered e .ok 0 [] t ∧ t.cfg.live = s.cfg.live
        ∧ (∀ i, i < fld r 4 2 → cfgStaged t (0x0920 + k) 1 (fld r 2 2 + i) = (calClean (fld r (8 + 8 * i) 8) : Int))
        ∧ t.radio.calPersist = if bit (byteAt r 1) 0 then s.radio.calPersist ||| 2 ^ k else s.radio.calPersist)
    ∧ (CmdRuns (.radioDetectorSet e) s → entrySpanBad 512 false r = none → lockedBy s e.queue (0x0940 + k) = none →
      ∃ t, exec (.radioDetectorSet e) s = .next t ∧ Answered e .ok 0 [] t ∧ t.cfg.live = s.cfg.live
        ∧ ∀ i, i < fld r 4 2 → cfgStaged t (0x0940 + k) 1 (fld r 2 2 + i) = (bits (fld r (6 + 8 * i) 8) 0 36 : Int))
    ∧ (CmdRuns (.radioCalRead e) s → entrySpanBad 2048 true r = none → Does (.radioCalRead e) e s (entrySpanBytes s (0x0920 + k) r) s)
    ∧ (CmdRuns (.radioDetectorGet e) s → entrySpanBad 512 true r = none → Does (.radioDetectorGet e) e s (entrySpanBytes s (0x0940 + k) r) s)
    ∧ (let q := ctrReq r
       let count := if q.count = 0 then 16 - q.first else q.count
       CmdRuns (.radioRxCountersGet e) s → q.inst < 8 → q.first < 16 → q.first + count ≤ 16 →
       ∃ t, exec (.radioRxCountersGet e) s = .next t
         ∧ Answered e .ok 0 (leBytes 4 (sectorLanes s q.inst).length
             ++ ((List.range count).map (fun i => leBytes 4 (ctrGet s .rx (rxInst q.inst (q.first + i)) (q.first + i)))).flatten) t
         ∧ AnswersOnly e.queue { s with ctr := t.ctr } t
         ∧ ∀ i, q.first ≤ i → i < q.first + count →
             ctrGet t .rx (rxInst q.inst i) i = if q.clear then 0 else ctrGet s .rx (rxInst q.inst i) i)
  )
  ∧ (
  ∀ (e : Entry) (s : State),
    let r := e.req.take (recLen e.req)
    (∀ k, CmdRuns (.radioRegWrite e) s → s.mode.lifecycle = .provisioned → s.radio.regLocked = false → recWellFormed r = true →
      seqExceeds r (topSeq s) = true → unusedSlot s = some k → tokenValid (started e s) 0x0509 [2] e.req = true →
      ∃ t, exec (.radioRegWrite e) s = .next t ∧ Answered e .ok 0 [] t ∧ t.keys.nonce = none
        ∧ regSlotOf t k = some { bytes := r, sig := slice e.req r.length 96, committed := true }
        ∧ (∀ j, j ≠ k → regSlotOf t j = regSlotOf s j) ∧ (s.radio.regSlot ≠ some k → record t = record s))
    ∧ (CmdRuns (.radioRegUpdate e) s → s.mode.lifecycle = .provisioned ∨ s.mode.lifecycle = .deployed → s.jobs.running.length < 16 →
      ∃ t, StartsJob (.radioRegUpdate e) 0x050A e s t ∧ ∀ k, regSlotOf t k = regSlotOf s k)
    ∧ (∀ (dt : Nat) (j : Job) (readBack : Bool), runningJob s 0x050A = some j → alive (begin dt s) = true →
        let q := j.req.take (recLen j.req)
        (∀ st d, regUpdateFault (begin dt s) j.req = some (st, d) →
          ∃ t, exec (.regUpdateDone dt readBack) s = .next t ∧ (∀ k, regSlotOf t k = regSlotOf s k)
            ∧ t.jobs.completed.head?.map (fun j => (j.handle, j.status, j.detail)) = some (j.handle, st, d))
        ∧ (∀ k, regUpdateFault (begin dt s) j.req = none → unusedSlot s = some k →
          ∃ t, exec (.regUpdateDone dt readBack) s = .next t
            ∧ regSlotOf t k = some { bytes := q, sig := slice j.req q.length 96, committed := readBack }
            ∧ t.jobs.completed.head?.map (fun j => (j.handle, j.status)) = some (j.handle, if readBack then .ok else .internal)))
  )

/-- R141, R484, R486: the capture of IQ samples or of frames is armed as a job while no capture is armed or unread; a read
gives the items it names of a held capture, and the read of the last one releases the area.

R141, R142, R484, R486: the captures: a trigger, the end of an IQ capture and of a frame capture, and the return of the area 60 s
after the last read.
What the spec leaves open here is the model's choice: log 71. -/
def Obligations.CapturesRun : Prop :=
  (
  ∀ (e : Entry) (s : State),
    let arm := fun frames phase => ({ frames, req := e.req, job := s.jobs.next, phase, at_ := s.now, items := [] } : Capture)
    let room := fun c => 32768 ≤ sharedCells (modRadio (fun r => { r with capture := some c }) s)
    (CmdRuns (.radioIqCapture e) s → iqBad e.req = none → captureBusy s = false → s.jobs.running.length < 16 →
      let c := arm false (if byteAt e.req 6 = 0 then 1 else 0)
      room c → ∃ t, StartsJob (.radioIqCapture e) 0x0512 e s t ∧ t.radio.capture = some c)
    ∧ (CmdRuns (.diagFrameCapture e) s → byteAt e.req 0 ≤ 7 → 0 < fld e.req 2 2 → fld e.req 2 2 ≤ 4096 →
      fld e.req 4 4 < nodeCount ∨ fld e.req 4 4 = 0xFFFFFFFF → captureBusy s = false → s.jobs.running.length < 16 → room (arm true 0) →
      ∃ t, StartsJob (.diagFrameCapture e) 0x0A0D e s t ∧ t.radio.capture = some (arm true 0))
    ∧ (∀ c, s.radio.capture = some c → 2 ≤ c.phase →
      ∀ p ∈ ([(.radioIqRead e, false, fld e.req 4 4, 481), (.diagFrameRead e, true, fld e.req 4 2, 4096)] : List (Instr × Bool × Nat × Nat)),
        let first := fld e.req 0 4
        let count := p.2.2.1
        let reply := ((c.items.drop first).take count).flatten
        CmdRuns p.1 s → c.frames = p.2.1 → 0 < count → count ≤ p.2.2.2 → first + count ≤ c.items.length → reply.length ≤ 16384 →
        ∃ t, exec p.1 s = .next t ∧ Answered e .ok 0 reply t
          ∧ AnswersOnly e.queue { s with radio := { s.radio with capture := t.radio.capture } } t
          ∧ (c.phase = 2 → first + count = c.items.length → t.radio.capture = some { c with phase := 3, at_ := s.now })
          ∧ ((c.phase ≠ 2 ∨ first + count ≠ c.items.length) → t.radio.capture = some c))
  )
  ∧ (
  ∀ (dt : Nat) (s : State) (c : Capture), alive (begin dt s) = true → let d := radioDue (begin dt s)
    d.radio.capture = some c →
    (c.frames = false → c.phase = 0 → (byteAt c.req 6 = 2 → fld c.req 20 6 * 1000000000 + fld c.req 16 4 ≤ nowNs d) →
      ∃ t, exec (.iqCaptureTrigger dt) s = .next t ∧ t.radio.capture = some { c with phase := 1 })
    ∧ (∀ blocks, c.frames = false → c.phase = 1 →
      ∃ t y, exec (.iqCaptureComplete dt blocks) s = .next t ∧ t.radio.capture = some y ∧ y.phase = 2 ∧ y.at_ = d.now
        ∧ y.items.length = min (fld c.req 8 4) blocks.length)
    ∧ (c.frames = true → c.phase = 0 → frameCaptureFull c = true →
      ∃ t, exec (.frameCaptureComplete dt) s = .next t ∧ t.radio.capture = some { c with phase := 2, at_ := d.now })
    ∧ (c.phase = 3 → 60 * secTicks ≤ since d c.at_ → ∃ t, exec (.captureAreaReturn dt) s = .next t ∧ t.radio.capture = none)
  )

/-! ### The security die -/

/-- R381 to R383, R401 to R404, R428: the commands of key slots, while no known-answer test has failed. A key is written into
an EMPTY slot with its attribute word and its tag; every other slot stays.
What the spec leaves open here is the model's choice: log 25 and log 80. -/
def Obligations.KeySlotCommandsAct : Prop :=
  ∀ (e : Entry) (s : State), s.keys.katFailed = false → let b := started e s
    let r := e.req
    let n := fld r 0 2
    let w := fld r 2 2
    let slot := fun (m a : Nat) (key : List Byte) => ({ key := padTo 32 key, attr := BitVec.ofNat 32 a, tag := slotTag s.keys.tagKey m (BitVec.ofNat 32 a) (padTo 32 key), state := .valid } : KeySlot)
    let creates := fun (c : Instr) (m a : Nat) (key : List Byte) => ∃ t, exec c s = .next t ∧ Answered e .ok 0 [] t
      ∧ slotOf t m = slot m a key ∧ ∀ k, k ≠ m → slotOf t k = slotOf s k
    let usable := fun (m usage : Nat) => slotRefusal s m 0 usage = none ∧ tagOk s m = true
    (CmdRuns (.keySlotInfo e) s → n < 1024 → (slotOf s n).state ≠ .empty →
      Does (.keySlotInfo e) e s (leBytes 1 (slotOf s n).state.code ++ leBytes 1 (slotOwner (slotOf s n)) ++ zeros 2
        ++ leBytes 4 (slotOf s n).attr.toNat) s)
    ∧ (CmdRuns (.keyGenerate e) s → targetRefusal s n = none → attrType (reqAttr r 4) ≠ 3 → hostAttr (reqAttr r 4) = true →
      creates (.keyGenerate e) n (reqAttr r 4) (randomBytes (keyLen (reqAttr r 4)) b).1)
    ∧ (CmdRuns (.keyImportPlain e) s → targetRefusal s n = none → attrType (reqAttr r 4) ≠ 3 → hostAttr (reqAttr r 4) = true →
      s.mode.lifecycle ≠ .returned → (s.mode.lifecycle = .deployed → tokenValid b 0x0603 [2] r = true) →
      creates (.keyImportPlain e) n (reqAttr r 4) ((slice r 8 32).take (keyLen (reqAttr r 4))))
    ∧ (CmdRuns (.keyImportWrapped e) s → targetRefusal s n = none → usable w 0x80 → byteAt r 8 = 1 → attrType (slotOf s w).attr.toNat = 1 →
      match unwrapBlob (slotOf s w).key (slice r 8 56) with
      | none => Completes (.keyImportWrapped e) e s .authFail 0 [] s
      | some (a, k) =>
        if attrType (a &&& attrMask) = 3 ∨ hostAttr (a &&& attrMask) = false then Completes (.keyImportWrapped e) e s .authFail 0 [] s
        else creates (.keyImportWrapped e) n (narrow (a &&& attrMask) (fld r 4 4)) (k.take (keyLen (a &&& attrMask))))
    ∧ (CmdRuns (.keyExportWrapped e) s → usable n 0 → wrapRefusal s w 0 = none → tagOk s w = true → bit (slotOf s n).attr.toNat 17 = true →
      Does (.keyExportWrapped e) e s (wrapBlob (slotOf s w).key (slotOf s n).attr.toNat (slotOf s n).key) s)
    ∧ (let a := reqAttr r 4
       CmdRuns (.keyDerive e) s → byteAt r 8 = 16 ∨ byteAt r 8 = 32 → byteAt r 9 ≤ 64 → byteAt r 10 ≤ 64 → attrType a ≠ 3 → keyLen a = byteAt r 8 →
       targetRefusal s w = none → hostAttr a = true → usable n 0x10 → narrower a (slotOf s n).attr.toNat = true →
       creates (.keyDerive e) w a
         (hkdf (slice r 12 (byteAt r 9)) (slotKey (slotOf s n)) (slice r (12 + byteAt r 9) (byteAt r 10)) (byteAt r 8)))
    ∧ (CmdRuns (.keyErase e) s → n < 1024 → (slotOf s n).state ≠ .empty → slotOwner (slotOf s n) = 0 → masterSlot s n = false →
      ∃ t, exec (.keyErase e) s = .next t ∧ Answered e .ok 0 [] t ∧ slotOf t n = KeySlot.reset ∧ (∀ k, k ≠ n → slotOf t k = slotOf s k)
        ∧ ∀ k c, ctxOf t k = some c → c.slot = some n → c.inSegment = true ∧ c.closing = true)

/-- R399, R400, R485: the commands of contexts, and what time brings them. A context opens in the lowest free place of 2 to 7;
an UPDATE is one segment of an engine, at whose end it completes; FINAL gives the digest, the tag or the verdict and closes the
context; a context with no command for 10 s closes.
What the spec leaves open here is the model's choice: log 80. -/
def Obligations.KeyContextsAct : Prop :=
  ∀ (e : Entry) (s : State), s.keys.katFailed = false →
    let r := e.req
    let op := byteAt r 0
    let k := fld r 2 2
    (∀ n key slot, CmdRuns (.keyCtxOpen e) s → op ≠ 0 → op ≤ 10 → byteAt r 1 = 2 ∨ byteAt r 1 = 3 →
      (opCcm op = true → ccmTagLen (byteAt r 4) = true ∧ 7 ≤ byteAt r 5 ∧ byteAt r 5 ≤ 13) → freeContext s = some n →
      (match opUsage op with
        | none => k = 0xFFFF ∧ key = [] ∧ slot = none
        | some u => slotRefusal s k 0 u = none ∧ tagOk s k = true ∧ key = slotKey (slotOf s k) ∧ slot = some k
            ∧ (opKind op = .aes → attrType (slotOf s k).attr.toNat ≠ 2)) →
      ∃ t, exec (.keyCtxOpen e) s = .next t ∧ Answered e .ok 0 (leBytes 4 n) t
        ∧ ctxOf t n = some { queue := e.queue, op, slot, key, prio := byteAt r 1, tagLen := byteAt r 4, nonce := if opCcm op then slice r 8 (byteAt r 5) else slice r 8 16, message := [], inSegment := false, closing := false, lastAt := s.now }
        ∧ ∀ m, m ≠ n → ctxOf t m = ctxOf s m)
    ∧ (∀ x, ctxOf s op = some x → x.queue = e.queue → x.closing = false →
      (CmdRuns (.keyCtxUpdate e) s → ccmRoom x (r.length - 4) = true →
        ∃ t, exec (.keyCtxUpdate e) s = .next t
          ∧ ctxOf t op = some { x with message := (ctxOutput x (r.drop 4)).2, inSegment := true, lastAt := s.now }
          ∧ let g : Segment := { kind := opKind x.op, prio := x.prio, ctx := op, cmd := some (cmdOf 0x0609 e, (ctxOutput x (r.drop 4)).1), derive := none }
            g ∈ t.keys.segments ∨ ∃ m, engineOf t m = some g)
      ∧ (CmdRuns (.keyCtxFinal e) s → r.length = 4 + finalLen x → x.op < 9 →
        ∃ t, exec (.keyCtxFinal e) s = .next t ∧ Answered e .ok 0 (ctxResult x (r.drop 4)) t ∧ ctxOf t op = none)
      ∧ (CmdRuns (.keyCtxFinal e) s → r.length = 4 + finalLen x → 9 ≤ x.op →
        ∃ t, exec (.keyCtxFinal e) s = .next t ∧ ctxOf t op = none
          ∧ let g : Segment := { kind := .pka, prio := x.prio, ctx := op, cmd := some (cmdOf 0x060A e, ctxResult x (r.drop 4)), derive := none }
            g ∈ t.keys.segments ∨ engineOf t 4 = some g)
      ∧ (CmdRuns (.keyCtxClose e) s →
        ∃ t, exec (.keyCtxClose e) s = .next t ∧ Answered e .ok 0 [] t ∧ ctxOf t op = none ∧ ∀ m, m ≠ op → ctxOf t m = ctxOf s m))
    ∧ (∀ dt m g c out, alive (begin dt s) = true → s.mode.mode.mailboxes = true → engineOf s m = some g → g.derive = none →
      g.cmd = some (c, out) → c.queue < 16 → c.writeOk = true →
      ∃ t, exec (.engineSegmentEnd dt m) s = .next t
        ∧ (queueOf t c.queue).cache.head?.map (fun x => (x.seq, x.status, x.detail, x.replyLen)) = some (c.seq, .ok, 0, out.length))
    ∧ (∀ dt m x, alive (begin dt s) = true → ctxOf s m = some x → x.inSegment = false → x.lastAt + 10 * secTicks ≤ s.now + dt →
        ∃ t, exec (.keyCtxTimeout dt m) s = .next t ∧ ctxOf t m = none ∧ ∀ j, j ≠ m → ctxOf t j = ctxOf s j)

/-- R387, R389, R394, R396, R406, R409: the commands of authorizations, tamper and the Perimeter. A nonce is random; the token of
a guarded command is checked against it and consumes it.

R383, R394, R395: the daily sweep finds every slot whose tag does not match; a declared tamper of a zeroizing sensor
destroys the root secret, every slot, context and cached key, and latches its cause; a reported one destroys nothing.
What the spec leaves open here is the model's choice: log 6, log 24, log 25 and log 80. -/
def Obligations.KeyGuardsAct : Prop :=
  (
  ∀ (e : Entry) (s : State), s.keys.katFailed = false → let b := started e s
    let r := e.req
    let x := byteAt r 0
    let burns := fun (n : Nat) => ∃ t, exec (.keyAuthoritySet e) s = .next t ∧ Answered e .ok 0 [] t
      ∧ authority t n = sha384 (slice r 8 97) ∧ ∀ m, m ≠ n → authority t m = authority s m
    (CmdRuns (.keyAuthNonce e) s →
      ∃ t, exec (.keyAuthNonce e) s = .next t ∧ Answered e .ok 0 (leBytes 8 s.fuses.deviceUid.toNat ++ (randomBytes 16 b).1) t
        ∧ t.keys.nonce = some ((randomBytes 16 b).1, s.now))
    ∧ (∀ dt n t0, alive (begin dt s) = true → s.keys.nonce = some (n, t0) → t0 + 600 * secTicks ≤ s.now + dt →
      ∃ t, exec (.authNonceExpiry dt) s = .next t ∧ t.keys.nonce = none)
    ∧ (CmdRuns (.keyAuthoritySet e) s →
      (x = 0x10 → s.mode.lifecycle = .manufacture → authority s 1 = unsetAuthority → burns 1)
      ∧ (x = 0x11 → s.mode.lifecycle = .provisioned → authority s 2 = unsetAuthority → tokenValid b 0x060D [2] r = true → burns 2)
      ∧ (0x20 ≤ x → x < 0x24 → usableImages s (s.keys.revoked ||| 2 ^ (x - 0x20)) ≠ 0 → tokenValid b 0x060D [1, 2] r = true →
        ∃ t, exec (.keyAuthoritySet e) s = .next t ∧ Answered e .ok 0 [] t ∧ t.keys.revoked = s.keys.revoked ||| 2 ^ (x - 0x20)
          ∧ t.keys.nonce = none))
    ∧ (CmdRuns (.keyTamperCfgSet e) s → x ≤ 2 → byteAt r 1 ≤ 100 →
      (x < s.keys.lidAction ∨ s.keys.lidFilter < byteAt r 1 → tokenValid b 0x060E [2] r = true) →
      ∃ t, exec (.keyTamperCfgSet e) s = .next t ∧ Answered e .ok 0 [] t ∧ t.keys.lidAction = x ∧ t.keys.lidFilter = byteAt r 1)
    ∧ (let l := s.keys.latch
       CmdRuns (.keyTamperStatus e) s →
       Does (.keyTamperStatus e) e s
         (leBytes 1 l.causes ++ leBytes 1 l.zeroized ++ leBytes 1 l.count ++ leBytes 1 s.keys.sensors ++ zeros 4 ++ leBytes 8 l.time)
         (if bit x 0 then modKeys (fun k => { k with latch := TamperLatch.reset }) s else s))
    ∧ (CmdRuns (.keyPerimeterGet e) s → Does (.keyPerimeterGet e) e s (perimBytes s) s)
    ∧ (∀ l, CmdRuns (.keyDebugUnlock e) s → unlockAuthorities s.mode.lifecycle = some l → tokenValid b 0x0611 l r = true →
      ∃ t, exec (.keyDebugUnlock e) s = .next t ∧ Answered e .ok 0 [] t ∧ t.keys.unlocked = s.keys.unlocked ||| (x % 4) ∧ t.keys.nonce = none)
  )
  ∧ (
  ∀ (dt : Nat) (s : State), let b := begin dt s
    (∀ n, alive b = true → s.keys.sweptAt + 86400 * secTicks ≤ b.now → n ∈ validSlots s → tagOk s n = false →
      ∃ t, exec (.keySlotSweep dt []) s = .next t ∧ (slotOf t n).state = .bad ∧ t.keys.sweptAt = b.now
        ∧ ∀ m, tagOk s m = true → slotOf t m = slotOf s m)
    ∧ (∀ sensor live, sensor < 5 → (b.power.vddIo || b.power.vbat) = true → tamperAnswer b sensor = 2 →
      ∃ t, exec (.tamperDeclaration dt sensor live) s = .next t ∧ t.keys.root = zeros 64 ∧ t.keys.slots = [] ∧ t.keys.contexts = []
        ∧ t.keys.drbg = none ∧ t.keys.caches = [] ∧ bit t.keys.latch.zeroized sensor = true)
    ∧ (∀ sensor live, sensor < 5 → (b.power.vddIo || b.power.vbat) = true → tamperAnswer b sensor = 1 →
      ∃ t, exec (.tamperDeclaration dt sensor live) s = .next t ∧ t.keys.slots = s.keys.slots ∧ t.keys.root = s.keys.root
        ∧ bit t.keys.latch.causes sensor = true)
  )

/-! ### Storage, integrity and twin: mailbox commands -/

/-- R232, R235, R237, R239, R252, R255, R256: the commands of the array, the deferred frames, the journal, the histories and the
image library.

R257: STORE_CAMPAIGN_START starts a campaign in the lowest free place of four from an image that is READY, STATUS tells its
pass and members, STOP ends it.
What the spec leaves open here is the model's choice: log 15, log 16, log 44 and log 78. -/
def Obligations.StoreCommandsAct : Prop :=
  (
  ∀ (e : Entry) (s : State),
    let r := e.req
    let a := s.store.array
    let n := fld r 0 4
    let k := byteAt r 0
    (CmdRuns (.storeFormat e) s → arrayUp s = false → byteAt r 0 < 16 → popCount (byteAt r 0) = 3 ∨ popCount (byteAt r 0) = 4 →
      (bitList 4 (byteAt r 0)).all (formatOk (byteAt r 1) s) = true → byteAt r 1 < 16 → s.jobs.running.length < 16 →
      ∃ t, StartsJob (.storeFormat e) 0x0902 e s t ∧ t.store = s.store)
    ∧ (∀ d pos, CmdRuns (.storeDriveAdd e) s → a.mode = .degraded → driveOf s k = some d → absentPosition a = some pos → portPosition s k = none →
      (d.info.label = none ∨ bit (byteAt r 1) 0 = true) →
      unusable (needFor a.chunks) { d.info with lba4096 := d.info.lba4096 || bit (byteAt r 1) 0 } = none → s.jobs.running.length < 16 →
      ∃ t, StartsJob (.storeDriveAdd e) 0x0903 e s t ∧ t.store.array.mode = .rebuilding ∧ t.store.array.rebuilding = 2 ^ pos
        ∧ positionPort t pos = some k ∧ t.store.array.rebuild.map (fun x => (x.position, x.next, x.highWater)) = some (pos, 0, a.highWater))
    ∧ (CmdRuns (.storeDriveRetire e) s → k < 4 → a.mode = .normal →
      ∃ t, exec (.storeDriveRetire e) s = .next t ∧ Answered e .ok 0 [] t ∧ t.store.array.mode = .degraded
        ∧ bit t.store.array.present k = false ∧ positionPort t k = none
        ∧ ∀ p, positionPort s k = some p → (driveOf s p).isSome = true → (driveOf t p).map (·.idled) = some true)
    ∧ (n < nodeCount → nodeState s n ≠ 0 →
      let d := ddqOf s n
      let age := match (ddqFrames d).head? with
        | some f => since s f.at_ / secTicks
        | none => 0
      (CmdRuns (.storeDdqGet e) s → Does (.storeDdqGet e) e s (leBytes 2 d.chip.length ++ leBytes 4 (ddqBytes d.chip) ++ leBytes 2 d.spill.length
          ++ leBytes 4 (ddqBytes d.spill) ++ leBytes 4 age) s)
      ∧ (CmdRuns (.storeDdqFlush e) s →
        ∃ t, exec (.storeDdqFlush e) s = .next t ∧ Answered e .ok 0 (leBytes 4 (ddqFrames d).length) t ∧ ddqFrames (ddqOf t n) = []
          ∧ ∀ m, m ≠ n → ddqOf t m = ddqOf s m))
    ∧ (let off := fld r 4 4
       let first := bit (byteAt r 1) 0
       let last := bit (byteAt r 1) 1
       let data := r.drop (if first then 48 else 8)
       let x := if first then ({ mode := .loading, imageId := fld r 8 2, length := fld r 12 4, blockLen := fld r 10 2, digest := slice r 16 32, bytes := [] } : ImageSlot)
         else imageOf s k
       let y := { x with bytes := Sparse.setRun (fun _ => 0) x.bytes off data }
       CmdRuns (.storeImagePut e) s → arrayUp s = true →
       (first = true → (imageOf s k).mode ≠ .ready ∧ 64 ≤ fld r 10 2 ∧ fld r 10 2 ≤ 1536 ∧ 0 < fld r 12 4 ∧ fld r 12 4 ≤ 67108864) →
       (first = false → (imageOf s k).mode = .loading) → off + data.length ≤ x.length →
       ∃ t, exec (.storeImagePut e) s = .next t ∧ (∀ j, j ≠ k → imageOf t j = imageOf s j)
         ∧ (last = false → Answered e .ok 0 [] t ∧ imageOf t k = y)
         ∧ (last = true → sha256 (imageBytes y) = y.digest → Answered e .ok 0 [] t ∧ imageOf t k = { y with mode := .ready })
         ∧ (last = true → sha256 (imageBytes y) ≠ y.digest → Answered e .authFail 0 [] t ∧ imageOf t k = ImageSlot.reset))
    ∧ (CmdRuns (.storeImageDelete e) s → (imageOf s k).mode ≠ .free → campaignUses s k = false →
      ∃ t, exec (.storeImageDelete e) s = .next t ∧ Answered e .ok 0 [] t ∧ imageOf t k = ImageSlot.reset ∧ ∀ j, j ≠ k → imageOf t j = imageOf s j)
    ∧ (∀ bs idx, CmdRuns (.storeJournalRead e) s → k ≤ 1 → byteAt r 1 ≤ 1 → readStart r s = some (bs, idx) →
      let last := match (readBlocks s.store.journal).getLast? with
        | some b => b.seq + 1
        | none => s.store.journal.nextSeq
      let x := if k = 0 then gatherBlocks bs idx readRoom last else gatherRecords bs idx readRoom last
      Does (.storeJournalRead e) e s (leBytes 8 (x.2.1 % 2 ^ 40 + x.2.2 * 2 ^ 40) ++ zeros 8 ++ x.1) s)
    ∧ (CmdRuns (.storeHistoryRead e) s → n < 262144 →
      Does (.storeHistoryRead e) e s (padTo 1024 ((Sparse.get (fun _ => []) s.store.history n).map (leBytes 8)).flatten) s)
  )
  ∧ (
  ∀ (e : Entry) (s : State),
    let r := e.req
    let x := imageOf s (byteAt r 0)
    let all := bit (byteAt r 5) 0
    (∀ k, CmdRuns (.storeCampaignStart e) s → x.mode = .ready → phyOk (byteAt r 1) (byteAt r 2) (byteAt r 3) = true → byteAt r 4 ≠ 0 →
      fld r 6 2 ≤ 63 → (all = true ∨ fld r 8 2 ≠ 0) → (∀ n ∈ campaignNodes r, n < nodeCount) →
      (List.range 4).find? (fun k => (campaignOf s k).isNone) = some k →
      ∃ t c, exec (.storeCampaignStart e) s = .next t ∧ Answered e .ok 0 (leBytes 4 k) t ∧ campaignOf t k = some c ∧ c.slot = byteAt r 0
        ∧ c.imageId = x.imageId ∧ c.blockCount = (x.length + x.blockLen - 1) / x.blockLen
        ∧ c.members = (if all then none else some (campaignNodes r)) ∧ c.slotframe = fld r 6 2
        ∧ c.phy = byteAt r 1 ∧ c.option = byteAt r 2 ∧ c.mcs = byteAt r 3 ∧ c.maxPasses = byteAt r 4 ∧ c.pass = 1 ∧ c.nextBlock = 0
        ∧ ∀ j, j ≠ k → campaignOf t j = campaignOf s j)
    ∧ (∀ c, campaignOf s (byteAt r 0) = some c →
      (CmdRuns (.storeCampaignStatus e) s → Does (.storeCampaignStatus e) e s
        (leBytes 4 c.pass ++ leBytes 4 (campaignTally s c).1 ++ leBytes 4 (campaignTally s c).2.1 ++ leBytes 4 (campaignTally s c).2.2) s)
      ∧ (CmdRuns (.storeCampaignStop e) s →
        ∃ t, exec (.storeCampaignStop e) s = .next t ∧ Answered e .ok 0 [] t ∧ campaignOf t (byteAt r 0) = none
          ∧ ∀ j, j ≠ byteAt r 0 → campaignOf t j = campaignOf s j))
  )

/-- R21, R451, R454, R457, R458, R464: the commands of self-test, health report, crossings and dumps.

R443, R445, R451, R452, R464: errors of memories, the ends of tests and the copy of a dump. A corrected error is counted,
and its third within a day makes the row a repair candidate; an uncorrectable one loses what the word held.
What the spec leaves open here is the model's choice: log 47, log 48, log 49 and log 69. -/
def Obligations.IntegrityActs : Prop :=
  (
  ∀ (e : Entry) (s : State),
    let r := e.req
    let k := byteAt r 0
    (CmdRuns (.diagHealthGet e) s → Does (.diagHealthGet e) e s (healthReport (countReport s)) (countReport s))
    ∧ (let named := fun (x : HealthEntry) => x.locus == fld r 0 4 && x.code == fld r 4 2
       CmdRuns (.diagHealthResolve e) s → s.integ.health.any named = true →
       Does (.diagHealthResolve e) e s []
         (modInteg (fun i => { i with health := i.health.map (fun x => if named x then { x with resolved := true } else x) }) s))
    ∧ (CmdRuns (.diagBistRun e false) s → (bistLoci r).all (bistPermitted s) = true → s.jobs.running.length < 16 →
      ∃ t, StartsJob (.diagBistRun e false) 0x0A03 e s t ∧ t.integ = s.integ)
    ∧ (∀ depth count, CmdRuns (.diagLatticeStatus e) s → crossingSize k = some (depth, count) → fld r 2 2 < count →
      let key := k * 1024 + fld r 2 2
      Does (.diagLatticeStatus e) e s (leBytes 4 (crossingWord s k (fld r 2 2) depth) ++ ctrBytes s .lattice key 0 3)
        (modInteg (fun y => { y with noCreditRead := Sparse.set (fun _ => 0) y.noCreditRead key (ctrGet s .lattice key 0) }) s))
    ∧ (CmdRuns (.diagDumpRead e) s → k ≤ 1 → dumpHeld s k = true → s.jobs.running.length < 16 →
      ∃ t, StartsJob (.diagDumpRead e) 0x0A08 e s t ∧ ∀ j, dumpOf t j = dumpOf s j)
    ∧ (CmdRuns (.diagDumpErase e) s → k ≤ 1 → arrayUp s = true →
      ∃ t, exec (.diagDumpErase e) s = .next t ∧ Answered e .ok 0 [] t ∧ dumpOf t k = { DumpHead.reset with seq := (dumpOf s k).seq }
        ∧ ∀ j, j ≠ k → dumpOf t j = dumpOf s j)
    ∧ (CmdRuns (.diagDumpForce e) s →
      ∃ t, exec (.diagDumpForce e) s = .next t ∧ Answered e .ok 0 [] t ∧ t.mode.mode = .dump ∧ t.mode.enteredAt = s.now
        ∧ t.jobs.running = [] ∧ t.integ.lastFatal.map (fun x => (x.cause, x.locus)) = some (9, 0xFFFFFFFF))
    ∧ (CmdRuns (.twinResync e) s → standby s = true → twinEnabled s = true → s.chord.twin.job = none → s.jobs.running.length < 16 → s.jobs.next < 2 ^ 32 →
      ∃ t, StartsJob (.twinResync e) 0x0805 e s t ∧ t.chord.twin.synced = false ∧ t.chord.twin.resync.isSome = true
        ∧ t.chord.twin.job = some s.jobs.next)
  )
  ∧ (
  ∀ (dt locus addr : Nat) (s : State), let b := begin dt s
    alive b = true →
    (∀ m, corrects m = true →
      ∃ t, exec (.scrubPass dt m false locus addr) s = .next t
        ∧ ctrGet t .ecc 0 (2 * memRow m) = ctrGet (ctrInc .ecc 0 (2 * memRow m) b) .ecc 0 (2 * memRow m)
        ∧ (2 ≤ ((Sparse.get (fun _ => []) b.integ.corrected locus).filter (fun t => decide (b.now < t + 86400 * secTicks))).length →
            b.integ.candidates.length < 64 → locus ∈ t.integ.candidates))
    ∧ (∀ place, ∃ t, exec (.scrubPass dt (.l2 place) true locus addr) s = .next t ∧ entryAt t.sw.l2 place = none
        ∧ ctrGet t .ecc 0 3 = ctrGet (ctrInc .ecc 0 3 b) .ecc 0 3)
    ∧ (∀ key, ∃ t, exec (.scrubPass dt (.counter key) true locus addr) s = .next t
        ∧ Sparse.get (fun _ => 0) t.ctr key = if key = ctrKey .ecc 0 23 then 1 else 0)
    ∧ (∀ n, ∃ t, exec (.scrubPass dt (.keySlot n) true locus addr) s = .next t ∧ (slotOf t n).state = .bad)
    ∧ (∀ j, runningJob b 0x0A03 = some j →
        (∀ failed, let l := (bistLoci j.req).filter failed.contains
          ∃ t, exec (.bistRunDone dt failed true) s = .next t ∧ t.jobs.completed.head?.map (fun x => (x.handle, x.status, x.result))
            = some (j.handle, .ok, leBytes 4 l.length ++ leBytes 4 (l.headD 0xFFFFFFFF))))
    ∧ (standby b = true → b.integ.stepUnit = none →
        ∃ t, exec (.selftestStep dt locus addr none) s = .next t ∧ t.integ.stepUnit = some locus ∧ t.integ.health = b.integ.health)
    ∧ (standby b = true → b.integ.stepUnit = some locus →
        (∃ t, exec (.selftestStep dt locus addr (some true)) s = .next t ∧ t.integ.stepUnit = none ∧ t.integ.cycleFailed = b.integ.cycleFailed
          ∧ t.integ.cyclePct = max b.integ.cyclePct (min 100 addr))
        ∧ (∃ t, exec (.selftestStep dt locus addr (some false)) s = .next t ∧ t.integ.stepUnit = none
          ∧ t.integ.cycleFailed = b.integ.cycleFailed ++ [locus]))
    ∧ (∀ j q, runningJob b 0x0A08 = some j → (queueOf b j.queue).owner = some q → dumpHeld b (byteAt j.req 0) = true →
        let h := dumpOf b (byteAt j.req 0)
        h.length * 4096 ≤ fld j.req 16 4 →
        ∃ t, exec (.dumpReadDone dt true) s = .next t ∧ dumpOf t (byteAt j.req 0) = { h with state := 4 }
          ∧ t.jobs.completed.head?.map (fun x => (x.handle, x.status, x.result)) = some (j.handle, .ok, leBytes 4 (h.length * 4096)))
  )

/-! ### Storage and integrity: events -/

/-- R227, R232 to R238: a member that fails leaves the array; an I/O command that times out is aborted, then its controller is
reset; a rebuild goes stripe by stripe, and at its end the array is NORMAL.

R243, R248, R250: the oldest record of the journal crossing joins the open block; an open block is closed on its time and
written to the ring where it fits, or waits in staging with no array.
What the spec leaves open here is the model's choice: log 12 and log 13. -/
def Obligations.StorageEventsAct : Prop :=
  (
  ∀ (dt p : Nat) (s : State), let b := begin dt s
    alive b = true →
    let a := b.store.array
    let fails := fun (c : Instr) => ∀ pos, portPosition b p = some pos → bit a.present pos = true → arrayUp b = true →
      ∃ t, exec c s = .next t ∧ t.store.array.mode = afterFailure a pos ∧ bit t.store.array.present pos = false ∧ positionPort t pos = none
    fails (.controllerFatalStatus dt p)
    ∧ fails (.driveLinkTimeout dt p) ∧ (∃ t, exec (.driveLinkTimeout dt p) s = .next t ∧ driveOf t p = none)
    ∧ fails (.nvmeAsyncEvent dt p true false)
    ∧ (b.mode.mode.mailboxes = true → (driveOf b p).isSome = true → 60 * secTicks ≤ since b (Sparse.get (fun _ => 0) b.store.smartAt p) →
        fails (.smartPoll dt p true false)
        ∧ ∃ t, exec (.smartPoll dt p false false) s = .next t ∧ Sparse.get (fun _ => 0) t.store.smartAt p = b.now ∧ t.store.array = a)
    ∧ (∀ d, driveOf b p = some d →
        (d.resetAt ≠ none → fails (.controllerReadyTimeout dt p))
        ∧ (∀ i ∈ d.io, (∀ j ∈ d.io, j.id = i.id → j = i) →
          (∀ seq, i.block = some seq →
            (∀ q x j, driveOf b q = some x → j ∈ x.io → j.block = some seq → q = p ∧ j.id = i.id) → (∀ q ∈ b.store.drives, driveOf b q.1 = q.2) →
            ∃ t, exec (.nvmeCommandComplete dt p i.id 0) s = .next t
              ∧ t.store.journal.blocks = b.store.journal.blocks.map (fun x => if x.seq = seq then { x with durable := true } else x))
          ∧ (i.write = true → i.retried = false →
            ∃ t, exec (.nvmeCommandComplete dt p i.id 2) s = .next t
              ∧ (driveOf t p).map (·.io) = some (d.io.filter (fun j => j.id != i.id)
                  ++ [{ id := b.store.nextIo, write := true, stripe := i.stripe, since := b.now, retried := true, abortAt := none, block := i.block }]))
          ∧ (i.write = true → i.retried = true → fails (.nvmeCommandComplete dt p i.id 2))
          ∧ (i.abortAt = none → 2 * secTicks ≤ since b i.since → (d.timeouts.filter (fun t => decide (b.now < t + 60 * secTicks))).length < 2 →
            ∃ t, exec (.nvmeIoTimeout dt p i.id) s = .next t ∧ .nvme p 0x08 i.stripe ∈ t.out
              ∧ (driveOf t p).map (·.io) = some (d.io.map (fun j => if j.id = i.id then { j with abortAt := some b.now } else j)))
          ∧ (∀ t0, i.abortAt = some t0 → secTicks ≤ since b t0 →
            ∃ t, exec (.nvmeAbortTimeout dt p i.id) s = .next t ∧ (driveOf t p).map (·.resetAt) = some (some b.now))))
    ∧ (∀ i, p < 4 → portFailed b (0x82 + p) = false → portPosition b p = none → b.mode.mode.mailboxes = false ∨ absentPosition a = none →
        ∃ t, exec (.driveInserted dt p i) s = .next t ∧ driveOf t p = some (Drive.fresh i))
    ∧ (∀ r, a.rebuild = some r → r.next < r.highWater → rebuildPaced b r = true →
        ∃ t, exec (.rebuildStripe dt) s = .next t ∧ t.store.array.rebuildPoint = r.next + 1
          ∧ t.store.array.rebuild = some { r with next := r.next + 1, done := r.done + 1 })
    ∧ (∀ r, a.rebuild = some r → r.highWater ≤ r.next → a.chunks ≤ r.zeroNext →
        ∃ t, exec (.rebuildComplete dt) s = .next t ∧ t.store.array.mode = .normal ∧ t.store.array.rebuilding = 0 ∧ t.store.array.rebuild = none)
    ∧ (∀ j, runningJob b 0x0902 = some j →
        let caps := (bitList 4 (byteAt j.req 0)).filterMap (fun p => (driveOf b p).map (·.info.capacity))
        ∃ t, exec (.storeFormatDone dt) s = .next t ∧ t.store.array.chunks = chunksFor caps ∧ t.store.images = [] ∧ t.store.history = []
          ∧ t.store.array.mode = (if (bitList 4 (byteAt j.req 0)).length = 4 then .normal else .degraded)
          ∧ t.jobs.completed.head?.map (fun x => (x.handle, x.status)) = some (j.handle, .ok))
  )
  ∧ (
  ∀ (dt : Nat) (s : State), let b := begin dt s
    alive b = true →
    let j := b.store.journal
    (∀ r rest, journalRuns b = true → j.x08 = r :: rest →
      ∃ t, exec (.journalRecord dt) s = .next t ∧ t.store.journal.x08 = rest ∧ t.store.journal.open_.getLast? = some r
        ∧ (blockFull j.open_ r = false → t.store.journal.open_ = j.open_ ++ [r] ∧ t.store.journal.blocks = j.blocks))
    ∧ (j.open_ ≠ [] → flushTicks b ≤ since b j.openAt →
      (arrayUp b = true → ringUsed j + storedLen j.open_ ≤ journalBytes b.store.array →
        ∃ t, exec (.journalBlockClose dt) s = .next t
          ∧ t.store.journal.blocks = j.blocks ++ [{ seq := j.nextSeq, pos := j.tail, recs := j.open_, stored := storedLen j.open_, durable := false, lost := false }]
          ∧ t.store.journal.nextSeq = (j.nextSeq + 1) % 2 ^ 40)
      ∧ (arrayUp b = false → stagingBytes j + storedLen j.open_ ≤ 1048576 →
        ∃ t, exec (.journalBlockClose dt) s = .next t ∧ t.store.journal.staging = j.staging ++ [j.open_] ∧ t.store.journal.open_ = []
          ∧ t.store.journal.blocks = j.blocks))
  )

/-! ### Ports and switch: events -/

/-- R264 to R277, R352: what happens at the MAC of a port. A frame that passes every check is committed with its bytes, a short one
is counted; PAUSE and PFC hold what they name until their quanta end; a count that reaches its threshold asserts and one that has
fallen releases; a sent frame leaves whole, one that underruns is cut and raises the threshold.
What the spec leaves open here is the model's choice: log 17 and log 79. -/
def Obligations.PortEventsAct : Prop :=
  ∀ (dt p : Nat) (s : State), let b := begin dt s
    alive b = true →
    let x := swPort b p
    let hold := fun (t : State) (i : Nat) => Sparse.get (fun _ => 0) (swPort t p).hold i
    (∀ f ago, macReceives b p = true → f.length + 4 < 64 →
      ∃ t, exec (.ingressFrame dt p f true false ago 0 0) s = .next t ∧ ingressList t p = ingressList b p
        ∧ ctrGet t .port p 7 = ctrGet (portCount p 7 b) .port p 7)
    ∧ (∀ f ago q, macReceives b p = true → 64 ≤ f.length + 4 → f.length + 4 ≤ portCfg b p 4 → fldBE f 12 2 ≠ 0x8808 → (portTag b p f).vid ≠ 0xFFF →
      ingressQueue b p (portTag b p f) = some q → forwards b = true → pairOf b p = none → (ingressList b p).length < 64 →
      cellsFor f.length ≤ freeCells b → flushCatches b p (b.now - ago) = none →
      ∃ t k, exec (.ingressFrame dt p f true false ago 0 0) s = .next t ∧ ingressList t p = ingressList b p ++ [k] ∧ k.bytes = f ∧ k.md.src = p
        ∧ ∀ p', p' ≠ p → ingressList t p' = ingressList b p')
    ∧ (∀ quanta da, macReceives b p = true → portCfg b p 13 = 1 → da = pauseDa ∨ da = portCfg b p 5 →
      ∃ t, exec (.pauseFrameReceived dt p da quanta) s = .next t ∧ hold t 8 = quantaEnd b p quanta)
    ∧ (∀ da vector times, macReceives b p = true → portCfg b p 13 = 2 → da = pauseDa ∨ da = portCfg b p 5 →
      ∃ t, exec (.pfcFrameReceived dt p da vector times) s = .next t
        ∧ ∀ i, i < 8 → bit (vector &&& portCfg b p 14) i = true → hold t i = quantaEnd b p (times.getD i 0))
    ∧ (x.hold.any (fun h => decide (h.2 ≤ b.now)) = true →
      ∃ t, exec (.pauseTimerExpiry dt p) s = .next t ∧ (swPort t p).hold = x.hold.filter (fun h => decide (b.now < h.2)))
    ∧ (∀ i, i ∈ watchDue b p (fun i => !bit x.xoff i && decide (portCfg b p 15 ≤ watchCount b p i)) →
      ∃ t, exec (.xoffThreshold dt p) s = .next t ∧ bit (swPort t p).xoff i = true ∧ ∃ f, .frame p f false ∈ t.out)
    ∧ (∀ i, i ∈ watchDue b p (fun i => bit x.xoff i && decide (watchCount b p i ≤ portCfg b p 16)) →
      ∃ t, exec (.xonThreshold dt p) s = .next t ∧ bit (swPort t p).xoff i = false ∧ ∃ f, .frame p f false ∈ t.out)
    ∧ (∀ i, i ∈ watchDue b p (fun i => bit x.xoff i && decide (portCfg b p 16 < watchCount b p i)
          && decide (Sparse.get (fun _ => 0) x.xoffAt i + (quantaEnd b p (portCfg b p 17) - b.now) / 2 ≤ b.now)) →
      ∃ t, exec (.pauseRefresh dt p) s = .next t ∧ bit (swPort t p).xoff i = true ∧ ∃ f, .frame p f false ∈ t.out)
    ∧ (∀ r rest, isMac p = true → macSends b p = true → egressList b p = r :: rest → pauseHeld b p 8 = false →
      ∃ t, exec (.egressFrameSend dt p) s = .next t ∧ egressList t p = rest
        ∧ (ptpHeader r.pkt.md = none → (egressFrame b r).length + 4 ≤ portCfg b p 4 → .frame p (egressFrame b r) false ∈ t.out))
    ∧ (∀ r rest sent, isMac p = true → macSends b p = true → egressList b p = r :: rest → sent < (egressFrame b r).length →
      x.thresh < (egressFrame b r).length + 4 → (egressFrame b r).length + 4 ≤ portCfg b p 4 →
      ∃ t, exec (.txUnderrun dt p sent) s = .next t ∧ egressList t p = rest ∧ .frame p ((egressFrame b r).take sent) true ∈ t.out
        ∧ swPort t p = { x with thresh := max x.thresh (min (x.thresh + 256) (threshCap b p)), good := 0 })
    ∧ (portCfg b p 19 ≤ x.good →
      ∃ t, exec (.underrunDecay dt p) s = .next t ∧ swPort t p = { x with good := 0, thresh := max (threshBase b p) (x.thresh - 256) })
    ∧ (isMac p = true → x.linkUp = true →
      ∃ t, exec (.linkDown dt p false) s = .next t ∧ (swPort t p).linkUp = false ∧ (swPort t p).hold = []
        ∧ ctrGet t .port p 42 = ctrGet (portCount p 42 (accruePause p b)) .port p 42)
    ∧ (∀ rate, p = 0x40 ∨ p = 0x41 → portCfg b p 1 = 7 → rate ∈ [10, 100, 1000] →
      ∃ t, exec (.sgmiiSpeedChange dt p rate false) s = .next t ∧ (swPort t p).sgmii = rate ∧ (swPort t p).linkUp = x.linkUp)
    ∧ (∀ sa seq y, y ∈ b.sw.prpTable → y.pair = p → y.sa = sa → y.seq = seq → y.since + cfgNat b 0x0502 2 0 * msTicks ≤ b.now →
      ∃ t, exec (.prpForgetExpiry dt p sa seq) s = .next t ∧ y ∉ t.sw.prpTable)

/-- R281, R312 to R325, R341, R349, R254, R419: what happens in the switch: a pipeline takes the next committed packet, a port sends
the head of the queue it decided for, the learning engine, the sweeper and the messages of other members change the L2 table, a flush
completes, and a held record is released.
What the spec leaves open here is the model's choice: log 6, log 66 and log 79. -/
def Obligations.SwitchEventsAct : Prop :=
  ∀ (dt n : Nat) (s : State), let b := begin dt s
    alive b = true →
    (∀ p k rest, forwards b = true ∨ standsBy b = true → nextSource b n = some p → ingressList b p = k :: rest →
      ∃ t, exec (.pipelinePacket dt n) s = .next t ∧ ingressList t p = rest ∧ Sparse.get (fun _ => 0) t.sw.rr n = p + 1)
    ∧ (∀ x rest, Sparse.get (fun _ => []) b.sw.slow n = x :: rest →
      ∃ t, exec (.slowPathReturn dt n) s = .next t ∧ Sparse.get (fun _ => []) t.sw.slow n = rest
        ∧ (x.left + 100 * usTicks < b.now → t.sw.queues = b.sw.queues))
    ∧ (∀ q x r rest, portServed b n = true → isMac n = true → decideQueue b n = (some q, x) → queueList b n q = r :: rest → r.port = n →
      (∀ m, m < 4 → cfgNat b 0x0501 1 m ≠ 1) →
      ∃ t, exec (.schedulerDecision dt n) s = .next t ∧ queueList t n q = rest ∧ egressList t n = egressList b n ++ [r])
    ∧ (∀ r rest place, b.sw.learnQ = r :: rest → l2Find b r.vid r.mac = none → urTableFull b = false →
      freePlace b.sw.l2 (l2Places r.vid r.mac) = some place →
      ∃ t, exec (.learnRequest dt) s = .next t ∧ t.sw.learnQ = rest ∧ entryAt t.sw.l2 place = some (newLearned b r)
        ∧ ∀ k, k ≠ place → entryAt t.sw.l2 k = entryAt b.sw.l2 k)
    ∧ (∀ r rest place e, b.sw.learnQ = r :: rest → l2Find b r.vid r.mac = some (place, e) → e.static = true →
      ∃ t, exec (.learnRequest dt) s = .next t ∧ t.sw.learnQ = rest ∧ t.sw.l2 = b.sw.l2)
    ∧ (∀ vid mac place e, l2Find b vid mac = some (place, e) → e.damped = true → cfgNat b 0x0700 10 0 * secTicks ≤ since b e.dampedAt →
      ∃ t, exec (.moveHoldExpiry dt vid mac) s = .next t ∧ entryAt t.sw.l2 place = some { e with damped := false, dampedAt := 0 })
    ∧ (∀ place e, entryAt b.sw.l2 place = some e → e.local = true → sweepVisit b 0 e.hit e.stamp e.missed = none →
      ∃ t, exec (.ageingSweep dt 0) s = .next t ∧ entryAt t.sw.l2 place = none)
    ∧ (∀ src compat epoch seq, chordRuns b = true → compatFar b compat = false → (memberOf b src).compatBad = false → (memberOf b src).behind = 0 →
      epoch ≤ b.cfg.epoch.toNat → Sparse.get (fun _ => 0) b.sw.expected src = seq → seq < 2 ^ 32 →
      (∀ vid mac port timeUs place, cfgNat b 0x0700 11 1 ≠ 0 → l2Find b vid mac = none → freePlace b.sw.l2 (l2Places vid mac) = some place →
        ∃ t e, exec (.learnMessageReceived dt src compat epoch 1 vid seq mac port timeUs) s = .next t ∧ entryAt t.sw.l2 place = some e
          ∧ e.mac = mac ∧ e.vid = vid ∧ e.port = port ∧ e.remote = true ∧ e.origin = src ∧ e.timeUs = timeUs)
      ∧ (∃ t, exec (.resyncReqReceived dt src compat epoch seq) s = .next t
          ∧ t.sw.originSeq = (b.sw.originSeq + ((b.sw.l2.filterMap (·.2)).filter L2Entry.local).length + 1) % 2 ^ 32))
    ∧ (∀ body src compat, chordRuns b = true → forwards b = true → compatFar b compat = false → src ≠ memberId b →
      (ingressList b chordPort).length < ingressDepth chordPort → cellsFor body.length ≤ freeCells b →
      ∃ t k, exec (.frameMessageReceived dt src compat body) s = .next t ∧ ingressList t chordPort = ingressList b chordPort ++ [k] ∧ k.bytes = body)
    ∧ (∀ x, x ∈ b.sw.flushes → x.port = n → x.ingress = true → x.rewound = false → x.since + 128 * usTicks ≤ b.now →
      ∃ t, exec (.flushForcedRewind dt n) s = .next t ∧ (∃ y ∈ t.sw.flushes, y.port = n ∧ y.rewound = true)
        ∧ t.sw.flushes.length = b.sw.flushes.length)
    ∧ (∀ x, b.sw.flushes.find? (fun y => y.port == n) = some x →
      ∃ t, exec (.queueFlushComplete dt n) s = .next t ∧ t.sw.flushes = b.sw.flushes.erase x
        ∧ ∀ c, x.cmd = some c → c.queue < 16 → c.writeOk = true →
            (queueOf t c.queue).cache.head?.map (fun r => (r.seq, r.status, r.body))
              = some (c.seq, .ok, leBytes 4 x.discarded ++ leBytes 4 x.items ++ leBytes 4 x.forced ++ zeros 4))
    ∧ (∀ since0 m key rec_ rest p part, b.store.journal.drain = some (since0, m) → forwards b = true →
      m * secTicks ≤ (b.now - since0) * cfgNat b 0x0100 6 0 → heldRecords b.store.journal = (key, rec_) :: rest →
      drainPort b (byteAt rec_.body 0) = some p → decideReplica (heldReplica p (rec_.body.drop 8) b).2 (heldReplica p (rec_.body.drop 8) b).1 = .enqueue part →
      ∃ t, exec (.heldDrainRelease dt) s = .next t ∧ t.store.journal.released = key
        ∧ (queueList t p 1).length = (queueList b p 1).length + 1)

/-! ### Radio -/

/-- R79, R80, R87, R88, R97, R106, R112: gain control and the application of configuration, in the state `d` in which the radio's
due starts have been made: a peak raises the gain index by 3 and a quiet time lowers it by 1; what a commit left waiting is applied
when its conditions hold; a duty window's bucket ends.
What the spec leaves open here is the model's choice: log 37 and log 72. -/
def Obligations.SectorEventsAct : Prop :=
  ∀ (dt k : Nat) (s : State), alive (begin dt s) = true → let d := radioDue (begin dt s)
    let x := sectorOf d k
    let follows := fun (t : State) (g row : Nat) => applied t g row 0 = cfgGet d g row 0
    (∀ adcB, let a := agcOf x adcB
      (agcActs d k = true → (a.raisedAt = 0 ∨ 2 * usTicks ≤ since d (a.raisedAt - 1)) → a.g ≠ 17 →
        ∃ t, exec (.gainIndexRaise dt k adcB) s = .next t ∧ (agcOf (sectorOf t k) adcB).g = min 17 (a.g + 3)
          ∧ agcOf (sectorOf t k) (!adcB) = agcOf x (!adcB))
      ∧ (agcActs d k = true → a.g ≠ 0 → appliedNat d (0x0900 + k) 8 0 * msTicks ≤ since d a.lowSince →
        ∃ t, exec (.gainIndexLower dt k adcB) s = .next t
          ∧ (agcOf (sectorOf t k) adcB).g = (if adcHeld d k adcB then a.g else a.g - 1)
          ∧ (adcHeld d k adcB = true → (agcOf (sectorOf t k) adcB).deferred = true)))
    ∧ (k < 8 → x.pendDac.isSome = true → onAir x = false → (∀ j ∈ x.jobs, j.phase = 1 → merNow d + 2 * usUnits < j.req.txStart) →
      ∃ t, exec (.dacRangeApply dt k) s = .next t ∧ follows t (0x0900 + k) 3 ∧ (sectorOf t k).pendDac = none ∧ (sectorOf t k).dacHold = false)
    ∧ (rangeHeld d x = true → ∃ t, exec (.dacRangeHold dt k) s = .next t ∧ (sectorOf t k).dacHold = true)
    ∧ (k < 8 → x.pendSector = true → onAir x = false →
      ∃ t, exec (.sectorCfgApply dt k) s = .next t ∧ (∀ row ∈ [1, 2, 4, 5, 6, 7, 8], follows t (0x0900 + k) row) ∧ (sectorOf t k).pendSector = false)
    ∧ (k < 8 → x.pendFront = true → (∀ j ∈ x.jobs, j.phase = 0) →
      ∃ t, exec (.frontEndCfgApply dt k) s = .next t ∧ (∀ row, 1 ≤ row → row ≤ 14 → follows t (0x0910 + k) row) ∧ (sectorOf t k).pendFront = false)
    ∧ (∀ t0, k < 8 → x.pendRx = some t0 → sectorLanes d k = [] →
      ∃ t, exec (.rxCfgApplication dt k) s = .next t ∧ (∀ row ∈ [1, 2], follows t (0x0930 + k) row)
        ∧ (∀ row ∈ [3, 4, 5, 6], ∀ i, i < 4 → applied t (0x0930 + k) row i = cfgGet d (0x0930 + k) row i) ∧ (sectorOf t k).pendRx = none)
    ∧ (∀ r p, record d = some r → p ∈ dutyKeys r → windowChannel r p.2.2.window = k →
      bucketTicks p.2.2 ≤ since d (dutyOf d (p.1 * 16 + p.2.1)).since →
      ∃ t, exec (.dutyBucketBoundary dt k) s = .next t
        ∧ (dutyOf t (p.1 * 16 + p.2.1)).since = (dutyOf d (p.1 * 16 + p.2.1)).since + bucketTicks p.2.2
        ∧ (dutyOf t (p.1 * 16 + p.2.1)).buckets.head? = some 0)
    ∧ (datapath d = .quiescent → (∃ w ∈ sectorWindows d k, w.1 ≤ meshTime d + 200 * usUnits) →
      ∃ t, exec (.sectorUngate dt k) s = .next t ∧ (sectorOf t k).window.isSome = true)
    ∧ (∀ e, x.window = some e → e ≤ meshTime d → sectorLanes d k = [] → x.jobs = [] → d.mesh.due = [] →
      ∃ t, exec (.rxWindowClose dt k) s = .next t ∧ (sectorOf t k).window = none)

/-- R89 to R94, R104: the transmit assembler. A request that is late is refused; one that passes its checks starts its sequence; a
denial removes it; a fall of the grant cuts the group's channels where COEX_ABORT = 1; a channel that ends leaves the assembler.
What the spec leaves open here is the model's choice: log 35 and log 71. -/
def Obligations.TransmitEventsAct : Prop :=
  ∀ (dt k id : Nat) (s : State), alive (begin dt s) = true → let d := radioDue (begin dt s)
    let x := sectorOf d k
    let jobs := fun (t : State) => (sectorOf t k).jobs
    (∀ q rest, Sparse.get (fun _ => []) d.radio.x05 k = q :: rest → sectorEnabled d k = true → radioMuted d = false →
      (merNow d ≤ q.txStart - leadEff d k - 250 * 65536 →
        ∃ t, exec (.ppduRequest dt k) s = .next t ∧ Sparse.get (fun _ => []) t.radio.x05 k = rest
          ∧ jobs t = x.jobs ++ [{ req := q, phase := 0, granted := false, entry := 0, charged := 0, level := 0, cal := 0 }])
      ∧ (q.txStart - leadEff d k - 250 * 65536 < merNow d →
        ∃ t, exec (.ppduRequest dt k) s = .next t ∧ Sparse.get (fun _ => []) t.radio.x05 k = rest ∧ ∀ j ∈ jobs t, j.req.id ≠ q.id))
    ∧ (∀ j, x.jobs.find? (fun j => j.req.id == id && j.phase == 0) = some j → j.req.txStart - leadEff d k ≤ merNow d → sectorEnabled d k = true →
      radioMuted d = false →
      (∀ c, txRefusal d k j.req false = some c → ∃ t, exec (.txStartSequence dt k id) s = .next t ∧ ∀ y ∈ jobs t, y.req.id ≠ id)
      ∧ (txRefusal d k j.req false = none → rangeHeld d x = false →
        ∃ t, exec (.txStartSequence dt k id) s = .next t ∧ ∃ y ∈ jobs t, y.req = j.req ∧ y.phase ≠ 0))
    ∧ (∀ j, x.jobs.find? (fun j => j.req.id == id && j.phase == 1 && !j.granted) = some j → j.req.txStart - feTime d k 12 ≤ merNow d →
      (∃ t, exec (.coexGrantSample dt k id true) s = .next t ∧ ∃ y ∈ jobs t, y.req = j.req ∧ y.granted = true)
      ∧ (∃ t, exec (.coexGrantSample dt k id false) s = .next t ∧ ∀ y ∈ jobs t, y.req.id ≠ id))
    ∧ (∀ g, ∃ t, exec (.coexGrantFall dt g) s = .next t ∧ bit t.radio.grants g = false
        ∧ (k < 8 → coexOn d k = true → sectorBand d k = g → applied d (0x0910 + k) 14 0 = 1 → ∀ y ∈ jobs t, y.phase ≠ 2))
    ∧ (∀ j, x.jobs.find? (fun j => j.req.id == id && j.phase == 2) = some j → reqEnd j.req ≤ merNow d →
      ∃ t, exec (.txEnd dt k id) s = .next t ∧ (∀ y ∈ jobs t, y.req.id ≠ id) ∧ (sectorOf t k).lastEnd = max x.lastEnd (reqEnd j.req))

/-- R114 to R126, R136: the receiver. A detection takes a free lane, or is suppressed by a lane on an overlapping channel that it does
not beat; the lane follows the frame to its header and its end, or is released; a good frame of a node is committed to its Facet.
What the spec leaves open here is the model's choice: log 39 and log 71. -/
def Obligations.ReceiveEventsAct : Prop :=
  ∀ (dt n : Nat) (s : State), alive (begin dt s) = true → let d := radioDue (begin dt s)
    (∀ k det (ma mb pa pb : Int), k < 8 → det < 512 →
      let e := detEntry d k det
      let layer := bits e 1 2
      bit e 0 = true → rxRuns d k = true → blanked d k = false → (sectorOf d k).pendRx = none → layerSpacing d k layer ≠ 0 →
      (bits e 21 7 : Int) < ma → -4 * (bits e 28 8 : Int) ≤ pa - feRxGain d k →
      let past := overlapping d k (chanCentre d k layer (bits e 3 10)) (layerSpacing d k layer)
      (past = [] → freeLane d k = some n →
        ∃ t y, exec (.preambleDetection dt k det ma mb pa pb) s = .next t ∧ laneAt t n = some y ∧ y.sector = k ∧ y.detector = det
          ∧ y.profile = bits e 13 8 ∧ y.metric = max ma mb ∧ y.header = none ∧ ∀ m, m ≠ n → laneAt t m = laneAt d m)
      ∧ (past ≠ [] → past.all (beats d k (max ma mb)) = false →
        ∃ t, exec (.preambleDetection dt k det ma mb pa pb) s = .next t ∧ t.radio.lanes = d.radio.lanes
          ∧ ctrGet t .rx k 1 = ctrGet (ctrInc .rx k 1 d) .rx k 1))
    ∧ (∀ x, laneAt d n = some x →
      (x.header = none →
        (∀ snrA snrB sfd, x.aerialB = none →
          ∃ t v, exec (.aerialSelection dt n snrA snrB sfd) s = .next t ∧ laneAt t n = some { x with aerialB := some v, skipped := sfd })
        ∧ (profPhy x.profile = 0 → ∃ t, exec (.sfdTimeout dt n) s = .next t ∧ laneAt t n = none
            ∧ ctrGet t .rx x.sector 5 = ctrGet (ctrInc .rx x.sector 5 d) .rx x.sector 5)
        ∧ (∀ h, headerFault d x h = none → ∃ t y, exec (.headerPoint dt n h.word h.length h.mcs h.ms h.reserved h.fcs32 h.dw h.hcsOk) s = .next t
            ∧ laneAt t n = some y ∧ y.header = some (laneHeader d x h) ∧ y.aerialB.isSome = true)
        ∧ (∀ h c, headerFault d x h = some c → ∃ t, exec (.headerPoint dt n h.word h.length h.mcs h.ms h.reserved h.fcs32 h.dw h.hcsOk) s = .next t
            ∧ laneAt t n = none))
      ∧ (∀ h, x.header = some h → h.words ≠ 0 →
        (∃ t, exec (.ldpcCodewordDecoded dt n true true) s = .next t ∧ laneAt t n = some { x with header := some { h with words := h.words - 1 } })
        ∧ (∃ t, exec (.ldpcCodewordDecoded dt n false true) s = .next t ∧ laneAt t n = none
            ∧ ctrGet t .rx x.sector 8 = ctrGet (ctrInc .rx x.sector 8 d) .rx x.sector 8)
        ∧ (∃ t, exec (.ldpcCodewordDecoded dt n true false) s = .next t ∧ laneAt t n = none))
      ∧ (∀ h psdu rssi alt noise evm ago, x.header = some h → h.words = 0 →
        let body := padTo h.length psdu
        let f := descriptorOf d n x h body { rssi, alt, noise, evm } ago
        (psduOk h.fcs32 body = false → ∃ t, exec (.ppduEnd dt n psdu rssi alt noise evm ago) s = .next t ∧ laneAt t n = none
          ∧ t.mesh.rxQueue = d.mesh.rxQueue ∧ ctrGet t .rx x.sector 7 = ctrGet (ctrInc .rx x.sector 7 d) .rx x.sector 7)
        ∧ (∀ node, psduOk h.fcs32 body = true → f.node = some node → actsOn f.endNs d = true → (rxQueueOf d (facetOf d node)).length < x04Depth →
          ∃ t, exec (.ppduEnd dt n psdu rssi alt noise evm ago) s = .next t ∧ laneAt t n = none
            ∧ rxQueueOf t (facetOf d node) = rxQueueOf d (facetOf d node) ++ [f])))

/-! ### The mesh: frames, slots, node records and deferred delivery -/

/-- R208, R209, R211, R214 to R217, R185, R189: a Facet takes the frame that is its turn. What the steps of R214 refuse is counted and
changes no node record; a frame whose MIC verifies and whose counter is new is accepted, and its counter becomes RX_FC; with a MIC that
does not verify only SEC_FAILS rises. Frames of unknown nodes leave the join queue with their copies, and waiting frames, copies and late
acknowledgements go when their times are over.
What the spec leaves open here is the model's choice: log 40 and log 73. -/
def Obligations.UplinkEventsAct : Prop :=
  ∀ (dt facet : Nat) (s : State), alive (begin dt s) = true → let d := radioDue (begin dt s)
    let counted := fun (t : State) (i : Nat) => ctrGet t .sec 0 i = ctrGet (ctrInc .sec 0 i d) .sec 0 i
    (∀ f rest n, meshServes d = true → facetHalted d facet = false → nextFrame (rxQueueOf d facet) = some (f, rest) → f.node = some n →
      let r := nodeOf d n
      let h := mhrOf (psduBody f.fcs32 f.psdu)
      let refused := fun (upset : Bool) (i : Nat) => ∃ t, exec (.uplinkFrame dt facet upset) s = .next t ∧ rxQueueOf t facet = rest ∧ counted t i
        ∧ ∀ m, nodeOf t m = nodeOf d m
      (r.state ≠ 0 → ∃ t, exec (.uplinkFrame dt facet true) s = .next t ∧ rxQueueOf t facet = rest ∧ counted t 1 ∧ (restoring t n).isSome = true)
      ∧ (recordOk? r = true → restoring d n = none →
        (r.state = 4 → refused false 1) ∧ (r.state = 2 → refused false 0)
        ∧ (r.state = 1 ∨ r.state = 3 → levelOk r h = false → refused false 2)
        ∧ (r.state = 1 ∨ r.state = 3 → levelOk r h = true → h.keyIdx ≠ r.keyGen.toNat → (r.rekey = false ∨ h.keyIdx ≠ pendingGen r) → refused false 3)
        ∧ (r.state = 1 ∨ r.state = 3 → levelOk r h = true → h.keyIdx = r.keyGen.toNat → h.counter ≠ 0xFFFFFFFF →
          (counterClass r.rxFc.toNat r.rxBitmap.toNat h.counter false = 4 → refused false 6)
          ∧ (∀ k, cachedKey d facet n h.keyIdx = some k → counterClass r.rxFc.toNat r.rxBitmap.toNat h.counter false ≠ 4 →
            match findSlot d r k.key (psduBody f.fcs32 f.psdu) h (slotCandidates d r.drift (likelySlot d n r.drift (startMesh d f))) with
            | none => ∃ t, exec (.uplinkFrame dt facet false) s = .next t ∧ rxQueueOf t facet = rest ∧ counted t 5
              ∧ nodeOf t n = { r with secFails := min 255 (r.secFails + 1), check := (nodeOf t n).check }
            | some _ => h.ftype ≠ 1 → counterClass r.rxFc.toNat r.rxBitmap.toNat h.counter false = 0 →
              ∃ t, exec (.uplinkFrame dt facet false) s = .next t ∧ rxQueueOf t facet = rest
                ∧ (nodeOf t n).rxFc = BitVec.ofNat 32 h.counter ∧ (nodeOf t n).rxBitmap.getLsbD 0 = true
                ∧ (nodeOf t n).keyGen = r.keyGen ∧ ∀ m, m ≠ n → (nodeOf t m).rxFc = (nodeOf d m).rxFc))))
    ∧ (∀ f rest, d.mesh.joinQueue = f :: rest →
      ∃ t, exec (.joinQueueFrame dt) s = .next t ∧ t.mesh.joinQueue = rest.filter (fun g => !sameCopy d f g))
    ∧ (∀ id x, d.mesh.due.find? (fun x => x.id == id) = some x → x.frame.endNs + turnaround x.frame.phy < nowNs d →
      ∃ t, exec (.ackTurnaroundExpiry dt id) s = .next t ∧ t.mesh.due = d.mesh.due.filter (fun x => x.id != id)
        ∧ ctrGet t .mac 0 6 = ctrGet (ctrInc .mac 0 6 d) .mac 0 6)
    ∧ (∃ t, exec (.copyHoldExpiry dt facet) s = .next t ∧ copiesOf t facet = (copiesOf d facet).filter (fun e => decide (since d e.at_ < copyHold d))
        ∧ ∀ g, g ≠ facet → copiesOf t g = copiesOf d g)
    ∧ (∀ e g fa n gen, engineOf d e = some g → g.derive = some (fa, n, gen) → (slotOf d (masterOf d gen)).state = .valid →
      tagOk d (masterOf d gen) = true → (∀ w ∈ d.mesh.waiters, waitsFor w fa n gen = false) → (nodeOf d n).state ≠ 0 →
      ∃ t, exec (.keyDerivationDone dt e) s = .next t ∧ cachedKey t fa n gen = some { node := n, gen, key := nodeKeyOf d (nodeOf d n).eui.toNat gen })
    ∧ (let late := fun (w : KeyWaiter) => w.facet == facet && decide (cfgNat d 0x0822 6 0 * usTicks ≤ since d w.since)
       ∃ t, exec (.keyWaitExpiry dt facet) s = .next t ∧ t.mesh.waiters = d.mesh.waiters.filter (fun w => !late w))

/-- R177, R186, R195, R203, R211, R218 to R220: a slot is planned once; an acknowledgement window that ends is a miss of its node, and at
the limit its drift model resets; leases, checkpoints and restorations of node records; and the daily sweep of old drift models.
What the spec leaves open here is the model's choice: log 31 and log 74. -/
def Obligations.NodeEventsAct : Prop :=
  ∀ (dt n : Nat) (s : State), alive (begin dt s) = true → let b := begin dt s
    let d := radioDue b
    (∀ a, meshServes d = true →
      (d.mesh.planned ≤ a → ∃ t, exec (.downlinkPlan dt a) s = .next t ∧ t.mesh.planned = a + 1)
      ∧ (a < d.mesh.planned → Occurs (.downlinkPlan dt a) dt s d))
    ∧ (∀ w, d.mesh.sent.find? (fun w => w.node == n && decide (w.closeAt + tmplTime d w.template 7 ≤ merNow d)) = some w →
      let k := min 7 ((nodeOf d n).drift.misses + 1)
      ∃ t, exec (.ackWindowExpiry dt n) s = .next t ∧ t.mesh.sent = d.mesh.sent.filter (fun x => x != w)
        ∧ (k < cfgNat d 0x0821 9 0 → (nodeOf t n).drift = { (nodeOf d n).drift with misses := k })
        ∧ (cfgNat d 0x0821 9 0 ≤ k → (nodeOf t n).drift = (nodeOf d n).drift.cleared))
    ∧ (∀ v, leasePending b n = some v →
      (isolated b = false → ∃ t, exec (.txLeaseExtensionRecorded dt n) s = .next t
        ∧ nodeOf t n = { nodeOf b n with txLease := v, check := (nodeOf t n).check } ∧ recordOk? (nodeOf t n) = true ∧ leasePending t n = none
        ∧ ∀ m, m ≠ n → nodeOf t m = nodeOf b m)
      ∧ (isolated b = true → v ≠ (nodeOf b n).txLease → Occurs (.txLeaseExtensionRecorded dt n) dt s b))
    ∧ (arrayUp b = true → b.mesh.checkpoint = none →
      (cfgNat b 0x0822 7 0 * msTicks ≤ since b b.mesh.checkpointAt →
        ∃ t recs, exec (.checkpoint dt) s = .next t ∧ t.mesh.checkpoint = some (recs, nowNs b) ∧ t.mesh.dirty = [] ∧ t.mesh.checkpointAt = b.now
          ∧ ∀ p ∈ b.mesh.nodes, Sparse.get (fun _ => false) b.mesh.dirty p.1 = true → p ∈ recs)
      ∧ (since b b.mesh.checkpointAt < cfgNat b 0x0822 7 0 * msTicks → Occurs (.checkpoint dt) dt s b))
    ∧ (∀ recs at0, b.mesh.checkpoint = some (recs, at0) →
      ∃ t, exec (.checkpointWritten dt) s = .next t ∧ t.mesh.checkpoint = none ∧ t.store.checkpointAt = some at0
        ∧ ∀ before p after, recs = before ++ p :: after → (∀ q ∈ after, q.1 ≠ p.1) →
            Sparse.get (fun _ => none) t.store.checkpoint p.1 = if p.2.state = 0 then none else some p.2)
    ∧ (restoring b n = some none →
      (∀ c, arrayUp b = true → Sparse.get (fun _ => none) b.store.checkpoint n = some c → recordOk? c = true → c.state ≠ 0 →
        ∃ t, exec (.nodeRecordRestoreDone dt n []) s = .next t ∧ restoring t n = none ∧ recordOk? (nodeOf t n) = true
          ∧ (nodeOf t n).eui = c.eui ∧ (nodeOf t n).rxFc = c.rxFc ∧ (nodeOf t n).keyGen = c.keyGen
          ∧ (nodeOf t n).txFc = BitVec.ofNat 32 (min (max c.txLease (Sparse.get (fun _ => 0) b.store.leases n) * 4096) 0xFFFFFFFF))
      ∧ (arrayUp b = false → ∃ t, exec (.nodeRecordRestoreDone dt n []) s = .next t ∧ restoring t n = none
          ∧ nodeOf t n = { nodeOf b n with state := 4, check := (nodeOf t n).check }))
    ∧ (∀ facet, let day := (meshTime b / (86400 * 1000000000 * 65536)).toNat + 1
       Sparse.get (fun _ => 0) b.mesh.ageSwept facet ≠ day →
       ∃ t, exec (.driftAgeSweep dt facet) s = .next t ∧ Sparse.get (fun _ => 0) t.mesh.ageSwept facet = day
         ∧ ∀ m, let r := nodeOf b m
             (r.state ≠ 0 → facetOf b m = facet → r.drift.n ≠ 0 → cfgNat b 0x0821 4 0 * 86400 * 65536 < modelAge b r.drift →
               (nodeOf t m).drift = r.drift.cleared)
             ∧ (modelAge b r.drift ≤ cfgNat b 0x0821 4 0 * 86400 * 65536 → (∀ p ∈ b.mesh.nodes, p.1 = m → p.2 = r) → nodeOf t m = r))

/-- R239 to R241: a downlink packet joins its node's deferred-delivery queue, or is refused where the queue's limits are met; a prefetch
reads the spilled frames that have not expired, and moves what the pool holds to the chip, in order and losing none; one that is not complete
50 ms before the node's wake is counted late.
What the spec leaves open here is the model's choice: log 32 and log 34. -/
def Obligations.DeferredDeliveryActs : Prop :=
  ∀ (dt n : Nat) (s : State), let b := begin dt s
    alive b = true →
    let q := ddqOf b n
    (∀ i r rest, i < 8 → meshServes b = true → egressList b (meshPort i) = r :: rest →
      (r.pkt.dest = none → ∃ t, exec (.deferredFrameArrival dt i) s = .next t ∧ egressList t (meshPort i) = rest
        ∧ t.mesh.broadcast = b.mesh.broadcast ++ [(i, Config.compress (2 ^ 18) (rewritten r.pkt))])
      ∧ (r.pkt.dest = some n →
        let f : DdqFrame := { seq := q.nextSeq, at_ := b.now, body := Config.compress n (rewritten r.pkt), ackReq := true, attempts := 0 }
        ∃ t, exec (.deferredFrameArrival dt i) s = .next t ∧ egressList t (meshPort i) = rest
          ∧ if cfgNat b 0x0A00 1 0 < (ddqFrames q).length + 1 ∨ cfgNat b 0x0A00 2 0 < ddqBytes (ddqFrames q ++ [f]) then
              ddqOf t n = q ∧ ctrGet t .store 0 1 = ctrGet (ctrInc .store 0 1 b) .store 0 1
            else if arrayUp b = true then ddqFrames (ddqOf t n) = ddqFrames q ++ [f]
            else if poolUsed b + ddqCells f ≤ poolCells then
              ddqOf t n = { q with chip := q.chip ++ [f], nextSeq := (q.nextSeq + 1) % 65536 } ∧ ∀ m, m ≠ n → ddqOf t m = ddqOf b m
            else ddqOf t n = q ∧ ctrGet t .store 0 3 = ctrGet (ctrInc .store 0 3 b) .store 0 3))
    ∧ (∀ w, wakeOf b n = some w → q.prefetch = none → q.spill ≠ [] → arrayUp b = true → w ≤ meshTime b + cfgGet b 0x0A00 5 0 * 1000 * usUnits →
      let live := q.spill.filter (fun f => !ddqExpired b f)
      ∃ t, exec (.prefetchStart dt n) s = .next t ∧ ddqOf t n = { q with spill := live, prefetch := some (w.toNat, live.length), late := false })
    ∧ (∀ w k, q.prefetch = some (w, k) →
      (∃ t, exec (.prefetchComplete dt n) s = .next t ∧ (∀ m, ddqFrames (ddqOf t m) = ddqFrames (ddqOf b m))
        ∧ (k ≤ q.spill.length → poolUsed b + (q.spill.take k).foldl (fun a f => a + ddqCells f) 0 ≤ poolCells → (ddqOf t n).prefetch = none))
      ∧ (prefetchDue w < meshTime b → q.late = false →
        ∃ t, exec (.prefetchDeadline dt n) s = .next t ∧ ddqOf t n = { q with late := true }
          ∧ ctrGet t .store 0 4 = ctrGet (ctrInc .store 0 4 b) .store 0 4))

/-! ### The cluster: links, twins and replication -/

/-- R413 to R416, R421, R438: a Chord link. A frame whose CRC is bad, or whose number is not the next, changes no number and is
acknowledged; a control frame's acknowledgement releases what it names; a message frame in order joins its lane's message; 8 µs without
acknowledgement send everything again, and after 16 times the link goes down, as it does on the loss of lock; HELLO brings a link up, and
holds it down where its sender is not the peer or bears this chip's number; a member unreachable for 10 ms leaves.
What the spec leaves open here is the model's choice: log 45 and log 77. -/
def Obligations.LinkEventsAct : Prop :=
  ∀ (dt l : Nat) (s : State), let b := begin dt s
    chordRuns b = true → l < 12 →
    let x := linkOf b l
    let down := fun (t : State) => (linkOf t l).up = false
    (∀ frame, portFailed b (0x60 + l) = false →
      let n := frame.length
      let body := frame.take (n - 4)
      let h := fld body 0 8
      let lane := bits h 0 3
      let good := 44 ≤ n ∧ crc32c body = fld frame (n - 4) 4
      (¬good → ∃ t, exec (.linkFrameReceived dt l frame) s = .next t ∧ (linkOf t l).expectSeq = x.expectSeq ∧ (linkOf t l).ackOwed = false
        ∧ (linkOf t l).lock = true ∧ ctrGet t .chord l 0 = ctrGet (ctrInc .chord l 0 b) .chord l 0)
      ∧ (good → lane = 7 → x.waiting = [] → ∀ before f after, x.unacked = before ++ f :: after → (∀ g ∈ before, g.seq ≠ bits h 16 12) →
        f.seq = bits h 16 12 → ∃ t, exec (.linkFrameReceived dt l frame) s = .next t ∧ (linkOf t l).expectSeq = x.expectSeq
          ∧ (linkOf t l).unacked = after ∧ (linkOf t l).resends = 0)
      ∧ (good → lane ≠ 7 → bits h 4 12 ≠ x.expectSeq →
        ∃ t, exec (.linkFrameReceived dt l frame) s = .next t ∧ (linkOf t l).expectSeq = x.expectSeq ∧ (linkOf t l).ackOwed = false
          ∧ (linkOf t l).partial_ = x.partial_)
      ∧ (good → lane ≠ 7 → bits h 4 12 = x.expectSeq → bit h 3 = false →
        ∃ t, exec (.linkFrameReceived dt l frame) s = .next t ∧ (linkOf t l).expectSeq = (x.expectSeq + 1) % 4096
          ∧ Sparse.get (fun _ => []) (linkOf t l).partial_ lane = Sparse.get (fun _ => []) x.partial_ lane ++ body.drop 8))
    ∧ (x.unacked ≠ [] → 8 * usTicks ≤ since b x.sentAt →
      (x.resends < 16 → ∃ t, exec (.linkFrameResend dt l) s = .next t ∧ (linkOf t l).unacked = x.unacked ∧ (linkOf t l).resends = x.resends + 1
        ∧ (linkOf t l).sentAt = b.now ∧ ∀ f ∈ x.unacked, Output.chord l (linkFrame (linkHeader x f.lane f.last f.seq) f.payload) ∈ t.out)
      ∧ (16 ≤ x.resends → activeTwin b = false → ∃ t, exec (.linkFrameResend dt l) s = .next t ∧ down t))
    ∧ (activeTwin b = false → ∃ t, exec (.chordLockLoss dt l) s = .next t ∧ down t ∧ (linkOf t l).lock = false)
    ∧ (msTicks ≤ since b b.chord.helloAt → ∃ t, exec (.helloSend dt) s = .next t ∧ t.chord.helloAt = b.now
        ∧ ∀ k, k < 12 → (linkPeer b k).isSome = true → ctrGet t .chord k 3 = ctrGet (ctrInc .chord k 3 b) .chord k 3)
    ∧ (since b b.chord.helloAt < msTicks → Occurs (.helloSend dt) dt s b)
    ∧ (∀ p src compat epoch body, portFailed b (0x60 + l) = false → linkPeer b l = some p →
      (src = memberId b → x.conflict = false → ∃ t, exec (.helloReceived dt l 15 src compat epoch body) s = .next t
        ∧ (linkOf t l).conflict = true ∧ ∀ k, k < 12 → (linkOf t k).up = false)
      ∧ (Calm src compat epoch b → src ≠ p → x.mismatch = false →
        ∃ t, exec (.helloReceived dt l 15 src compat epoch body) s = .next t ∧ down t ∧ (linkOf t l).mismatch = true)
      ∧ (Calm src compat epoch b → src = p → twinEnabled b = false → x.lock = true → (∀ k, k < 12 → k ≠ l → (linkOf b k).conflict = false) →
        ∃ t, exec (.helloReceived dt l 15 src compat epoch body) s = .next t ∧ (linkOf t l).up = true ∧ (linkOf t l).mismatch = false
          ∧ (linkOf t l).hello = some (src, toSigned 96 (fld body 40 12), merInt b) ∧ (memberOf t src).known = true
          ∧ (memberOf t src).mode = byteAt body 0 ∧ (memberOf t src).links = BitVec.ofNat 16 (fld body 2 2)))
    ∧ (∀ m t0, (memberOf b m).lostAt = some t0 → reachable b m = false →
      (10 * msTicks ≤ since b t0 → ∃ t, exec (.memberUnreachable dt m) s = .next t ∧ (memberOf t m).present = false ∧ (memberOf t m).lostAt = none)
      ∧ (since b t0 < 10 * msTicks → Occurs (.memberUnreachable dt m) dt s b))

/-- R422 to R426, R432, R433, R435, R436: the lease of a twin pair. The active twin renews it every 250 µs; its standby answers, and takes
over when the lease has expired and no precondition fails; the loss of LEASE_ACK begins ISOLATION_HOLD; at H the active twin hands off; and
health reports say whether the peer is healthy. The body layouts are the model's (log 45).
What the spec leaves open here is the model's choice: log 76. -/
def Obligations.TwinEventsAct : Prop :=
  ∀ (dt : Nat) (s : State), let b := begin dt s
    alive b = true →
    let w := b.chord.twin
    let tw := fun (t : State) => t.chord.twin
    (chordRuns b = true → w.held = true →
      (250 * usTicks ≤ since b w.leaseSentAt → ∃ t, exec (.leaseSend dt) s = .next t ∧ (tw t).renewal = w.renewal + 1 ∧ (tw t).leaseSentAt = b.now
        ∧ ∀ l ∈ twinLinks b, ctrGet t .chord l 4 = ctrGet (ctrInc .chord l 4 b) .chord l 4)
      ∧ (since b w.leaseSentAt < 250 * usTicks → Occurs (.leaseSend dt) dt s b))
    ∧ (∀ l src compat epoch body, TwinHeard src compat epoch b →
      (standby b = true →
        (w.gen.toNat ≤ fld body 0 4 → ∃ t, exec (.leaseReceived dt l src compat epoch body) s = .next t
          ∧ (tw t).gen = BitVec.ofNat 32 (fld body 0 4) ∧ (tw t).leaseAt = some b.now ∧ ctrGet t .chord l 5 = ctrGet (ctrInc .chord l 5 b) .chord l 5)
        ∧ (fld body 0 4 < w.gen.toNat → ∃ t, exec (.leaseReceived dt l src compat epoch body) s = .next t ∧ (tw t).gen = w.gen ∧ (tw t).leaseAt = w.leaseAt)
        ∧ (fld body 0 4 = 0 → w.handover = none → ∃ t, exec (.handoffReceived dt src compat epoch body) s = .next t
          ∧ (tw t).handover = some { slot := fld body 4 5, outgoing := false, trigger := fld body 9 3, offer := none, done := false })
        ∧ (∀ h, fld body 0 4 ≠ 0 → w.handover = some h → h.outgoing = false → h.done = false → receivedSum b = fld body 8 4 → outranks b 0x07 = true →
          ∃ t, exec (.handoffReceived dt src compat epoch body) s = .next t ∧ (tw t).held = true ∧ (tw t).gen = BitVec.ofNat 32 (fld body 4 4)
            ∧ (tw t).synced = true))
      ∧ (w.held = true → ∃ t, exec (.leaseAckReceived dt src compat epoch body) s = .next t
          ∧ (tw t).ackAt = if fld body 0 4 = w.gen.toNat then some b.now else w.ackAt)
      ∧ (∃ t, exec (.healthReceived dt src compat epoch body) s = .next t ∧ (tw t).health = body ∧ (tw t).healthAt = some b.now
          ∧ (tw t).healthOk = bit (fld body 0 4) 12 ∧ ((tw t).healthySince.isSome = bit (fld body 0 4) 12)))
    ∧ (∀ a, activeTwin b = true → w.held = true → w.peerLost = false → twinLinks b ≠ [] → w.ackAt = some a →
      (500 * usTicks ≤ since b a → w.waits = [] → ∃ t, exec (.leaseAckTimeout dt) s = .next t ∧ (tw t).peerLost = true ∧ (tw t).synced = false
        ∧ (tw t).isolatedUntil = some (b.now + cfgNat b 0x0B00 10 0 * 100 * msTicks))
      ∧ (since b a < 500 * usTicks → Occurs (.leaseAckTimeout dt) dt s b))
    ∧ (twinEnabled b = true → b.mode.mode = .standbyN ∨ b.mode.mode = .standbyC → leaseExpired b = true → outranks b 0x07 = true →
      (∀ n, failing b = some n → w.blocked ≠ some n → ∃ t, exec (.leaseExpiry dt) s = .next t ∧ (tw t).blocked = some n ∧ t.mode.trans = b.mode.trans)
      ∧ (failing b = none → w.confirmed = [] → ∃ t, exec (.leaseExpiry dt) s = .next t ∧ (tw t).held = true ∧ (tw t).gen = w.genHigh + 1
        ∧ t.mode.trans.map (fun r => (r.row, r.trigger)) = some (if b.mode.mode = .standbyC then 10 else 8, 0x07)))
    ∧ (∀ t0, w.startupAt = some t0 → twinLinks b = [] →
      (10 * msTicks ≤ since b t0 → ∃ t, exec (.twinStartupWait dt) s = .next t ∧ (tw t).startupAt = none ∧ (tw t).held = true ∧ (tw t).gen = w.genHigh + 1)
      ∧ (since b t0 < 10 * msTicks → Occurs (.twinStartupWait dt) dt s b))
    ∧ (∀ t0, w.isolatedUntil = some t0 →
      (t0 ≤ b.now → ∃ t, exec (.isolationHoldExpiry dt) s = .next t ∧ (tw t).isolatedUntil = none)
      ∧ (b.now < t0 → Occurs (.isolationHoldExpiry dt) dt s b))
    ∧ (∀ h, w.handover = some h → h.done = false →
      (h.outgoing = true → handoverDue b h = true → w.held = true → b.mode.trans = none →
        ∃ t, exec (.handoverInstant dt) s = .next t ∧ (tw t).held = false ∧ (tw t).handover = some { h with done := true }
          ∧ t.mode.trans.map (fun r => (r.row, r.toMode)) = some (if datapath b = .activeC then (10, .standbyC) else (9, .standbyN)))
      ∧ (h.outgoing = false → slotStart b h.slot + 1000 * usUnits ≤ meshTime b → ∃ t, exec (.handoffTimeout dt) s = .next t ∧ (tw t).handover = none))
    ∧ (standby b = true → twinEnabled b = true → chordRuns b = true → leaseExpired b = false → 100 * msTicks ≤ since b w.healthSentAt →
      ∃ t, exec (.healthSend dt) s = .next t ∧ (tw t).healthSentAt = b.now ∧ t.integ.reportSeq = b.integ.reportSeq + 1)
    ∧ (∀ t0, w.healthAt = some t0 → 300 * msTicks < since b t0 →
      ∃ t, exec (.healthGap dt) s = .next t ∧ (tw t).healthOk = false ∧ (tw t).healthySince = none)
    ∧ (∀ t0, w.healthySince = some t0 → cfgBit b 0x0B00 7 = true → activeTwin b = true → memberId b % 2 = 1 → w.held = true →
      cfgNat b 0x0B00 8 0 * secTicks ≤ since b t0 → standbyMeets b = true → w.handover = none → b.mode.trans = none →
      ∃ t, exec (.revertHoldExpiry dt) s = .next t
        ∧ (tw t).handover = some { slot := slotAfter 5000 b, outgoing := true, trigger := 0x08, offer := none, done := false })

/-- R427 to R430: a standby applies what its active twin replicates: node records, queues, journal records and keys; a gap ends SYNCED. The
active twin releases or withholds acknowledgements by their confirmations, and sends the journal's older blocks. The body layouts are the
model's (log 28, log 45). -/
def Obligations.ReplicationActs : Prop :=
  ∀ (dt src compat epoch seq : Nat) (body : List Byte) (s : State), let b := begin dt s
    alive b = true →
    let w := b.chord.twin
    let n := fld body 0 4
    let inOrder := fun cls part => Sparse.get (fun _ => 0) w.rxSeq (streamKey cls (memberId b) part) = seq + 1
    (TwinHeard src compat epoch b → standby b = true → w.handover = none →
      (n < nodeCount →
        (∃ t, exec (.replNodeReceived dt src compat epoch seq body) s = .next t ∧ shortOf t n = fld body 4 2
          ∧ nodeOf t n = { recordOf (slice body 8 64) with check := (nodeOf t n).check } ∧ (∀ m, m ≠ n → nodeOf t m = nodeOf b m)
          ∧ (inOrder 0x10 (n / 256) → t.chord.twin.synced = w.synced)
          ∧ (¬inOrder 0x10 (n / 256) → Sparse.get (fun _ => 0) w.rxSeq (streamKey 0x10 (memberId b) (n / 256)) ≠ 0 → t.chord.twin.synced = false))
        ∧ (byteAt body 4 = 2 → ∃ t, exec (.replDdqReceived dt src compat epoch seq body) s = .next t
          ∧ ddqFrames (ddqOf t n) = (ddqFrames (ddqOf b n)).drop 1 ∧ ∀ m, m ≠ n → ddqOf t m = ddqOf b m)
        ∧ (byteAt body 4 = 3 → ∃ t, exec (.replDdqReceived dt src compat epoch seq body) s = .next t
          ∧ ddqFrames (ddqOf t n) = [] ∧ ∀ m, m ≠ n → ddqOf t m = ddqOf b m))
      ∧ (let r := recordFrom body
         r.type ≠ 3 → blockFull b.store.journal.open_ r = false →
         ∃ t, exec (.jrnlMirrorReceived dt src compat epoch seq body) s = .next t ∧ t.store.journal.open_ = b.store.journal.open_ ++ [r])
      ∧ (let k := fld body 0 2
         (k < 1023 → fld body 2 2 = 2 → slotOwner (slotOf b k) = 0 → ∃ t, exec (.replKeyReceived dt src compat epoch seq body) s = .next t
           ∧ slotOf t k = KeySlot.reset ∧ ∀ j, j ≠ k → slotOf t j = slotOf b j)
         ∧ (1023 ≤ k → ∃ t, exec (.replKeyReceived dt src compat epoch seq body) s = .next t ∧ t.chord.twin.synced = false ∧ ∀ j, slotOf t j = slotOf b j)))
    ∧ (TwinHeard src compat epoch b →
      (∀ x, w.waits.find? (fun x => x.node == n && x.seq == fld body 4 4) = some x → (∀ d ∈ b.mesh.due, d.id ≠ x.ack) →
        ∃ t, exec (.replConfirmReceived dt src compat epoch body) s = .next t ∧ t.chord.twin.waits = w.waits.filter (fun y => y != x))
      ∧ (n = 3 → activeTwin b = true → ∃ t, exec (.resyncMessageReceived dt src compat epoch body) s = .next t ∧ t.chord.twin.synced = true)
      ∧ (∀ r, n = 2 → standby b = true → w.resync = some r → fld body 4 2 ≠ 0x30 →
        ∃ t, exec (.resyncMessageReceived dt src compat epoch body) s = .next t ∧ t.chord.twin.resync.map (·.ended) = some (fld body 4 2 :: r.ended)))
    ∧ (∃ t, exec (.replConfirmTimeout dt) s = .next t ∧ t.chord.twin.waits = w.waits.filter (fun x => decide (since b x.sentAt < 30 * usTicks))
        ∧ t.mesh.due = b.mesh.due.filter (fun d => !w.waits.any (fun x => decide (30 * usTicks ≤ since b x.sentAt) && x.ack == d.id)))
    ∧ (∀ r, w.resync = some r → standby b = true → r.failed = false → resyncClasses.all (fun c => r.ended.contains c) = true →
      r.marks.all (fun p => markReached b p || p.2 == 0) = true → (twinMember b).checks = checkValues b → leaseExpired b = false →
      ∃ t, exec (.bulkResyncComplete dt) s = .next t ∧ t.chord.twin.synced = true ∧ t.chord.twin.resync = none ∧ t.chord.twin.job = none)
    ∧ (∀ target, w.backfillTo = some target → replicates b = true → w.synced = true →
      let next := b.store.journal.blocks.find? (fun x => decide (w.backfill ≤ x.seq) && decide (x.seq < target))
      (next = none → Occurs (.journalBackfill dt) dt s (modTwin (fun x => { x with backfill := target, backfillTo := none }) b))
      ∧ (∀ x, next = some x → x.stored * 800 ≤ since b w.backfillAt * cfgNat b 0x0B00 11 0 →
        ∃ t, exec (.journalBackfill dt) s = .next t ∧ t.chord.twin.backfill = x.seq + 1 ∧ t.chord.twin.backfillAt = b.now))

/-! ### The UR-340 commands -/

/-- R492 to R494, R496, R499 to R502, R507: the UR commands that read, count, act on nodes, keys and time, or begin a transition, with
the parameters of Table 19.6 (their widths are the model's, log 54). An opcode that the table does not list is answered with BAD_CMD or,
for the firmware commands, STATE.
What the spec leaves open here is the model's choice: log 64. -/
def Obligations.UrCommandsAct : Prop :=
  ∀ (u : UrEntry) (s : State),
    let r := u.param
    let p := byteAt r 0
    let n := fld r 0 2
    let x := nodeOf s n
    let others := fun (t : State) => ∀ m, m ≠ n → nodeOf t m = nodeOf s m
    let ok := fun (c : Instr) (data : List Byte) (t : State) => exec c s = .next t ∧ UrAnswered (urTaken c) .ok data s t
    (UrRuns (.urGetVersion u) s → UrReads (.urGetVersion u) s (leBytes 4 0x034000C2 ++ leBytes 4 0x00040002 ++ leBytes 4 s.fw.runVersion.toNat))
    ∧ (UrRuns (.urGetStatus u) s → UrReads (.urGetStatus u) s (leBytes 4 (urStatus s)
        ++ leBytes 4 (s.mesh.nodes.filter (fun n => n.2.state != 0)).length ++ leBytes 4 (urTime s) ++ leBytes 1 (urLinks s)))
    ∧ (UrRuns (.urTimeGet u) s → s.mode.lifecycle ≠ .decommissioned →
        UrReads (.urTimeGet u) s (leBytes 4 (urTime s) ++ leBytes 6 (nowSec s) ++ leBytes 4 (nowNanos s)))
    ∧ (∀ m, UrRuns (.urSetState u) s → urTarget p = some m →
      (s.mode.mode = m → UrReads (.urSetState u) s [])
      ∧ (∀ row, s.mode.mode ≠ m → s.mode.trans = none → rowOf s m = some row → row ≠ 8 → row ≠ 9 → row ≠ 10 →
        firstFalse 1 (preconditions (urStarted (.urSetState u) s) row m false) = none →
        ∃ t, exec (.urSetState u) s = .next t ∧ t.mode = { s.mode with trans := t.mode.trans }
          ∧ t.mode.trans.map (fun x => (x.row, x.fromMode, x.toMode, x.trigger)) = some (row, s.mode.mode, m, 0x01)
          ∧ t.mode.trans.map (fun x => (x.since, x.limit)) = some (s.now, rowLimit row)))
    ∧ (UrRuns (.urTwinSwitch u) s →
      (s.mode.mode ≠ .activeC → s.mode.mode ≠ .standbyC →
        ∃ t, exec (.urTwinSwitch u) s = .next t ∧ UrAnswered (urTaken (.urTwinSwitch u)) .modeRefused [] s t ∧ UrOnly s t)
      ∧ (∀ m, (s.mode.mode = .activeC ∧ m = .standbyC) ∨ (s.mode.mode = .standbyC ∧ m = .activeC) → s.mode.trans = none → rowOf s m = some 10 →
        firstFalse 1 (preconditions (urStarted (.urTwinSwitch u) s) 10 m false) = none →
        exec (.urTwinSwitch u) s = .next (framed false s (beginRow 10 m false { urTaken (.urTwinSwitch u) with req := leBytes 1 m.code ++ zeros 7 }
          (urStarted (.urTwinSwitch u) s)))))
    ∧ (UrRuns (.urClearStats u) s → ∃ t, ok (.urClearStats u) [] t ∧ (∀ k, k < 8 → (∀ i, i < 45 → ctrGet t .port k i = 0) ∧ (∀ i, i < 15 → ctrGet t .tx k i = 0))
        ∧ (∀ i, i < 21 → ctrGet t .mac 0 i = 0) ∧ ∀ i, i < 15 → ctrGet t .sec 0 i = 0)
    ∧ (UrRuns (.urPortGet u) s → p ≤ 7 → UrReads (.urPortGet u) s (leBytes 1 (b2n (portCfg s p 1 != 0)) ++ leBytes 2 (portCfg s p 8)
        ++ leBytes 1 (b2n (portCfg s p 10 == 0)) ++ leBytes 1 (b2n (bit s.compat.uplink.toNat p)) ++ leBytes 1 (b2n (swPort s p).linkUp)))
    ∧ (UrRuns (.urPortStats u) s → p ≤ 7 →
      let low := fun i => ctrGet s .port p i
      ∃ t, ok (.urPortStats u) (([low 1, low 0, low 5, low 10 + low 11, low 25, low 24, low 41, low 42].map (fun v => leBytes 4 (v % 2 ^ 32))).flatten) t
        ∧ (∀ i ∈ [0, 1, 5, 10, 11, 24, 25, 41, 42], ctrGet t .port p i = 0) ∧ UrOnly { s with ctr := t.ctr } t)
    ∧ (UrRuns (.urL2Flush u) s → p ≤ 7 ∨ p = 0xFF →
      ∃ t k, ok (.urL2Flush u) (leBytes 8 k) t ∧ ∀ place e, entryAt t.sw.l2 place = some e → entryAt s.sw.l2 place = some e
        ∧ (e.static = false → ¬((p = 0xFF ∨ e.port = p) ∧ (fld r 1 2 = 0 ∨ e.vid = fld r 1 2))))
    ∧ (1 ≤ n → n < 16384 →
      (UrRuns (.urNodeAdd u) s → takenBy (nodeOfEui s (BitVec.ofNat 64 (fld r 2 8))) n = false →
        (fld r 10 2 = 0xFFFF ∨ takenBy (nodeOfShort s (fld r 10 2)) n = false) →
        ∃ t, ok (.urNodeAdd u) [] t ∧ others t ∧ shortOf t n = fld r 10 2 ∧ (nodeOf t n).eui = BitVec.ofNat 64 (fld r 2 8) ∧ (nodeOf t n).state = 1
          ∧ (nodeOf t n).keyGen = BitVec.ofNat 8 (byteAt r 12) ∧ (nodeOf t n).rxFc = BitVec.ofNat 32 (fld r 13 4) ∧ (nodeOf t n).secMin = 5)
      ∧ (nodeState s n ≠ 0 →
        (UrRuns (.urNodeGet u) s → UrReads (.urNodeGet u) s (leBytes 8 x.eui.toNat ++ leBytes 1 (nodeState s n) ++ leBytes 1 x.keyGen.toNat
          ++ leBytes 4 x.rxFc.toNat ++ leBytes 4 x.txFc.toNat ++ leBytes 1 (urNodeRssi x) ++ leBytes 2 x.rxFrames.toNat))
        ∧ (UrRuns (.urNodeDel u) s → ∃ t, ok (.urNodeDel u) [] t ∧ others t ∧ (nodeOf t n).state = 0 ∧ shortOf t n = 0xFFFF)
        ∧ (UrRuns (.urNodeRekey u) s → nodeState s n = 1 ∨ nodeState s n = 3 →
          ∃ t, ok (.urNodeRekey u) (leBytes 4 (pendingGen x)) t ∧ others t ∧ nodeOf t n = { x with rekey := true, check := (nodeOf t n).check })
        ∧ (UrRuns (.urNodeBlock u) s → nodeState s n ≠ 4 → byteAt r 2 ≤ 1 → (byteAt r 2 = 0 → x.txFc.toNat < 0xFFFFF000) →
          ∃ t, ok (.urNodeBlock u) [] t ∧ others t ∧ nodeOf t n = { x with state := 1 + byteAt r 2, secFails := 0, check := (nodeOf t n).check })))
    ∧ (let slot := if masterSlot s p then p + 2 else p
       let was := cfgNat s 0x0822 (1 + p) 0
       let w := stageField 16 0x0822 (1 + p) 0 (slot : Int) (createSlot slot urKeyAttr (slice r 1 32) (urStarted (.urKeySet u) s))
       UrRuns (.urKeySet u) s → Sparse.wf (fun _ => none) s.cfg.staged = true → p ≤ 1 → usesParity s p = false → s.mode.lifecycle = .provisioned → s.mode.mode ≠ .service → twinEnabled s = false →
       (slotOf s slot).state = .empty → lockedBy s 16 0x0822 = none → s.sw.commitWait = [] → stageable w 0x0822 = true →
       (s.mode.mode = .config ∨ changesConfigOnly w 0x0822 = false) → refusedBy (postCommit [0x0822] w).1 w (postCommit [0x0822] w).2 [0x0822] = none →
       ∃ t, ok (.urKeySet u) [] t ∧ (slotOf t slot).state = .valid ∧ (slotOf t slot).key = slice r 1 32 ∧ (slotOf t slot).attr = BitVec.ofNat 32 urKeyAttr
         ∧ cfgNat t 0x0822 (1 + p) 0 = slot
         ∧ ((slotOf s was).state ≠ .empty → slotOwner (slotOf s was) = 0 → was < 1024 → was ≠ slot → (cfgStaged s 0x0822 (2 - p) 0).toNat ≠ was →
            (slotOf t was).state = .empty))
    ∧ (let m := { s.time.mer with stRate := BitVec.ofInt 40 s.time.mer.rate, stHold := s.time.mer.hold, adjMode := 2,
                                  adjSec := BitVec.ofNat 48 (fld r 0 6), adjNs := BitVec.ofNat 32 (fld r 6 4) }
       UrRuns (.urTimeSet u) s → s.time.mer.ownerFw = false → s.time.mer.commit.busy = false → firstFailing (merChecks m) = none →
       ∃ t, ok (.urTimeSet u) [] t ∧ (t.time.mer.baseT : Int) = newBase m ∧ t.time.mer.baseC = s.time.mer.c ∧ t.time.mer.rate = toSigned 40 m.stRate.toNat
         ∧ t.time.mer.stRate = s.time.mer.stRate)
    ∧ (∀ opcode : Byte, served s 16 = true → urListed opcode.toNat = false →
      ∃ t, exec (.urUnlistedOpcode opcode u) s = .next t ∧ UrOnly s t
        ∧ UrAnswered (urCmdOf opcode.toNat u) (if opcode = 0x90 ∨ opcode = 0x91 ∨ opcode = 0x92 then .modeRefused else .badOpcode) [] s t)

/-- R330, R494, R496, R499, R500: the UR commands that set configuration commit their fields in one step and answer at UR_RSP_TAIL; and
the merge of the shadow banks, with no commit that waits for it.
What the spec leaves open here is the model's choice: log 54 and log 64. -/
def Obligations.UrCommitsAct : Prop :=
  ∀ (u : UrEntry) (s : State),
    let r := u.param
    let p := byteAt r 0
    (∀ k code data (v : State), v.compat.run = true → let t := urRespond k code data v
      Output.hostWrite .h0 (v.compat.rspBase.toNat + 64 * (v.compat.rspTail.toNat % urRingSize v)) (urResponseBytes v k code data) ∈ t.out
        ∧ t.compat.rspTail = v.compat.rspTail + 1 ∧ t.compat.inFlight = none ∧ t.compat.irqStatus.getLsbD 0 = true ∧ UrOnly v t)
    ∧ (let up := byteAt r 5
       let links : Byte := if up = 1 then s.compat.uplink ||| BitVec.ofNat 8 (2 ^ p) else s.compat.uplink &&& ~~~BitVec.ofNat 8 (2 ^ p)
       let g := 0x0200 + p
       let fields : List (Nat × Nat × Nat × Int) := [(g, 1, 0, (byteAt r 1 : Int)), (g, 8, 0, (fld r 2 2 : Int)), (g, 10, 0, ((1 - byteAt r 4 : Nat) : Int))]
         ++ (if urMode s && cfgNat s 0x0100 2 0 != links.toNat then [(0x0100, 2, 0, (links.toNat : Int))] else ([] : List (Nat × Nat × Nat × Int)))
       UrRuns (.urPortSet u) s → p ≤ 7 → byteAt r 1 ≤ 1 → byteAt r 4 ≤ 1 → up ≤ 1 → UrMayCommit (.urPortSet u) fields s →
       let v := urLive (.urPortSet u) fields s
       exec (.urPortSet u) s = .next (framed false s (urRespond (urTaken (.urPortSet u)) 0 [] { v with compat := { v.compat with uplink := links } })))
    ∧ (UrRuns (.urL2Add u) s → 1 ≤ fld r 6 2 → fld r 6 2 ≤ 4094 → byteAt r 8 ≤ 7 → s.sw.l2.length < 8192 →
      UrCommits (.urL2Add u) [(0x0703, 1, 0, ((1 + 4 * (fld r 0 6 + fld r 6 2 * 2 ^ 48 + byteAt r 8 * 2 ^ 60 + 2 ^ 67 + 2 ^ 91) : Nat) : Int))] s [])
    ∧ (UrRuns (.urL2Del u) s →
      ((l2Find s (fld r 6 2) (fld r 0 6)).isSome = true →
        UrCommits (.urL2Del u) [(0x0703, 1, 0, ((2 + 4 * (fld r 0 6 + fld r 6 2 * 2 ^ 48) : Nat) : Int))] s [])
      ∧ (l2Find s (fld r 6 2) (fld r 0 6) = none →
        ∃ t, exec (.urL2Del u) s = .next t ∧ UrAnswered (urTaken (.urL2Del u)) .notFound [] s t ∧ UrOnly s t))
    ∧ (UrRuns (.urL2Age u) s → fld r 0 2 ≤ 16383 →
      UrCommits (.urL2Age u) (if fld r 0 2 = 0 then [(0x0700, 4, 0, 0)] else [(0x0700, 4, 0, 1), (0x0700, 6, 0, ((2 * fld r 0 2 : Nat) : Int))]) s [])
    ∧ (∀ w, UrRuns (.urMeshCfg u) s → byteAt r 8 ≠ 0 → byteAt r 9 ≤ 3 → urWidth (fld r 4 4) (byteAt r 8) = some w →
      (cfgNat s 0x0800 1 0 = fld r 0 4 ∨ s.mode.mode = .config) →
      UrCommits (.urMeshCfg u) (meshCfgFields s (fld r 0 4) (fld r 4 4) (byteAt r 8) (byteAt r 9) (fld r 10 2) (toSigned 16 (fld r 12 2)) w) s [])
    ∧ (∀ i, UrRuns (.urLinkAdd u) s → p ≤ 7 → 1 ≤ fld r 5 2 → fld r 5 2 < 16384 → freeLink s = some i →
      UrCommits (.urLinkAdd u) [(0x0820, 4, i, ((fld r 1 2 + fld r 3 2 * 2 ^ 16 + p * 2 ^ 32 + byteAt r 7 % 16 * 2 ^ 38 + 2 ^ 45 + fld r 5 2 * 2 ^ 48 : Nat) : Int))] s
        (leBytes 4 i))
    ∧ (let i := fld r 0 4
       let v := cfgNat s 0x0820 4 i
       UrRuns (.urLinkDel u) s → i < 524288 → UrCommits (.urLinkDel u) [(0x0820, 4, i, ((if bit v 45 then v - 2 ^ 45 else v : Nat) : Int))] s [])
    ∧ (UrRuns (.urSlotframeSet u) s → p ≤ 7 → fld r 1 2 ≠ 0 → byteAt r 3 ≤ 1 →
      UrCommits (.urSlotframeSet u) [(0x0820, 3, p, ((p + byteAt r 3 * 2 ^ 8 + fld r 1 2 * 2 ^ 16 : Nat) : Int))] s [])
    ∧ (UrRuns (.urTwinCfg u) s → p ≤ 1 → byteAt r 1 ≤ 1 → s.mode.mode = .config →
      UrCommits (.urTwinCfg u) [(0x0B00, 1, 0, (p : Int)), (0x0B00, 2, 0, 3), (0x0B00, 3, 0, (byteAt r 1 : Int)), (0x0B00, 4, 0, ((1 - p : Nat) : Int)),
        (0x0B00, 4, 1, ((1 - p : Nat) : Int))] s [])
    ∧ (∀ dt, let b := begin dt s
       alive b = true → b.sw.shadow = true → epochsDrained b = true → b.sw.commitWait = [] →
       Occurs (.shadowMerge dt) dt s { b with sw := { b.sw with shadow := false, banks := [], commitWait := [] } })

/-! ### Registers -/

/-- R5 to R7, R51, R53, R364, R490, R491: accesses to registers through a port. A read answers the register's value; the low half of a pair
latches its high half, which then reads as it was; a write puts RW fields and leaves read-only registers; a W1C bit written as 1 is cleared
unless hardware sets it in the same cycle; and a read of the time registers while CLK_TIME is gated is served after make-up.
What the spec leaves open here is the model's choice: log 65. -/
def Obligations.RegisterAccessesAct : Prop :=
  ∀ (p : HostPort) (s : State), alive s = true →
    let native := nativeBar0 s p = true
    (∀ off, (native → ∃ t, exec (.rlLowRead p .bar0 off) s = .next t ∧ t.out = [.regRead (BitVec.ofNat 32 (bar0Reg s p off))] ∧ t = { s with out := t.out })
      ∧ (¬native → ∃ t, exec (.rlLowRead p .bar0 off) s = .next t ∧ t.out = [.regRead (BitVec.ofNat 32 (urReg s off))] ∧ t = { s with out := t.out }))
    ∧ (native → s.time.mer.gated = false →
      (∃ t, exec (.rlLowRead p .bar2 0x0000) s = .next t ∧ t.out = [.regRead (s.time.mer.c.setWidth 32)]
        ∧ bar2Reg t p 0x0004 = hi32 s.time.mer.c.toNat ∧ ∀ q, q ≠ p → bar2Reg t q 0x0004 = bar2Reg s q 0x0004)
      ∧ (∃ t, exec (.rlLowRead p .bar2 0x0008) s = .next t ∧ t.out = [.regRead (BitVec.ofNat 32 (nowNanos s))]
        ∧ bar2Reg t p 0x000C = lo32 (nowSec s) ∧ bar2Reg t p 0x0014 = lo32 s.time.mer.c.toNat ∧ bar2Reg t p 0x0018 = hi32 s.time.mer.c.toNat))
    ∧ (native → s.time.mer.gated = true → ∀ periods, let v := ungateClock periods s
      ∃ t, exec (.gatedTimeRead p 0x0000 periods) s = .next t ∧ t.time.mer.gated = false ∧ .regRead (v.time.mer.c.setWidth 32) ∈ t.out
        ∧ t.time.mer.c = v.time.mer.c ∧ t.time.mer.madeUp = true)
    ∧ (∀ v : W32, native → s.time.mer.ownerFw = false →
      (∃ t, exec (.registerWrite p .bar2 0x002C v) s = .next t ∧ t.time.mer.adjNs = v ∧ t.time.mer.baseT = s.time.mer.baseT)
      ∧ (∃ t, exec (.registerWrite p .bar2 0x0028 v) s = .next t ∧ t.time.mer.adjMode = v.setWidth 2 ∧ t.time.mer.stHold = v.getLsbD 8)
      ∧ exec (.registerWrite p .bar2 0x0000 v) s = .next { s with out := [] })
    ∧ (∀ (v : W32) n, native → n < 8 → ∃ t, exec (.registerWrite p .bar2 (0x0110 + 0x40 * n) v) s = .next t ∧ (toutOf t n).staged.periodNs = v
      ∧ (toutOf t n).live = (toutOf s n).live ∧ ∀ m, m ≠ n → toutOf t m = toutOf s m)
    ∧ (∀ (v : W32), native → exec (.registerWrite p .bar0 0x0000 v) s = .next { s with out := [] })
    ∧ (∀ (v : W32), ¬native → urAnswers s = true →
      (s.compat.run = false → exec (.registerWrite p .bar0 0x0028 v) s = .next { s with out := [], compat := { s.compat with ringSize := v &&& 0xFFFF } })
      ∧ (s.compat.run = true → exec (.registerWrite p .bar0 0x0028 v) s = .next { s with out := [] }))
    ∧ (∀ (v hw : W32), native →
      (∀ n, n < 32 → s.time.arcReserved.getLsbD n = false →
        ∃ t, exec (.w1cClear p .bar2 (0x8134 + 0x40 * n) v hw) s = .next t
          ∧ (arcOf t n).matched = ((arcOf s n).matched && !(v.getLsbD 2 && !hw.getLsbD 2)) ∧ (arcOf t n).late = ((arcOf s n).late && !(v.getLsbD 5 && !hw.getLsbD 5))
          ∧ (arcOf t n).running = (arcOf s n).running ∧ ∀ m, m ≠ n → arcOf t m = arcOf s m)
      ∧ (∀ q, q < 16 → (queueOf s q).owner = some p → s.mode.mode.mailboxes = true →
        ∃ t, exec (.w1cClear p .bar0 (0x1014 + 0x40 * q) v hw) s = .next t
          ∧ queueOf t q = { queueOf s q with dbErr := (queueOf s q).dbErr && !(v.getLsbD 27 && !hw.getLsbD 27),
                                             fetchErr := (queueOf s q).fetchErr && !(v.getLsbD 26 && !hw.getLsbD 26),
                                             cqWriteErr := (queueOf s q).cqWriteErr && !(v.getLsbD 25 && !hw.getLsbD 25),
                                             foreignWrite := (queueOf s q).foreignWrite && !(v.getLsbD 24 && !hw.getLsbD 24) }
          ∧ ∀ q', q' ≠ q → queueOf t q' = queueOf s q'))
    ∧ (∀ (v hw : W32), ¬native → urAnswers s = true → ∃ t, exec (.w1cClear p .bar0 0x0010 v hw) s = .next t
        ∧ t.compat.irqStatus = s.compat.irqStatus &&& ~~~((v &&& ~~~hw).setWidth 4))

/-- R5: a W1C bit that hardware sets in the clock cycle of the write that clears it stays set: of MQq_STATUS, UR_IRQ_STATUS, TOUTn_STATUS,
ARCn_STATUS, ARC_MATCH, MER_STATUS and every BLOCK_COMMIT. -/
def Obligations.HardwareSetBitStays : Prop :=
  ∀ (p : HostPort) (v hw : W32) (s : State),
    let after := fun (bar : Bar) (off i : Nat) (bitOf : State → Bool) =>
      hw.getLsbD i = true → bitOf s = true → ∃ t, exec (.w1cClear p bar off v hw) s = .next t ∧ bitOf t = true
    (∀ q off, (q < 16 ∧ off = 0x1014 + 0x40 * q) ∨ (q = 15 ∧ off = 0x9014) →
      after .bar0 off 27 (fun t => (queueOf t q).dbErr) ∧ after .bar0 off 26 (fun t => (queueOf t q).fetchErr)
        ∧ after .bar0 off 25 (fun t => (queueOf t q).cqWriteErr) ∧ after .bar0 off 24 (fun t => (queueOf t q).foreignWrite))
    ∧ (∀ i, i < 4 → after .bar0 0x0010 i (fun t => t.compat.irqStatus.getLsbD i))
    ∧ (∀ n, n < 8 → after .bar2 (0x0128 + 0x40 * n) 1 (fun t => (toutOf t n).done)
        ∧ after .bar2 (0x012C + 0x40 * n) 28 (fun t => (toutOf t n).commit.refused) ∧ after .bar2 (0x0414 + 0x20 * n) 28 (fun t => (tinOf t n).commit.refused))
    ∧ (∀ n, n < 32 → after .bar2 (0x8134 + 0x40 * n) 2 (fun t => (arcOf t n).matched) ∧ after .bar2 (0x8134 + 0x40 * n) 4 (fun t => (arcOf t n).capOverrun)
        ∧ after .bar2 (0x8134 + 0x40 * n) 5 (fun t => (arcOf t n).late) ∧ after .bar2 (0x8134 + 0x40 * n) 7 (fun t => (arcOf t n).foreignWrite)
        ∧ after .bar2 0x8008 n (fun t => (arcOf t n).matched) ∧ after .bar2 (0x8138 + 0x40 * n) 28 (fun t => (arcOf t n).commit.refused))
    ∧ after .bar2 0x0044 5 (fun t => t.time.mer.foreignWrite) ∧ after .bar2 0x0044 4 (fun t => t.time.mer.madeUp)
    ∧ after .bar2 0x0040 28 (fun t => t.time.mer.commit.refused)

/-- R28: modes and life-cycle states have the codes of Table 2.1, OFF is never reported, and the LIFECYCLE field of SYS_IDENTIFY holds the
code of the life-cycle state. -/
def Obligations.ModesAndLifeCycleAreEncoded : Prop :=
  [Mode.off, .boot, .selftest, .config, .activeN, .standbyN, .activeC, .standbyC, .island, .quiescent, .service, .dump].map Mode.code
      = [0x00, 0x01, 0x02, 0x03, 0x10, 0x11, 0x20, 0x21, 0x30, 0x31, 0x40, 0x50]
    ∧ [LifeCycle.manufacture, .provisioned, .deployed, .returned, .decommissioned].map LifeCycle.code = [0x01, 0x02, 0x03, 0x04, 0x05]
    ∧ ∀ (e : Entry) (s : State), CmdRuns (.sysIdentify e) s →
        ∃ t reply, exec (.sysIdentify e) s = .next t ∧ Answered e .ok 0 reply t ∧ byteAt reply 10 = s.mode.lifecycle.code
          ∧ byteAt reply 11 = s.mode.mode.code ∧ byteAt reply 11 ≠ 0x00

end
end

