-- ==== Sys2Proof/Laws/Sparse.lean ====
section
/-!
SUPPORT. Laws of the sparse tables: reading after writing, and the canonical form, which every operation keeps.
-/
namespace Sys2Proof.Machine

variable {α : Type}

theorem Sparse.get_filter (d : Nat → α) (p : Nat → Bool) (m : Sparse α) (k : Nat) :
    Sparse.get d (m.filter (fun e => p e.1)) k = if p k then Sparse.get d m k else d k := by
  induction m with
  | nil => simp [Sparse.get]
  | cons e r ih =>
    obtain ⟨k', v⟩ := e
    by_cases hp : p k' = true <;> by_cases hk : k = k'
    · subst hk; simp [hp, Sparse.get]
    · simp [hp, Sparse.get, hk, ih]
    · subst hk; simp [hp, ih]
    · simp [hp, Sparse.get, hk, ih]

theorem Sparse.get_insert_other (d : Nat → α) (m : Sparse α) (k k' : Nat) (v : α) (h : k' ≠ k) :
    Sparse.get d (Sparse.insert m k v) k' = Sparse.get d m k' := by
  induction m with
  | nil => simp [Sparse.insert, Sparse.get, h]
  | cons e r ih =>
    obtain ⟨j, w⟩ := e
    by_cases hj : k < j
    · simp [Sparse.insert, hj, Sparse.get, h]
    · simp [Sparse.insert, hj, Sparse.get, ih]

theorem Sparse.get_insert_same (d : Nat → α) (m : Sparse α) (k : Nat) (v : α) (h : ∀ e ∈ m, e.1 ≠ k) :
    Sparse.get d (Sparse.insert m k v) k = v := by
  induction m with
  | nil => simp [Sparse.insert, Sparse.get]
  | cons e r ih =>
    obtain ⟨j, w⟩ := e
    have hj : j ≠ k := h (j, w) (by simp)
    by_cases hl : k < j
    · simp [Sparse.insert, hl, Sparse.get]
    · have : k ≠ j := fun x => hj x.symm
      simp [Sparse.insert, hl, Sparse.get, this, ih (fun e he => h e (by simp [he]))]

/-- What a table reads as after a write. -/
theorem Sparse.get_set [DecidableEq α] (d : Nat → α) (m : Sparse α) (k k' : Nat) (v : α) :
    Sparse.get d (Sparse.set d m k v) k' = if k' = k then v else Sparse.get d m k' := by
  have hf : ∀ j, Sparse.get d (m.filter (fun e => e.1 != k)) j = if j = k then d j else Sparse.get d m j := by
    intro j
    rw [Sparse.get_filter d (fun x => x != k)]
    by_cases hj : j = k <;> simp [hj]
  by_cases hv : v = d k <;> by_cases hk : k' = k
  · subst hk; simp [Sparse.set, hv, hf]
  · simp [Sparse.set, hv, hf, hk]
  · subst hk
    simp only [Sparse.set, hv, if_false, if_true]
    exact Sparse.get_insert_same d _ _ _ (by simp)
  · simp only [Sparse.set, hv, if_false, hk]
    rw [Sparse.get_insert_other d _ _ _ _ hk, hf]
    simp [hk]

@[simp] theorem Sparse.get_set_same [DecidableEq α] (d : Nat → α) (m : Sparse α) (k : Nat) (v : α) :
    Sparse.get d (Sparse.set d m k v) k = v := by simp [Sparse.get_set]

theorem Sparse.get_set_other [DecidableEq α] (d : Nat → α) (m : Sparse α) (k k' : Nat) (v : α) (h : k' ≠ k) :
    Sparse.get d (Sparse.set d m k v) k' = Sparse.get d m k' := by simp [Sparse.get_set, h]

/-- What a table reads as after keys are unlisted. -/
theorem Sparse.get_drop (d : Nat → α) (p : Nat → Bool) (m : Sparse α) (k : Nat) :
    Sparse.get d (Sparse.drop p m) k = if p k then d k else Sparse.get d m k := by
  rw [Sparse.drop, Sparse.get_filter d (fun x => !p x)]
  by_cases hp : p k = true <;> simp [hp]

theorem Sparse.get_setRun_below [DecidableEq α] (d : Nat → α) (l : List α) (m : Sparse α) (a k : Nat)
    (h : k < a ∨ a + l.length ≤ k) : Sparse.get d (Sparse.setRun d m a l) k = Sparse.get d m k := by
  induction l generalizing m a with
  | nil => rfl
  | cons v r ih =>
    simp only [List.length_cons] at h
    rw [Sparse.setRun, ih _ _ (by omega), Sparse.get_set_other _ _ _ _ _ (by omega)]

/-- What a table reads as inside a run of values written. -/
theorem Sparse.get_setRun_in [DecidableEq α] (d : Nat → α) (l : List α) (m : Sparse α) (a i : Nat) (h : i < l.length) :
    Sparse.get d (Sparse.setRun d m a l) (a + i) = l[i] := by
  induction l generalizing m a i with
  | nil => simp at h
  | cons v r ih =>
    cases i with
    | zero => rw [Sparse.setRun, Sparse.get_setRun_below _ _ _ _ _ (by omega)]; simp
    | succ i =>
      simp only [List.length_cons] at h
      have := ih (Sparse.set d m a v) (a + 1) i (by omega)
      rw [Sparse.setRun, show a + (i + 1) = a + 1 + i by omega, this]; rfl

/-! ### The canonical form -/

theorem Sparse.above_filter (n : Nat) (p : Nat × α → Bool) (m : Sparse α) (h : Sparse.above n m = true) :
    Sparse.above n (m.filter p) = true := by
  induction m with
  | nil => rfl
  | cons e r ih =>
    simp only [Sparse.above, Bool.and_eq_true] at h
    by_cases hp : p e = true
    · simp [hp, Sparse.above, ih h.2]; simpa using h.1
    · simp [hp, ih h.2]

theorem Sparse.wf_filter [DecidableEq α] (d : Nat → α) (p : Nat × α → Bool) (m : Sparse α) (h : Sparse.wf d m = true) :
    Sparse.wf d (m.filter p) = true := by
  induction m with
  | nil => rfl
  | cons e r ih =>
    simp only [Sparse.wf, Bool.and_eq_true] at h
    by_cases hp : p e = true
    · simp only [hp, List.filter_cons_of_pos, Sparse.wf, Bool.and_eq_true]
      exact ⟨⟨h.1.1, Sparse.above_filter _ _ _ h.1.2⟩, ih h.2⟩
    · simp [hp, ih h.2]

theorem Sparse.above_insert (n k : Nat) (v : α) (m : Sparse α) (h : Sparse.above n m = true) (hk : n < k) :
    Sparse.above n (Sparse.insert m k v) = true := by
  induction m with
  | nil => simp [Sparse.insert, Sparse.above, hk]
  | cons e r ih =>
    obtain ⟨j, w⟩ := e
    simp only [Sparse.above, Bool.and_eq_true] at h
    by_cases hl : k < j
    · simp only [Sparse.insert, hl, if_true, Sparse.above, Bool.and_eq_true]; exact ⟨by simpa using hk, h⟩
    · simp only [Sparse.insert, hl, if_false, Sparse.above, Bool.and_eq_true]; exact ⟨h.1, ih h.2⟩

theorem Sparse.above_mono (n n' : Nat) (m : Sparse α) (h : Sparse.above n' m = true) (hn : n ≤ n') :
    Sparse.above n m = true := by
  induction m with
  | nil => rfl
  | cons e r ih =>
    simp only [Sparse.above, Bool.and_eq_true, decide_eq_true_eq] at h ⊢
    exact ⟨by omega, ih h.2⟩

theorem Sparse.wf_insert [DecidableEq α] (d : Nat → α) (m : Sparse α) (k : Nat) (v : α) (h : Sparse.wf d m = true)
    (hk : ∀ e ∈ m, e.1 ≠ k) (hv : v ≠ d k) : Sparse.wf d (Sparse.insert m k v) = true := by
  induction m with
  | nil => simp [Sparse.insert, Sparse.wf, Sparse.above, hv]
  | cons e r ih =>
    obtain ⟨j, w⟩ := e
    have hj : j ≠ k := hk (j, w) (by simp)
    have hw := h
    simp only [Sparse.wf, Bool.and_eq_true] at h
    by_cases hl : k < j
    · simp only [Sparse.insert, hl, if_true]
      rw [Sparse.wf]
      simp only [Bool.and_eq_true, hw, and_true]
      exact ⟨by simpa using hv, by simp [Sparse.above, hl, Sparse.above_mono k j r h.1.2 (by omega)]⟩
    · simp only [Sparse.insert, hl, if_false]
      rw [Sparse.wf]
      simp only [Bool.and_eq_true]
      exact ⟨⟨h.1.1, Sparse.above_insert j k v r h.1.2 (by omega)⟩, ih h.2 (fun e he => hk e (by simp [he]))⟩

/-- A write keeps the canonical form. -/
theorem Sparse.wf_set [DecidableEq α] (d : Nat → α) (m : Sparse α) (k : Nat) (v : α) (h : Sparse.wf d m = true) :
    Sparse.wf d (Sparse.set d m k v) = true := by
  by_cases hv : v = d k
  · simp only [Sparse.set, hv, if_true]; exact Sparse.wf_filter d _ m h
  · simp only [Sparse.set, hv, if_false]
    exact Sparse.wf_insert d _ k v (Sparse.wf_filter d _ m h) (by simp) hv

/-- Unlisting keys keeps the canonical form. -/
theorem Sparse.wf_drop [DecidableEq α] (d : Nat → α) (p : Nat → Bool) (m : Sparse α) (h : Sparse.wf d m = true) :
    Sparse.wf d (Sparse.drop p m) = true := Sparse.wf_filter d _ m h

/-- A run of writes keeps the canonical form. -/
theorem Sparse.wf_setRun [DecidableEq α] (d : Nat → α) (l : List α) (m : Sparse α) (a : Nat) (h : Sparse.wf d m = true) :
    Sparse.wf d (Sparse.setRun d m a l) = true := by
  induction l generalizing m a with
  | nil => exact h
  | cons v r ih => exact ih _ _ (Sparse.wf_set d m a v h)

/-- A list of writes keeps the canonical form. -/
theorem Sparse.wf_setAll [DecidableEq α] (d : Nat → α) (l : List (Nat × α)) (m : Sparse α) (h : Sparse.wf d m = true) :
    Sparse.wf d (Sparse.setAll d m l) = true := by
  induction l generalizing m with
  | nil => exact h
  | cons e r ih => exact ih _ (Sparse.wf_set d m e.1 e.2 h)

end Sys2Proof.Machine
end

