-- ==== Sys2Proof/Laws/State.lean ====
section
/-!
SUPPORT. The fields of the state after each of its updates: one lemma per field and update.
-/
namespace Sys2Proof.Machine

/-! ### emit -/

@[simp] theorem emit_pending (o : Output) (s : State) : (emit o s).pending = s.pending := rfl
@[simp] theorem emit_now (o : Output) (s : State) : (emit o s).now = s.now := rfl
@[simp] theorem emit_out (o : Output) (s : State) : (emit o s).out = s.out ++ [o] := rfl
@[simp] theorem emit_free (o : Output) (s : State) : (emit o s).free = s.free := rfl
@[simp] theorem emit_host (o : Output) (s : State) : (emit o s).host = s.host := rfl
@[simp] theorem emit_mode (o : Output) (s : State) : (emit o s).mode = s.mode := rfl
@[simp] theorem emit_cfg (o : Output) (s : State) : (emit o s).cfg = s.cfg := rfl
@[simp] theorem emit_jobs (o : Output) (s : State) : (emit o s).jobs = s.jobs := rfl
@[simp] theorem emit_fw (o : Output) (s : State) : (emit o s).fw = s.fw := rfl
@[simp] theorem emit_fuses (o : Output) (s : State) : (emit o s).fuses = s.fuses := rfl
@[simp] theorem emit_compat (o : Output) (s : State) : (emit o s).compat = s.compat := rfl
@[simp] theorem emit_power (o : Output) (s : State) : (emit o s).power = s.power := rfl
@[simp] theorem emit_time (o : Output) (s : State) : (emit o s).time = s.time := rfl
@[simp] theorem emit_chord (o : Output) (s : State) : (emit o s).chord = s.chord := rfl
@[simp] theorem emit_store (o : Output) (s : State) : (emit o s).store = s.store := rfl
@[simp] theorem emit_integ (o : Output) (s : State) : (emit o s).integ = s.integ := rfl
@[simp] theorem emit_sw (o : Output) (s : State) : (emit o s).sw = s.sw := rfl
@[simp] theorem emit_keys (o : Output) (s : State) : (emit o s).keys = s.keys := rfl
@[simp] theorem emit_mesh (o : Output) (s : State) : (emit o s).mesh = s.mesh := rfl
@[simp] theorem emit_radio (o : Output) (s : State) : (emit o s).radio = s.radio := rfl
@[simp] theorem emit_ctr (o : Output) (s : State) : (emit o s).ctr = s.ctr := rfl

/-! ### setQueue -/

@[simp] theorem setQueue_pending (q : Nat) (x : Queue) (s : State) : (setQueue q x s).pending = s.pending := rfl
@[simp] theorem setQueue_now (q : Nat) (x : Queue) (s : State) : (setQueue q x s).now = s.now := rfl
@[simp] theorem setQueue_out (q : Nat) (x : Queue) (s : State) : (setQueue q x s).out = s.out := rfl
@[simp] theorem setQueue_free (q : Nat) (x : Queue) (s : State) : (setQueue q x s).free = s.free := rfl
@[simp] theorem setQueue_host (q : Nat) (x : Queue) (s : State) : (setQueue q x s).host = { s.host with queues := Sparse.set (fun _ => Queue.reset) s.host.queues q x } := rfl
@[simp] theorem setQueue_mode (q : Nat) (x : Queue) (s : State) : (setQueue q x s).mode = s.mode := rfl
@[simp] theorem setQueue_cfg (q : Nat) (x : Queue) (s : State) : (setQueue q x s).cfg = s.cfg := rfl
@[simp] theorem setQueue_jobs (q : Nat) (x : Queue) (s : State) : (setQueue q x s).jobs = s.jobs := rfl
@[simp] theorem setQueue_fw (q : Nat) (x : Queue) (s : State) : (setQueue q x s).fw = s.fw := rfl
@[simp] theorem setQueue_fuses (q : Nat) (x : Queue) (s : State) : (setQueue q x s).fuses = s.fuses := rfl
@[simp] theorem setQueue_compat (q : Nat) (x : Queue) (s : State) : (setQueue q x s).compat = s.compat := rfl
@[simp] theorem setQueue_power (q : Nat) (x : Queue) (s : State) : (setQueue q x s).power = s.power := rfl
@[simp] theorem setQueue_time (q : Nat) (x : Queue) (s : State) : (setQueue q x s).time = s.time := rfl
@[simp] theorem setQueue_chord (q : Nat) (x : Queue) (s : State) : (setQueue q x s).chord = s.chord := rfl
@[simp] theorem setQueue_store (q : Nat) (x : Queue) (s : State) : (setQueue q x s).store = s.store := rfl
@[simp] theorem setQueue_integ (q : Nat) (x : Queue) (s : State) : (setQueue q x s).integ = s.integ := rfl
@[simp] theorem setQueue_sw (q : Nat) (x : Queue) (s : State) : (setQueue q x s).sw = s.sw := rfl
@[simp] theorem setQueue_keys (q : Nat) (x : Queue) (s : State) : (setQueue q x s).keys = s.keys := rfl
@[simp] theorem setQueue_mesh (q : Nat) (x : Queue) (s : State) : (setQueue q x s).mesh = s.mesh := rfl
@[simp] theorem setQueue_radio (q : Nat) (x : Queue) (s : State) : (setQueue q x s).radio = s.radio := rfl
@[simp] theorem setQueue_ctr (q : Nat) (x : Queue) (s : State) : (setQueue q x s).ctr = s.ctr := rfl

/-! ### modQueue -/

@[simp] theorem modQueue_pending (q : Nat) (f : Queue → Queue) (s : State) : (modQueue q f s).pending = s.pending := rfl
@[simp] theorem modQueue_now (q : Nat) (f : Queue → Queue) (s : State) : (modQueue q f s).now = s.now := rfl
@[simp] theorem modQueue_out (q : Nat) (f : Queue → Queue) (s : State) : (modQueue q f s).out = s.out := rfl
@[simp] theorem modQueue_free (q : Nat) (f : Queue → Queue) (s : State) : (modQueue q f s).free = s.free := rfl
@[simp] theorem modQueue_host (q : Nat) (f : Queue → Queue) (s : State) : (modQueue q f s).host = { s.host with queues := Sparse.set (fun _ => Queue.reset) s.host.queues q (f (queueOf s q)) } := rfl
@[simp] theorem modQueue_mode (q : Nat) (f : Queue → Queue) (s : State) : (modQueue q f s).mode = s.mode := rfl
@[simp] theorem modQueue_cfg (q : Nat) (f : Queue → Queue) (s : State) : (modQueue q f s).cfg = s.cfg := rfl
@[simp] theorem modQueue_jobs (q : Nat) (f : Queue → Queue) (s : State) : (modQueue q f s).jobs = s.jobs := rfl
@[simp] theorem modQueue_fw (q : Nat) (f : Queue → Queue) (s : State) : (modQueue q f s).fw = s.fw := rfl
@[simp] theorem modQueue_fuses (q : Nat) (f : Queue → Queue) (s : State) : (modQueue q f s).fuses = s.fuses := rfl
@[simp] theorem modQueue_compat (q : Nat) (f : Queue → Queue) (s : State) : (modQueue q f s).compat = s.compat := rfl
@[simp] theorem modQueue_power (q : Nat) (f : Queue → Queue) (s : State) : (modQueue q f s).power = s.power := rfl
@[simp] theorem modQueue_time (q : Nat) (f : Queue → Queue) (s : State) : (modQueue q f s).time = s.time := rfl
@[simp] theorem modQueue_chord (q : Nat) (f : Queue → Queue) (s : State) : (modQueue q f s).chord = s.chord := rfl
@[simp] theorem modQueue_store (q : Nat) (f : Queue → Queue) (s : State) : (modQueue q f s).store = s.store := rfl
@[simp] theorem modQueue_integ (q : Nat) (f : Queue → Queue) (s : State) : (modQueue q f s).integ = s.integ := rfl
@[simp] theorem modQueue_sw (q : Nat) (f : Queue → Queue) (s : State) : (modQueue q f s).sw = s.sw := rfl
@[simp] theorem modQueue_keys (q : Nat) (f : Queue → Queue) (s : State) : (modQueue q f s).keys = s.keys := rfl
@[simp] theorem modQueue_mesh (q : Nat) (f : Queue → Queue) (s : State) : (modQueue q f s).mesh = s.mesh := rfl
@[simp] theorem modQueue_radio (q : Nat) (f : Queue → Queue) (s : State) : (modQueue q f s).radio = s.radio := rfl
@[simp] theorem modQueue_ctr (q : Nat) (f : Queue → Queue) (s : State) : (modQueue q f s).ctr = s.ctr := rfl

/-! ### setRing -/

@[simp] theorem setRing_pending (n : Nat) (x : EventRing) (s : State) : (setRing n x s).pending = s.pending := rfl
@[simp] theorem setRing_now (n : Nat) (x : EventRing) (s : State) : (setRing n x s).now = s.now := rfl
@[simp] theorem setRing_out (n : Nat) (x : EventRing) (s : State) : (setRing n x s).out = s.out := rfl
@[simp] theorem setRing_free (n : Nat) (x : EventRing) (s : State) : (setRing n x s).free = s.free := rfl
@[simp] theorem setRing_host (n : Nat) (x : EventRing) (s : State) : (setRing n x s).host = { s.host with rings := Sparse.set (fun _ => EventRing.reset) s.host.rings n x } := rfl
@[simp] theorem setRing_mode (n : Nat) (x : EventRing) (s : State) : (setRing n x s).mode = s.mode := rfl
@[simp] theorem setRing_cfg (n : Nat) (x : EventRing) (s : State) : (setRing n x s).cfg = s.cfg := rfl
@[simp] theorem setRing_jobs (n : Nat) (x : EventRing) (s : State) : (setRing n x s).jobs = s.jobs := rfl
@[simp] theorem setRing_fw (n : Nat) (x : EventRing) (s : State) : (setRing n x s).fw = s.fw := rfl
@[simp] theorem setRing_fuses (n : Nat) (x : EventRing) (s : State) : (setRing n x s).fuses = s.fuses := rfl
@[simp] theorem setRing_compat (n : Nat) (x : EventRing) (s : State) : (setRing n x s).compat = s.compat := rfl
@[simp] theorem setRing_power (n : Nat) (x : EventRing) (s : State) : (setRing n x s).power = s.power := rfl
@[simp] theorem setRing_time (n : Nat) (x : EventRing) (s : State) : (setRing n x s).time = s.time := rfl
@[simp] theorem setRing_chord (n : Nat) (x : EventRing) (s : State) : (setRing n x s).chord = s.chord := rfl
@[simp] theorem setRing_store (n : Nat) (x : EventRing) (s : State) : (setRing n x s).store = s.store := rfl
@[simp] theorem setRing_integ (n : Nat) (x : EventRing) (s : State) : (setRing n x s).integ = s.integ := rfl
@[simp] theorem setRing_sw (n : Nat) (x : EventRing) (s : State) : (setRing n x s).sw = s.sw := rfl
@[simp] theorem setRing_keys (n : Nat) (x : EventRing) (s : State) : (setRing n x s).keys = s.keys := rfl
@[simp] theorem setRing_mesh (n : Nat) (x : EventRing) (s : State) : (setRing n x s).mesh = s.mesh := rfl
@[simp] theorem setRing_radio (n : Nat) (x : EventRing) (s : State) : (setRing n x s).radio = s.radio := rfl
@[simp] theorem setRing_ctr (n : Nat) (x : EventRing) (s : State) : (setRing n x s).ctr = s.ctr := rfl

/-! ### writeEventMem -/

@[simp] theorem writeEventMem_pending (a : Nat) (l : List Byte) (s : State) : (writeEventMem a l s).pending = s.pending := rfl
@[simp] theorem writeEventMem_now (a : Nat) (l : List Byte) (s : State) : (writeEventMem a l s).now = s.now := rfl
@[simp] theorem writeEventMem_out (a : Nat) (l : List Byte) (s : State) : (writeEventMem a l s).out = s.out := rfl
@[simp] theorem writeEventMem_free (a : Nat) (l : List Byte) (s : State) : (writeEventMem a l s).free = s.free := rfl
@[simp] theorem writeEventMem_host (a : Nat) (l : List Byte) (s : State) : (writeEventMem a l s).host = { s.host with eventMem := Sparse.setRun (fun _ => 0) s.host.eventMem a l } := rfl
@[simp] theorem writeEventMem_mode (a : Nat) (l : List Byte) (s : State) : (writeEventMem a l s).mode = s.mode := rfl
@[simp] theorem writeEventMem_cfg (a : Nat) (l : List Byte) (s : State) : (writeEventMem a l s).cfg = s.cfg := rfl
@[simp] theorem writeEventMem_jobs (a : Nat) (l : List Byte) (s : State) : (writeEventMem a l s).jobs = s.jobs := rfl
@[simp] theorem writeEventMem_fw (a : Nat) (l : List Byte) (s : State) : (writeEventMem a l s).fw = s.fw := rfl
@[simp] theorem writeEventMem_fuses (a : Nat) (l : List Byte) (s : State) : (writeEventMem a l s).fuses = s.fuses := rfl
@[simp] theorem writeEventMem_compat (a : Nat) (l : List Byte) (s : State) : (writeEventMem a l s).compat = s.compat := rfl
@[simp] theorem writeEventMem_power (a : Nat) (l : List Byte) (s : State) : (writeEventMem a l s).power = s.power := rfl
@[simp] theorem writeEventMem_time (a : Nat) (l : List Byte) (s : State) : (writeEventMem a l s).time = s.time := rfl
@[simp] theorem writeEventMem_chord (a : Nat) (l : List Byte) (s : State) : (writeEventMem a l s).chord = s.chord := rfl
@[simp] theorem writeEventMem_store (a : Nat) (l : List Byte) (s : State) : (writeEventMem a l s).store = s.store := rfl
@[simp] theorem writeEventMem_integ (a : Nat) (l : List Byte) (s : State) : (writeEventMem a l s).integ = s.integ := rfl
@[simp] theorem writeEventMem_sw (a : Nat) (l : List Byte) (s : State) : (writeEventMem a l s).sw = s.sw := rfl
@[simp] theorem writeEventMem_keys (a : Nat) (l : List Byte) (s : State) : (writeEventMem a l s).keys = s.keys := rfl
@[simp] theorem writeEventMem_mesh (a : Nat) (l : List Byte) (s : State) : (writeEventMem a l s).mesh = s.mesh := rfl
@[simp] theorem writeEventMem_radio (a : Nat) (l : List Byte) (s : State) : (writeEventMem a l s).radio = s.radio := rfl
@[simp] theorem writeEventMem_ctr (a : Nat) (l : List Byte) (s : State) : (writeEventMem a l s).ctr = s.ctr := rfl

/-! ### takeTurn -/

@[simp] theorem takeTurn_pending (q : Nat) (s : State) : (takeTurn q s).pending = s.pending := rfl
@[simp] theorem takeTurn_now (q : Nat) (s : State) : (takeTurn q s).now = s.now := rfl
@[simp] theorem takeTurn_out (q : Nat) (s : State) : (takeTurn q s).out = s.out := rfl
@[simp] theorem takeTurn_free (q : Nat) (s : State) : (takeTurn q s).free = s.free := rfl
@[simp] theorem takeTurn_host (q : Nat) (s : State) : (takeTurn q s).host = { s.host with lastServed := Sparse.set (fun _ => 16) s.host.lastServed (prioOf s q) q } := rfl
@[simp] theorem takeTurn_mode (q : Nat) (s : State) : (takeTurn q s).mode = s.mode := rfl
@[simp] theorem takeTurn_cfg (q : Nat) (s : State) : (takeTurn q s).cfg = s.cfg := rfl
@[simp] theorem takeTurn_jobs (q : Nat) (s : State) : (takeTurn q s).jobs = s.jobs := rfl
@[simp] theorem takeTurn_fw (q : Nat) (s : State) : (takeTurn q s).fw = s.fw := rfl
@[simp] theorem takeTurn_fuses (q : Nat) (s : State) : (takeTurn q s).fuses = s.fuses := rfl
@[simp] theorem takeTurn_compat (q : Nat) (s : State) : (takeTurn q s).compat = s.compat := rfl
@[simp] theorem takeTurn_power (q : Nat) (s : State) : (takeTurn q s).power = s.power := rfl
@[simp] theorem takeTurn_time (q : Nat) (s : State) : (takeTurn q s).time = s.time := rfl
@[simp] theorem takeTurn_chord (q : Nat) (s : State) : (takeTurn q s).chord = s.chord := rfl
@[simp] theorem takeTurn_store (q : Nat) (s : State) : (takeTurn q s).store = s.store := rfl
@[simp] theorem takeTurn_integ (q : Nat) (s : State) : (takeTurn q s).integ = s.integ := rfl
@[simp] theorem takeTurn_sw (q : Nat) (s : State) : (takeTurn q s).sw = s.sw := rfl
@[simp] theorem takeTurn_keys (q : Nat) (s : State) : (takeTurn q s).keys = s.keys := rfl
@[simp] theorem takeTurn_mesh (q : Nat) (s : State) : (takeTurn q s).mesh = s.mesh := rfl
@[simp] theorem takeTurn_radio (q : Nat) (s : State) : (takeTurn q s).radio = s.radio := rfl
@[simp] theorem takeTurn_ctr (q : Nat) (s : State) : (takeTurn q s).ctr = s.ctr := rfl

/-! ### stageField -/

@[simp] theorem stageField_pending (q g row idx : Nat) (v : Int) (s : State) : (stageField q g row idx v s).pending = s.pending := rfl
@[simp] theorem stageField_now (q g row idx : Nat) (v : Int) (s : State) : (stageField q g row idx v s).now = s.now := rfl
@[simp] theorem stageField_out (q g row idx : Nat) (v : Int) (s : State) : (stageField q g row idx v s).out = s.out := rfl
@[simp] theorem stageField_free (q g row idx : Nat) (v : Int) (s : State) : (stageField q g row idx v s).free = s.free := rfl
@[simp] theorem stageField_host (q g row idx : Nat) (v : Int) (s : State) : (stageField q g row idx v s).host = s.host := rfl
@[simp] theorem stageField_mode (q g row idx : Nat) (v : Int) (s : State) : (stageField q g row idx v s).mode = s.mode := rfl
@[simp] theorem stageField_cfg (q g row idx : Nat) (v : Int) (s : State) : (stageField q g row idx v s).cfg = { s.cfg with staged := Sparse.set (fun _ => none) s.cfg.staged (cfgKey g row idx) (some v), owner := Sparse.set (fun _ => 0) s.cfg.owner g (q + 1) } := rfl
@[simp] theorem stageField_jobs (q g row idx : Nat) (v : Int) (s : State) : (stageField q g row idx v s).jobs = s.jobs := rfl
@[simp] theorem stageField_fw (q g row idx : Nat) (v : Int) (s : State) : (stageField q g row idx v s).fw = s.fw := rfl
@[simp] theorem stageField_fuses (q g row idx : Nat) (v : Int) (s : State) : (stageField q g row idx v s).fuses = s.fuses := rfl
@[simp] theorem stageField_compat (q g row idx : Nat) (v : Int) (s : State) : (stageField q g row idx v s).compat = s.compat := rfl
@[simp] theorem stageField_power (q g row idx : Nat) (v : Int) (s : State) : (stageField q g row idx v s).power = s.power := rfl
@[simp] theorem stageField_time (q g row idx : Nat) (v : Int) (s : State) : (stageField q g row idx v s).time = s.time := rfl
@[simp] theorem stageField_chord (q g row idx : Nat) (v : Int) (s : State) : (stageField q g row idx v s).chord = s.chord := rfl
@[simp] theorem stageField_store (q g row idx : Nat) (v : Int) (s : State) : (stageField q g row idx v s).store = s.store := rfl
@[simp] theorem stageField_integ (q g row idx : Nat) (v : Int) (s : State) : (stageField q g row idx v s).integ = s.integ := rfl
@[simp] theorem stageField_sw (q g row idx : Nat) (v : Int) (s : State) : (stageField q g row idx v s).sw = s.sw := rfl
@[simp] theorem stageField_keys (q g row idx : Nat) (v : Int) (s : State) : (stageField q g row idx v s).keys = s.keys := rfl
@[simp] theorem stageField_mesh (q g row idx : Nat) (v : Int) (s : State) : (stageField q g row idx v s).mesh = s.mesh := rfl
@[simp] theorem stageField_radio (q g row idx : Nat) (v : Int) (s : State) : (stageField q g row idx v s).radio = s.radio := rfl
@[simp] theorem stageField_ctr (q g row idx : Nat) (v : Int) (s : State) : (stageField q g row idx v s).ctr = s.ctr := rfl

/-! ### discardGroup -/

@[simp] theorem discardGroup_pending (g : Nat) (s : State) : (discardGroup g s).pending = s.pending := rfl
@[simp] theorem discardGroup_now (g : Nat) (s : State) : (discardGroup g s).now = s.now := rfl
@[simp] theorem discardGroup_out (g : Nat) (s : State) : (discardGroup g s).out = s.out := rfl
@[simp] theorem discardGroup_free (g : Nat) (s : State) : (discardGroup g s).free = s.free := rfl
@[simp] theorem discardGroup_host (g : Nat) (s : State) : (discardGroup g s).host = s.host := rfl
@[simp] theorem discardGroup_mode (g : Nat) (s : State) : (discardGroup g s).mode = s.mode := rfl
@[simp] theorem discardGroup_cfg (g : Nat) (s : State) : (discardGroup g s).cfg = { s.cfg with staged := Sparse.drop (fun k => keyGroup k == g) s.cfg.staged, owner := Sparse.set (fun _ => 0) s.cfg.owner g 0 } := rfl
@[simp] theorem discardGroup_jobs (g : Nat) (s : State) : (discardGroup g s).jobs = s.jobs := rfl
@[simp] theorem discardGroup_fw (g : Nat) (s : State) : (discardGroup g s).fw = s.fw := rfl
@[simp] theorem discardGroup_fuses (g : Nat) (s : State) : (discardGroup g s).fuses = s.fuses := rfl
@[simp] theorem discardGroup_compat (g : Nat) (s : State) : (discardGroup g s).compat = s.compat := rfl
@[simp] theorem discardGroup_power (g : Nat) (s : State) : (discardGroup g s).power = s.power := rfl
@[simp] theorem discardGroup_time (g : Nat) (s : State) : (discardGroup g s).time = s.time := rfl
@[simp] theorem discardGroup_chord (g : Nat) (s : State) : (discardGroup g s).chord = s.chord := rfl
@[simp] theorem discardGroup_store (g : Nat) (s : State) : (discardGroup g s).store = s.store := rfl
@[simp] theorem discardGroup_integ (g : Nat) (s : State) : (discardGroup g s).integ = s.integ := rfl
@[simp] theorem discardGroup_sw (g : Nat) (s : State) : (discardGroup g s).sw = s.sw := rfl
@[simp] theorem discardGroup_keys (g : Nat) (s : State) : (discardGroup g s).keys = s.keys := rfl
@[simp] theorem discardGroup_mesh (g : Nat) (s : State) : (discardGroup g s).mesh = s.mesh := rfl
@[simp] theorem discardGroup_radio (g : Nat) (s : State) : (discardGroup g s).radio = s.radio := rfl
@[simp] theorem discardGroup_ctr (g : Nat) (s : State) : (discardGroup g s).ctr = s.ctr := rfl

/-! ### cfgSetLive -/

@[simp] theorem cfgSetLive_pending (g row idx : Nat) (v : Int) (s : State) : (cfgSetLive g row idx v s).pending = s.pending := rfl
@[simp] theorem cfgSetLive_now (g row idx : Nat) (v : Int) (s : State) : (cfgSetLive g row idx v s).now = s.now := rfl
@[simp] theorem cfgSetLive_out (g row idx : Nat) (v : Int) (s : State) : (cfgSetLive g row idx v s).out = s.out := rfl
@[simp] theorem cfgSetLive_free (g row idx : Nat) (v : Int) (s : State) : (cfgSetLive g row idx v s).free = s.free := rfl
@[simp] theorem cfgSetLive_host (g row idx : Nat) (v : Int) (s : State) : (cfgSetLive g row idx v s).host = s.host := rfl
@[simp] theorem cfgSetLive_mode (g row idx : Nat) (v : Int) (s : State) : (cfgSetLive g row idx v s).mode = s.mode := rfl
@[simp] theorem cfgSetLive_cfg (g row idx : Nat) (v : Int) (s : State) : (cfgSetLive g row idx v s).cfg = { s.cfg with live := Sparse.set cfgDefault s.cfg.live (cfgKey g row idx) v } := rfl
@[simp] theorem cfgSetLive_jobs (g row idx : Nat) (v : Int) (s : State) : (cfgSetLive g row idx v s).jobs = s.jobs := rfl
@[simp] theorem cfgSetLive_fw (g row idx : Nat) (v : Int) (s : State) : (cfgSetLive g row idx v s).fw = s.fw := rfl
@[simp] theorem cfgSetLive_fuses (g row idx : Nat) (v : Int) (s : State) : (cfgSetLive g row idx v s).fuses = s.fuses := rfl
@[simp] theorem cfgSetLive_compat (g row idx : Nat) (v : Int) (s : State) : (cfgSetLive g row idx v s).compat = s.compat := rfl
@[simp] theorem cfgSetLive_power (g row idx : Nat) (v : Int) (s : State) : (cfgSetLive g row idx v s).power = s.power := rfl
@[simp] theorem cfgSetLive_time (g row idx : Nat) (v : Int) (s : State) : (cfgSetLive g row idx v s).time = s.time := rfl
@[simp] theorem cfgSetLive_chord (g row idx : Nat) (v : Int) (s : State) : (cfgSetLive g row idx v s).chord = s.chord := rfl
@[simp] theorem cfgSetLive_store (g row idx : Nat) (v : Int) (s : State) : (cfgSetLive g row idx v s).store = s.store := rfl
@[simp] theorem cfgSetLive_integ (g row idx : Nat) (v : Int) (s : State) : (cfgSetLive g row idx v s).integ = s.integ := rfl
@[simp] theorem cfgSetLive_sw (g row idx : Nat) (v : Int) (s : State) : (cfgSetLive g row idx v s).sw = s.sw := rfl
@[simp] theorem cfgSetLive_keys (g row idx : Nat) (v : Int) (s : State) : (cfgSetLive g row idx v s).keys = s.keys := rfl
@[simp] theorem cfgSetLive_mesh (g row idx : Nat) (v : Int) (s : State) : (cfgSetLive g row idx v s).mesh = s.mesh := rfl
@[simp] theorem cfgSetLive_radio (g row idx : Nat) (v : Int) (s : State) : (cfgSetLive g row idx v s).radio = s.radio := rfl
@[simp] theorem cfgSetLive_ctr (g row idx : Nat) (v : Int) (s : State) : (cfgSetLive g row idx v s).ctr = s.ctr := rfl

/-! ### ctrSet -/

@[simp] theorem ctrSet_pending (t : CtrTable) (inst n v : Nat) (s : State) : (ctrSet t inst n v s).pending = s.pending := rfl
@[simp] theorem ctrSet_now (t : CtrTable) (inst n v : Nat) (s : State) : (ctrSet t inst n v s).now = s.now := rfl
@[simp] theorem ctrSet_out (t : CtrTable) (inst n v : Nat) (s : State) : (ctrSet t inst n v s).out = s.out := rfl
@[simp] theorem ctrSet_free (t : CtrTable) (inst n v : Nat) (s : State) : (ctrSet t inst n v s).free = s.free := rfl
@[simp] theorem ctrSet_host (t : CtrTable) (inst n v : Nat) (s : State) : (ctrSet t inst n v s).host = s.host := rfl
@[simp] theorem ctrSet_mode (t : CtrTable) (inst n v : Nat) (s : State) : (ctrSet t inst n v s).mode = s.mode := rfl
@[simp] theorem ctrSet_cfg (t : CtrTable) (inst n v : Nat) (s : State) : (ctrSet t inst n v s).cfg = s.cfg := rfl
@[simp] theorem ctrSet_jobs (t : CtrTable) (inst n v : Nat) (s : State) : (ctrSet t inst n v s).jobs = s.jobs := rfl
@[simp] theorem ctrSet_fw (t : CtrTable) (inst n v : Nat) (s : State) : (ctrSet t inst n v s).fw = s.fw := rfl
@[simp] theorem ctrSet_fuses (t : CtrTable) (inst n v : Nat) (s : State) : (ctrSet t inst n v s).fuses = s.fuses := rfl
@[simp] theorem ctrSet_compat (t : CtrTable) (inst n v : Nat) (s : State) : (ctrSet t inst n v s).compat = s.compat := rfl
@[simp] theorem ctrSet_power (t : CtrTable) (inst n v : Nat) (s : State) : (ctrSet t inst n v s).power = s.power := rfl
@[simp] theorem ctrSet_time (t : CtrTable) (inst n v : Nat) (s : State) : (ctrSet t inst n v s).time = s.time := rfl
@[simp] theorem ctrSet_chord (t : CtrTable) (inst n v : Nat) (s : State) : (ctrSet t inst n v s).chord = s.chord := rfl
@[simp] theorem ctrSet_store (t : CtrTable) (inst n v : Nat) (s : State) : (ctrSet t inst n v s).store = s.store := rfl
@[simp] theorem ctrSet_integ (t : CtrTable) (inst n v : Nat) (s : State) : (ctrSet t inst n v s).integ = s.integ := rfl
@[simp] theorem ctrSet_sw (t : CtrTable) (inst n v : Nat) (s : State) : (ctrSet t inst n v s).sw = s.sw := rfl
@[simp] theorem ctrSet_keys (t : CtrTable) (inst n v : Nat) (s : State) : (ctrSet t inst n v s).keys = s.keys := rfl
@[simp] theorem ctrSet_mesh (t : CtrTable) (inst n v : Nat) (s : State) : (ctrSet t inst n v s).mesh = s.mesh := rfl
@[simp] theorem ctrSet_radio (t : CtrTable) (inst n v : Nat) (s : State) : (ctrSet t inst n v s).radio = s.radio := rfl
@[simp] theorem ctrSet_ctr (t : CtrTable) (inst n v : Nat) (s : State) : (ctrSet t inst n v s).ctr = Sparse.set (fun _ => 0) s.ctr (ctrKey t inst n) v := rfl

/-! ### ctrAdd -/

@[simp] theorem ctrAdd_pending (t : CtrTable) (inst n k : Nat) (s : State) : (ctrAdd t inst n k s).pending = s.pending := rfl
@[simp] theorem ctrAdd_now (t : CtrTable) (inst n k : Nat) (s : State) : (ctrAdd t inst n k s).now = s.now := rfl
@[simp] theorem ctrAdd_out (t : CtrTable) (inst n k : Nat) (s : State) : (ctrAdd t inst n k s).out = s.out := rfl
@[simp] theorem ctrAdd_free (t : CtrTable) (inst n k : Nat) (s : State) : (ctrAdd t inst n k s).free = s.free := rfl
@[simp] theorem ctrAdd_host (t : CtrTable) (inst n k : Nat) (s : State) : (ctrAdd t inst n k s).host = s.host := rfl
@[simp] theorem ctrAdd_mode (t : CtrTable) (inst n k : Nat) (s : State) : (ctrAdd t inst n k s).mode = s.mode := rfl
@[simp] theorem ctrAdd_cfg (t : CtrTable) (inst n k : Nat) (s : State) : (ctrAdd t inst n k s).cfg = s.cfg := rfl
@[simp] theorem ctrAdd_jobs (t : CtrTable) (inst n k : Nat) (s : State) : (ctrAdd t inst n k s).jobs = s.jobs := rfl
@[simp] theorem ctrAdd_fw (t : CtrTable) (inst n k : Nat) (s : State) : (ctrAdd t inst n k s).fw = s.fw := rfl
@[simp] theorem ctrAdd_fuses (t : CtrTable) (inst n k : Nat) (s : State) : (ctrAdd t inst n k s).fuses = s.fuses := rfl
@[simp] theorem ctrAdd_compat (t : CtrTable) (inst n k : Nat) (s : State) : (ctrAdd t inst n k s).compat = s.compat := rfl
@[simp] theorem ctrAdd_power (t : CtrTable) (inst n k : Nat) (s : State) : (ctrAdd t inst n k s).power = s.power := rfl
@[simp] theorem ctrAdd_time (t : CtrTable) (inst n k : Nat) (s : State) : (ctrAdd t inst n k s).time = s.time := rfl
@[simp] theorem ctrAdd_chord (t : CtrTable) (inst n k : Nat) (s : State) : (ctrAdd t inst n k s).chord = s.chord := rfl
@[simp] theorem ctrAdd_store (t : CtrTable) (inst n k : Nat) (s : State) : (ctrAdd t inst n k s).store = s.store := rfl
@[simp] theorem ctrAdd_integ (t : CtrTable) (inst n k : Nat) (s : State) : (ctrAdd t inst n k s).integ = s.integ := rfl
@[simp] theorem ctrAdd_sw (t : CtrTable) (inst n k : Nat) (s : State) : (ctrAdd t inst n k s).sw = s.sw := rfl
@[simp] theorem ctrAdd_keys (t : CtrTable) (inst n k : Nat) (s : State) : (ctrAdd t inst n k s).keys = s.keys := rfl
@[simp] theorem ctrAdd_mesh (t : CtrTable) (inst n k : Nat) (s : State) : (ctrAdd t inst n k s).mesh = s.mesh := rfl
@[simp] theorem ctrAdd_radio (t : CtrTable) (inst n k : Nat) (s : State) : (ctrAdd t inst n k s).radio = s.radio := rfl

/-! ### ctrInc -/

@[simp] theorem ctrInc_pending (t : CtrTable) (inst n : Nat) (s : State) : (ctrInc t inst n s).pending = s.pending := rfl
@[simp] theorem ctrInc_now (t : CtrTable) (inst n : Nat) (s : State) : (ctrInc t inst n s).now = s.now := rfl
@[simp] theorem ctrInc_out (t : CtrTable) (inst n : Nat) (s : State) : (ctrInc t inst n s).out = s.out := rfl
@[simp] theorem ctrInc_free (t : CtrTable) (inst n : Nat) (s : State) : (ctrInc t inst n s).free = s.free := rfl
@[simp] theorem ctrInc_host (t : CtrTable) (inst n : Nat) (s : State) : (ctrInc t inst n s).host = s.host := rfl
@[simp] theorem ctrInc_mode (t : CtrTable) (inst n : Nat) (s : State) : (ctrInc t inst n s).mode = s.mode := rfl
@[simp] theorem ctrInc_cfg (t : CtrTable) (inst n : Nat) (s : State) : (ctrInc t inst n s).cfg = s.cfg := rfl
@[simp] theorem ctrInc_jobs (t : CtrTable) (inst n : Nat) (s : State) : (ctrInc t inst n s).jobs = s.jobs := rfl
@[simp] theorem ctrInc_fw (t : CtrTable) (inst n : Nat) (s : State) : (ctrInc t inst n s).fw = s.fw := rfl
@[simp] theorem ctrInc_fuses (t : CtrTable) (inst n : Nat) (s : State) : (ctrInc t inst n s).fuses = s.fuses := rfl
@[simp] theorem ctrInc_compat (t : CtrTable) (inst n : Nat) (s : State) : (ctrInc t inst n s).compat = s.compat := rfl
@[simp] theorem ctrInc_power (t : CtrTable) (inst n : Nat) (s : State) : (ctrInc t inst n s).power = s.power := rfl
@[simp] theorem ctrInc_time (t : CtrTable) (inst n : Nat) (s : State) : (ctrInc t inst n s).time = s.time := rfl
@[simp] theorem ctrInc_chord (t : CtrTable) (inst n : Nat) (s : State) : (ctrInc t inst n s).chord = s.chord := rfl
@[simp] theorem ctrInc_store (t : CtrTable) (inst n : Nat) (s : State) : (ctrInc t inst n s).store = s.store := rfl
@[simp] theorem ctrInc_integ (t : CtrTable) (inst n : Nat) (s : State) : (ctrInc t inst n s).integ = s.integ := rfl
@[simp] theorem ctrInc_sw (t : CtrTable) (inst n : Nat) (s : State) : (ctrInc t inst n s).sw = s.sw := rfl
@[simp] theorem ctrInc_keys (t : CtrTable) (inst n : Nat) (s : State) : (ctrInc t inst n s).keys = s.keys := rfl
@[simp] theorem ctrInc_mesh (t : CtrTable) (inst n : Nat) (s : State) : (ctrInc t inst n s).mesh = s.mesh := rfl
@[simp] theorem ctrInc_radio (t : CtrTable) (inst n : Nat) (s : State) : (ctrInc t inst n s).radio = s.radio := rfl

/-! ### modMode -/

@[simp] theorem modMode_pending (f : ModeState → ModeState) (s : State) : (modMode f s).pending = s.pending := rfl
@[simp] theorem modMode_now (f : ModeState → ModeState) (s : State) : (modMode f s).now = s.now := rfl
@[simp] theorem modMode_out (f : ModeState → ModeState) (s : State) : (modMode f s).out = s.out := rfl
@[simp] theorem modMode_free (f : ModeState → ModeState) (s : State) : (modMode f s).free = s.free := rfl
@[simp] theorem modMode_host (f : ModeState → ModeState) (s : State) : (modMode f s).host = s.host := rfl
@[simp] theorem modMode_mode (f : ModeState → ModeState) (s : State) : (modMode f s).mode = f s.mode := rfl
@[simp] theorem modMode_cfg (f : ModeState → ModeState) (s : State) : (modMode f s).cfg = s.cfg := rfl
@[simp] theorem modMode_jobs (f : ModeState → ModeState) (s : State) : (modMode f s).jobs = s.jobs := rfl
@[simp] theorem modMode_fw (f : ModeState → ModeState) (s : State) : (modMode f s).fw = s.fw := rfl
@[simp] theorem modMode_fuses (f : ModeState → ModeState) (s : State) : (modMode f s).fuses = s.fuses := rfl
@[simp] theorem modMode_compat (f : ModeState → ModeState) (s : State) : (modMode f s).compat = s.compat := rfl
@[simp] theorem modMode_power (f : ModeState → ModeState) (s : State) : (modMode f s).power = s.power := rfl
@[simp] theorem modMode_time (f : ModeState → ModeState) (s : State) : (modMode f s).time = s.time := rfl
@[simp] theorem modMode_chord (f : ModeState → ModeState) (s : State) : (modMode f s).chord = s.chord := rfl
@[simp] theorem modMode_store (f : ModeState → ModeState) (s : State) : (modMode f s).store = s.store := rfl
@[simp] theorem modMode_integ (f : ModeState → ModeState) (s : State) : (modMode f s).integ = s.integ := rfl
@[simp] theorem modMode_sw (f : ModeState → ModeState) (s : State) : (modMode f s).sw = s.sw := rfl
@[simp] theorem modMode_keys (f : ModeState → ModeState) (s : State) : (modMode f s).keys = s.keys := rfl
@[simp] theorem modMode_mesh (f : ModeState → ModeState) (s : State) : (modMode f s).mesh = s.mesh := rfl
@[simp] theorem modMode_radio (f : ModeState → ModeState) (s : State) : (modMode f s).radio = s.radio := rfl
@[simp] theorem modMode_ctr (f : ModeState → ModeState) (s : State) : (modMode f s).ctr = s.ctr := rfl

/-! ### modFw -/

@[simp] theorem modFw_pending (f : FwState → FwState) (s : State) : (modFw f s).pending = s.pending := rfl
@[simp] theorem modFw_now (f : FwState → FwState) (s : State) : (modFw f s).now = s.now := rfl
@[simp] theorem modFw_out (f : FwState → FwState) (s : State) : (modFw f s).out = s.out := rfl
@[simp] theorem modFw_free (f : FwState → FwState) (s : State) : (modFw f s).free = s.free := rfl
@[simp] theorem modFw_host (f : FwState → FwState) (s : State) : (modFw f s).host = s.host := rfl
@[simp] theorem modFw_mode (f : FwState → FwState) (s : State) : (modFw f s).mode = s.mode := rfl
@[simp] theorem modFw_cfg (f : FwState → FwState) (s : State) : (modFw f s).cfg = s.cfg := rfl
@[simp] theorem modFw_jobs (f : FwState → FwState) (s : State) : (modFw f s).jobs = s.jobs := rfl
@[simp] theorem modFw_fw (f : FwState → FwState) (s : State) : (modFw f s).fw = f s.fw := rfl
@[simp] theorem modFw_fuses (f : FwState → FwState) (s : State) : (modFw f s).fuses = s.fuses := rfl
@[simp] theorem modFw_compat (f : FwState → FwState) (s : State) : (modFw f s).compat = s.compat := rfl
@[simp] theorem modFw_power (f : FwState → FwState) (s : State) : (modFw f s).power = s.power := rfl
@[simp] theorem modFw_time (f : FwState → FwState) (s : State) : (modFw f s).time = s.time := rfl
@[simp] theorem modFw_chord (f : FwState → FwState) (s : State) : (modFw f s).chord = s.chord := rfl
@[simp] theorem modFw_store (f : FwState → FwState) (s : State) : (modFw f s).store = s.store := rfl
@[simp] theorem modFw_integ (f : FwState → FwState) (s : State) : (modFw f s).integ = s.integ := rfl
@[simp] theorem modFw_sw (f : FwState → FwState) (s : State) : (modFw f s).sw = s.sw := rfl
@[simp] theorem modFw_keys (f : FwState → FwState) (s : State) : (modFw f s).keys = s.keys := rfl
@[simp] theorem modFw_mesh (f : FwState → FwState) (s : State) : (modFw f s).mesh = s.mesh := rfl
@[simp] theorem modFw_radio (f : FwState → FwState) (s : State) : (modFw f s).radio = s.radio := rfl
@[simp] theorem modFw_ctr (f : FwState → FwState) (s : State) : (modFw f s).ctr = s.ctr := rfl

/-! ### modCompat -/

@[simp] theorem modCompat_pending (f : CompatState → CompatState) (s : State) : (modCompat f s).pending = s.pending := rfl
@[simp] theorem modCompat_now (f : CompatState → CompatState) (s : State) : (modCompat f s).now = s.now := rfl
@[simp] theorem modCompat_out (f : CompatState → CompatState) (s : State) : (modCompat f s).out = s.out := rfl
@[simp] theorem modCompat_free (f : CompatState → CompatState) (s : State) : (modCompat f s).free = s.free := rfl
@[simp] theorem modCompat_host (f : CompatState → CompatState) (s : State) : (modCompat f s).host = s.host := rfl
@[simp] theorem modCompat_mode (f : CompatState → CompatState) (s : State) : (modCompat f s).mode = s.mode := rfl
@[simp] theorem modCompat_cfg (f : CompatState → CompatState) (s : State) : (modCompat f s).cfg = s.cfg := rfl
@[simp] theorem modCompat_jobs (f : CompatState → CompatState) (s : State) : (modCompat f s).jobs = s.jobs := rfl
@[simp] theorem modCompat_fw (f : CompatState → CompatState) (s : State) : (modCompat f s).fw = s.fw := rfl
@[simp] theorem modCompat_fuses (f : CompatState → CompatState) (s : State) : (modCompat f s).fuses = s.fuses := rfl
@[simp] theorem modCompat_compat (f : CompatState → CompatState) (s : State) : (modCompat f s).compat = f s.compat := rfl
@[simp] theorem modCompat_power (f : CompatState → CompatState) (s : State) : (modCompat f s).power = s.power := rfl
@[simp] theorem modCompat_time (f : CompatState → CompatState) (s : State) : (modCompat f s).time = s.time := rfl
@[simp] theorem modCompat_chord (f : CompatState → CompatState) (s : State) : (modCompat f s).chord = s.chord := rfl
@[simp] theorem modCompat_store (f : CompatState → CompatState) (s : State) : (modCompat f s).store = s.store := rfl
@[simp] theorem modCompat_integ (f : CompatState → CompatState) (s : State) : (modCompat f s).integ = s.integ := rfl
@[simp] theorem modCompat_sw (f : CompatState → CompatState) (s : State) : (modCompat f s).sw = s.sw := rfl
@[simp] theorem modCompat_keys (f : CompatState → CompatState) (s : State) : (modCompat f s).keys = s.keys := rfl
@[simp] theorem modCompat_mesh (f : CompatState → CompatState) (s : State) : (modCompat f s).mesh = s.mesh := rfl
@[simp] theorem modCompat_radio (f : CompatState → CompatState) (s : State) : (modCompat f s).radio = s.radio := rfl
@[simp] theorem modCompat_ctr (f : CompatState → CompatState) (s : State) : (modCompat f s).ctr = s.ctr := rfl

/-! ### modPower -/

@[simp] theorem modPower_pending (f : PowerState → PowerState) (s : State) : (modPower f s).pending = s.pending := rfl
@[simp] theorem modPower_now (f : PowerState → PowerState) (s : State) : (modPower f s).now = s.now := rfl
@[simp] theorem modPower_out (f : PowerState → PowerState) (s : State) : (modPower f s).out = s.out := rfl
@[simp] theorem modPower_free (f : PowerState → PowerState) (s : State) : (modPower f s).free = s.free := rfl
@[simp] theorem modPower_host (f : PowerState → PowerState) (s : State) : (modPower f s).host = s.host := rfl
@[simp] theorem modPower_mode (f : PowerState → PowerState) (s : State) : (modPower f s).mode = s.mode := rfl
@[simp] theorem modPower_cfg (f : PowerState → PowerState) (s : State) : (modPower f s).cfg = s.cfg := rfl
@[simp] theorem modPower_jobs (f : PowerState → PowerState) (s : State) : (modPower f s).jobs = s.jobs := rfl
@[simp] theorem modPower_fw (f : PowerState → PowerState) (s : State) : (modPower f s).fw = s.fw := rfl
@[simp] theorem modPower_fuses (f : PowerState → PowerState) (s : State) : (modPower f s).fuses = s.fuses := rfl
@[simp] theorem modPower_compat (f : PowerState → PowerState) (s : State) : (modPower f s).compat = s.compat := rfl
@[simp] theorem modPower_power (f : PowerState → PowerState) (s : State) : (modPower f s).power = f s.power := rfl
@[simp] theorem modPower_time (f : PowerState → PowerState) (s : State) : (modPower f s).time = s.time := rfl
@[simp] theorem modPower_chord (f : PowerState → PowerState) (s : State) : (modPower f s).chord = s.chord := rfl
@[simp] theorem modPower_store (f : PowerState → PowerState) (s : State) : (modPower f s).store = s.store := rfl
@[simp] theorem modPower_integ (f : PowerState → PowerState) (s : State) : (modPower f s).integ = s.integ := rfl
@[simp] theorem modPower_sw (f : PowerState → PowerState) (s : State) : (modPower f s).sw = s.sw := rfl
@[simp] theorem modPower_keys (f : PowerState → PowerState) (s : State) : (modPower f s).keys = s.keys := rfl
@[simp] theorem modPower_mesh (f : PowerState → PowerState) (s : State) : (modPower f s).mesh = s.mesh := rfl
@[simp] theorem modPower_radio (f : PowerState → PowerState) (s : State) : (modPower f s).radio = s.radio := rfl
@[simp] theorem modPower_ctr (f : PowerState → PowerState) (s : State) : (modPower f s).ctr = s.ctr := rfl

/-! ### modMer -/

@[simp] theorem modMer_pending (f : Meridian → Meridian) (s : State) : (modMer f s).pending = s.pending := rfl
@[simp] theorem modMer_now (f : Meridian → Meridian) (s : State) : (modMer f s).now = s.now := rfl
@[simp] theorem modMer_out (f : Meridian → Meridian) (s : State) : (modMer f s).out = s.out := rfl
@[simp] theorem modMer_free (f : Meridian → Meridian) (s : State) : (modMer f s).free = s.free := rfl
@[simp] theorem modMer_host (f : Meridian → Meridian) (s : State) : (modMer f s).host = s.host := rfl
@[simp] theorem modMer_mode (f : Meridian → Meridian) (s : State) : (modMer f s).mode = s.mode := rfl
@[simp] theorem modMer_cfg (f : Meridian → Meridian) (s : State) : (modMer f s).cfg = s.cfg := rfl
@[simp] theorem modMer_jobs (f : Meridian → Meridian) (s : State) : (modMer f s).jobs = s.jobs := rfl
@[simp] theorem modMer_fw (f : Meridian → Meridian) (s : State) : (modMer f s).fw = s.fw := rfl
@[simp] theorem modMer_fuses (f : Meridian → Meridian) (s : State) : (modMer f s).fuses = s.fuses := rfl
@[simp] theorem modMer_compat (f : Meridian → Meridian) (s : State) : (modMer f s).compat = s.compat := rfl
@[simp] theorem modMer_power (f : Meridian → Meridian) (s : State) : (modMer f s).power = s.power := rfl
@[simp] theorem modMer_time (f : Meridian → Meridian) (s : State) : (modMer f s).time = { s.time with mer := f s.time.mer } := rfl
@[simp] theorem modMer_chord (f : Meridian → Meridian) (s : State) : (modMer f s).chord = s.chord := rfl
@[simp] theorem modMer_store (f : Meridian → Meridian) (s : State) : (modMer f s).store = s.store := rfl
@[simp] theorem modMer_integ (f : Meridian → Meridian) (s : State) : (modMer f s).integ = s.integ := rfl
@[simp] theorem modMer_sw (f : Meridian → Meridian) (s : State) : (modMer f s).sw = s.sw := rfl
@[simp] theorem modMer_keys (f : Meridian → Meridian) (s : State) : (modMer f s).keys = s.keys := rfl
@[simp] theorem modMer_mesh (f : Meridian → Meridian) (s : State) : (modMer f s).mesh = s.mesh := rfl
@[simp] theorem modMer_radio (f : Meridian → Meridian) (s : State) : (modMer f s).radio = s.radio := rfl
@[simp] theorem modMer_ctr (f : Meridian → Meridian) (s : State) : (modMer f s).ctr = s.ctr := rfl

/-! ### setTout -/

@[simp] theorem setTout_pending (n : Nat) (x : Tout) (s : State) : (setTout n x s).pending = s.pending := rfl
@[simp] theorem setTout_now (n : Nat) (x : Tout) (s : State) : (setTout n x s).now = s.now := rfl
@[simp] theorem setTout_out (n : Nat) (x : Tout) (s : State) : (setTout n x s).out = s.out := rfl
@[simp] theorem setTout_free (n : Nat) (x : Tout) (s : State) : (setTout n x s).free = s.free := rfl
@[simp] theorem setTout_host (n : Nat) (x : Tout) (s : State) : (setTout n x s).host = s.host := rfl
@[simp] theorem setTout_mode (n : Nat) (x : Tout) (s : State) : (setTout n x s).mode = s.mode := rfl
@[simp] theorem setTout_cfg (n : Nat) (x : Tout) (s : State) : (setTout n x s).cfg = s.cfg := rfl
@[simp] theorem setTout_jobs (n : Nat) (x : Tout) (s : State) : (setTout n x s).jobs = s.jobs := rfl
@[simp] theorem setTout_fw (n : Nat) (x : Tout) (s : State) : (setTout n x s).fw = s.fw := rfl
@[simp] theorem setTout_fuses (n : Nat) (x : Tout) (s : State) : (setTout n x s).fuses = s.fuses := rfl
@[simp] theorem setTout_compat (n : Nat) (x : Tout) (s : State) : (setTout n x s).compat = s.compat := rfl
@[simp] theorem setTout_power (n : Nat) (x : Tout) (s : State) : (setTout n x s).power = s.power := rfl
@[simp] theorem setTout_time (n : Nat) (x : Tout) (s : State) : (setTout n x s).time = { s.time with tout := Sparse.set (fun _ => Tout.reset) s.time.tout n x } := rfl
@[simp] theorem setTout_chord (n : Nat) (x : Tout) (s : State) : (setTout n x s).chord = s.chord := rfl
@[simp] theorem setTout_store (n : Nat) (x : Tout) (s : State) : (setTout n x s).store = s.store := rfl
@[simp] theorem setTout_integ (n : Nat) (x : Tout) (s : State) : (setTout n x s).integ = s.integ := rfl
@[simp] theorem setTout_sw (n : Nat) (x : Tout) (s : State) : (setTout n x s).sw = s.sw := rfl
@[simp] theorem setTout_keys (n : Nat) (x : Tout) (s : State) : (setTout n x s).keys = s.keys := rfl
@[simp] theorem setTout_mesh (n : Nat) (x : Tout) (s : State) : (setTout n x s).mesh = s.mesh := rfl
@[simp] theorem setTout_radio (n : Nat) (x : Tout) (s : State) : (setTout n x s).radio = s.radio := rfl
@[simp] theorem setTout_ctr (n : Nat) (x : Tout) (s : State) : (setTout n x s).ctr = s.ctr := rfl

/-! ### setTin -/

@[simp] theorem setTin_pending (n : Nat) (x : Tin) (s : State) : (setTin n x s).pending = s.pending := rfl
@[simp] theorem setTin_now (n : Nat) (x : Tin) (s : State) : (setTin n x s).now = s.now := rfl
@[simp] theorem setTin_out (n : Nat) (x : Tin) (s : State) : (setTin n x s).out = s.out := rfl
@[simp] theorem setTin_free (n : Nat) (x : Tin) (s : State) : (setTin n x s).free = s.free := rfl
@[simp] theorem setTin_host (n : Nat) (x : Tin) (s : State) : (setTin n x s).host = s.host := rfl
@[simp] theorem setTin_mode (n : Nat) (x : Tin) (s : State) : (setTin n x s).mode = s.mode := rfl
@[simp] theorem setTin_cfg (n : Nat) (x : Tin) (s : State) : (setTin n x s).cfg = s.cfg := rfl
@[simp] theorem setTin_jobs (n : Nat) (x : Tin) (s : State) : (setTin n x s).jobs = s.jobs := rfl
@[simp] theorem setTin_fw (n : Nat) (x : Tin) (s : State) : (setTin n x s).fw = s.fw := rfl
@[simp] theorem setTin_fuses (n : Nat) (x : Tin) (s : State) : (setTin n x s).fuses = s.fuses := rfl
@[simp] theorem setTin_compat (n : Nat) (x : Tin) (s : State) : (setTin n x s).compat = s.compat := rfl
@[simp] theorem setTin_power (n : Nat) (x : Tin) (s : State) : (setTin n x s).power = s.power := rfl
@[simp] theorem setTin_time (n : Nat) (x : Tin) (s : State) : (setTin n x s).time = { s.time with tin := Sparse.set (fun _ => Tin.reset) s.time.tin n x } := rfl
@[simp] theorem setTin_chord (n : Nat) (x : Tin) (s : State) : (setTin n x s).chord = s.chord := rfl
@[simp] theorem setTin_store (n : Nat) (x : Tin) (s : State) : (setTin n x s).store = s.store := rfl
@[simp] theorem setTin_integ (n : Nat) (x : Tin) (s : State) : (setTin n x s).integ = s.integ := rfl
@[simp] theorem setTin_sw (n : Nat) (x : Tin) (s : State) : (setTin n x s).sw = s.sw := rfl
@[simp] theorem setTin_keys (n : Nat) (x : Tin) (s : State) : (setTin n x s).keys = s.keys := rfl
@[simp] theorem setTin_mesh (n : Nat) (x : Tin) (s : State) : (setTin n x s).mesh = s.mesh := rfl
@[simp] theorem setTin_radio (n : Nat) (x : Tin) (s : State) : (setTin n x s).radio = s.radio := rfl
@[simp] theorem setTin_ctr (n : Nat) (x : Tin) (s : State) : (setTin n x s).ctr = s.ctr := rfl

/-! ### setTsq -/

@[simp] theorem setTsq_pending (n : Nat) (x : Tsq) (s : State) : (setTsq n x s).pending = s.pending := rfl
@[simp] theorem setTsq_now (n : Nat) (x : Tsq) (s : State) : (setTsq n x s).now = s.now := rfl
@[simp] theorem setTsq_out (n : Nat) (x : Tsq) (s : State) : (setTsq n x s).out = s.out := rfl
@[simp] theorem setTsq_free (n : Nat) (x : Tsq) (s : State) : (setTsq n x s).free = s.free := rfl
@[simp] theorem setTsq_host (n : Nat) (x : Tsq) (s : State) : (setTsq n x s).host = s.host := rfl
@[simp] theorem setTsq_mode (n : Nat) (x : Tsq) (s : State) : (setTsq n x s).mode = s.mode := rfl
@[simp] theorem setTsq_cfg (n : Nat) (x : Tsq) (s : State) : (setTsq n x s).cfg = s.cfg := rfl
@[simp] theorem setTsq_jobs (n : Nat) (x : Tsq) (s : State) : (setTsq n x s).jobs = s.jobs := rfl
@[simp] theorem setTsq_fw (n : Nat) (x : Tsq) (s : State) : (setTsq n x s).fw = s.fw := rfl
@[simp] theorem setTsq_fuses (n : Nat) (x : Tsq) (s : State) : (setTsq n x s).fuses = s.fuses := rfl
@[simp] theorem setTsq_compat (n : Nat) (x : Tsq) (s : State) : (setTsq n x s).compat = s.compat := rfl
@[simp] theorem setTsq_power (n : Nat) (x : Tsq) (s : State) : (setTsq n x s).power = s.power := rfl
@[simp] theorem setTsq_time (n : Nat) (x : Tsq) (s : State) : (setTsq n x s).time = { s.time with tsq := Sparse.set (fun _ => Tsq.reset) s.time.tsq n x } := rfl
@[simp] theorem setTsq_chord (n : Nat) (x : Tsq) (s : State) : (setTsq n x s).chord = s.chord := rfl
@[simp] theorem setTsq_store (n : Nat) (x : Tsq) (s : State) : (setTsq n x s).store = s.store := rfl
@[simp] theorem setTsq_integ (n : Nat) (x : Tsq) (s : State) : (setTsq n x s).integ = s.integ := rfl
@[simp] theorem setTsq_sw (n : Nat) (x : Tsq) (s : State) : (setTsq n x s).sw = s.sw := rfl
@[simp] theorem setTsq_keys (n : Nat) (x : Tsq) (s : State) : (setTsq n x s).keys = s.keys := rfl
@[simp] theorem setTsq_mesh (n : Nat) (x : Tsq) (s : State) : (setTsq n x s).mesh = s.mesh := rfl
@[simp] theorem setTsq_radio (n : Nat) (x : Tsq) (s : State) : (setTsq n x s).radio = s.radio := rfl
@[simp] theorem setTsq_ctr (n : Nat) (x : Tsq) (s : State) : (setTsq n x s).ctr = s.ctr := rfl

/-! ### setArc -/

@[simp] theorem setArc_pending (n : Nat) (x : ArcCh) (s : State) : (setArc n x s).pending = s.pending := rfl
@[simp] theorem setArc_now (n : Nat) (x : ArcCh) (s : State) : (setArc n x s).now = s.now := rfl
@[simp] theorem setArc_out (n : Nat) (x : ArcCh) (s : State) : (setArc n x s).out = s.out := rfl
@[simp] theorem setArc_free (n : Nat) (x : ArcCh) (s : State) : (setArc n x s).free = s.free := rfl
@[simp] theorem setArc_host (n : Nat) (x : ArcCh) (s : State) : (setArc n x s).host = s.host := rfl
@[simp] theorem setArc_mode (n : Nat) (x : ArcCh) (s : State) : (setArc n x s).mode = s.mode := rfl
@[simp] theorem setArc_cfg (n : Nat) (x : ArcCh) (s : State) : (setArc n x s).cfg = s.cfg := rfl
@[simp] theorem setArc_jobs (n : Nat) (x : ArcCh) (s : State) : (setArc n x s).jobs = s.jobs := rfl
@[simp] theorem setArc_fw (n : Nat) (x : ArcCh) (s : State) : (setArc n x s).fw = s.fw := rfl
@[simp] theorem setArc_fuses (n : Nat) (x : ArcCh) (s : State) : (setArc n x s).fuses = s.fuses := rfl
@[simp] theorem setArc_compat (n : Nat) (x : ArcCh) (s : State) : (setArc n x s).compat = s.compat := rfl
@[simp] theorem setArc_power (n : Nat) (x : ArcCh) (s : State) : (setArc n x s).power = s.power := rfl
@[simp] theorem setArc_time (n : Nat) (x : ArcCh) (s : State) : (setArc n x s).time = { s.time with arc := Sparse.set (fun _ => ArcCh.reset) s.time.arc n x } := rfl
@[simp] theorem setArc_chord (n : Nat) (x : ArcCh) (s : State) : (setArc n x s).chord = s.chord := rfl
@[simp] theorem setArc_store (n : Nat) (x : ArcCh) (s : State) : (setArc n x s).store = s.store := rfl
@[simp] theorem setArc_integ (n : Nat) (x : ArcCh) (s : State) : (setArc n x s).integ = s.integ := rfl
@[simp] theorem setArc_sw (n : Nat) (x : ArcCh) (s : State) : (setArc n x s).sw = s.sw := rfl
@[simp] theorem setArc_keys (n : Nat) (x : ArcCh) (s : State) : (setArc n x s).keys = s.keys := rfl
@[simp] theorem setArc_mesh (n : Nat) (x : ArcCh) (s : State) : (setArc n x s).mesh = s.mesh := rfl
@[simp] theorem setArc_radio (n : Nat) (x : ArcCh) (s : State) : (setArc n x s).radio = s.radio := rfl
@[simp] theorem setArc_ctr (n : Nat) (x : ArcCh) (s : State) : (setArc n x s).ctr = s.ctr := rfl

/-! ### setLink -/

@[simp] theorem setLink_pending (n : Nat) (x : ChordLink) (s : State) : (setLink n x s).pending = s.pending := rfl
@[simp] theorem setLink_now (n : Nat) (x : ChordLink) (s : State) : (setLink n x s).now = s.now := rfl
@[simp] theorem setLink_out (n : Nat) (x : ChordLink) (s : State) : (setLink n x s).out = s.out := rfl
@[simp] theorem setLink_free (n : Nat) (x : ChordLink) (s : State) : (setLink n x s).free = s.free := rfl
@[simp] theorem setLink_host (n : Nat) (x : ChordLink) (s : State) : (setLink n x s).host = s.host := rfl
@[simp] theorem setLink_mode (n : Nat) (x : ChordLink) (s : State) : (setLink n x s).mode = s.mode := rfl
@[simp] theorem setLink_cfg (n : Nat) (x : ChordLink) (s : State) : (setLink n x s).cfg = s.cfg := rfl
@[simp] theorem setLink_jobs (n : Nat) (x : ChordLink) (s : State) : (setLink n x s).jobs = s.jobs := rfl
@[simp] theorem setLink_fw (n : Nat) (x : ChordLink) (s : State) : (setLink n x s).fw = s.fw := rfl
@[simp] theorem setLink_fuses (n : Nat) (x : ChordLink) (s : State) : (setLink n x s).fuses = s.fuses := rfl
@[simp] theorem setLink_compat (n : Nat) (x : ChordLink) (s : State) : (setLink n x s).compat = s.compat := rfl
@[simp] theorem setLink_power (n : Nat) (x : ChordLink) (s : State) : (setLink n x s).power = s.power := rfl
@[simp] theorem setLink_time (n : Nat) (x : ChordLink) (s : State) : (setLink n x s).time = s.time := rfl
@[simp] theorem setLink_chord (n : Nat) (x : ChordLink) (s : State) : (setLink n x s).chord = { s.chord with links := Sparse.set (fun _ => ChordLink.reset) s.chord.links n x } := rfl
@[simp] theorem setLink_store (n : Nat) (x : ChordLink) (s : State) : (setLink n x s).store = s.store := rfl
@[simp] theorem setLink_integ (n : Nat) (x : ChordLink) (s : State) : (setLink n x s).integ = s.integ := rfl
@[simp] theorem setLink_sw (n : Nat) (x : ChordLink) (s : State) : (setLink n x s).sw = s.sw := rfl
@[simp] theorem setLink_keys (n : Nat) (x : ChordLink) (s : State) : (setLink n x s).keys = s.keys := rfl
@[simp] theorem setLink_mesh (n : Nat) (x : ChordLink) (s : State) : (setLink n x s).mesh = s.mesh := rfl
@[simp] theorem setLink_radio (n : Nat) (x : ChordLink) (s : State) : (setLink n x s).radio = s.radio := rfl
@[simp] theorem setLink_ctr (n : Nat) (x : ChordLink) (s : State) : (setLink n x s).ctr = s.ctr := rfl

/-! ### modMember -/

@[simp] theorem modMember_pending (m : Nat) (f : Member → Member) (s : State) : (modMember m f s).pending = s.pending := rfl
@[simp] theorem modMember_now (m : Nat) (f : Member → Member) (s : State) : (modMember m f s).now = s.now := rfl
@[simp] theorem modMember_out (m : Nat) (f : Member → Member) (s : State) : (modMember m f s).out = s.out := rfl
@[simp] theorem modMember_free (m : Nat) (f : Member → Member) (s : State) : (modMember m f s).free = s.free := rfl
@[simp] theorem modMember_host (m : Nat) (f : Member → Member) (s : State) : (modMember m f s).host = s.host := rfl
@[simp] theorem modMember_mode (m : Nat) (f : Member → Member) (s : State) : (modMember m f s).mode = s.mode := rfl
@[simp] theorem modMember_cfg (m : Nat) (f : Member → Member) (s : State) : (modMember m f s).cfg = s.cfg := rfl
@[simp] theorem modMember_jobs (m : Nat) (f : Member → Member) (s : State) : (modMember m f s).jobs = s.jobs := rfl
@[simp] theorem modMember_fw (m : Nat) (f : Member → Member) (s : State) : (modMember m f s).fw = s.fw := rfl
@[simp] theorem modMember_fuses (m : Nat) (f : Member → Member) (s : State) : (modMember m f s).fuses = s.fuses := rfl
@[simp] theorem modMember_compat (m : Nat) (f : Member → Member) (s : State) : (modMember m f s).compat = s.compat := rfl
@[simp] theorem modMember_power (m : Nat) (f : Member → Member) (s : State) : (modMember m f s).power = s.power := rfl
@[simp] theorem modMember_time (m : Nat) (f : Member → Member) (s : State) : (modMember m f s).time = s.time := rfl
@[simp] theorem modMember_chord (m : Nat) (f : Member → Member) (s : State) : (modMember m f s).chord = { s.chord with members := Sparse.set (fun _ => Member.reset) s.chord.members m (f (memberOf s m)) } := rfl
@[simp] theorem modMember_store (m : Nat) (f : Member → Member) (s : State) : (modMember m f s).store = s.store := rfl
@[simp] theorem modMember_integ (m : Nat) (f : Member → Member) (s : State) : (modMember m f s).integ = s.integ := rfl
@[simp] theorem modMember_sw (m : Nat) (f : Member → Member) (s : State) : (modMember m f s).sw = s.sw := rfl
@[simp] theorem modMember_keys (m : Nat) (f : Member → Member) (s : State) : (modMember m f s).keys = s.keys := rfl
@[simp] theorem modMember_mesh (m : Nat) (f : Member → Member) (s : State) : (modMember m f s).mesh = s.mesh := rfl
@[simp] theorem modMember_radio (m : Nat) (f : Member → Member) (s : State) : (modMember m f s).radio = s.radio := rfl
@[simp] theorem modMember_ctr (m : Nat) (f : Member → Member) (s : State) : (modMember m f s).ctr = s.ctr := rfl

/-! ### modTwin -/

@[simp] theorem modTwin_pending (f : TwinState → TwinState) (s : State) : (modTwin f s).pending = s.pending := rfl
@[simp] theorem modTwin_now (f : TwinState → TwinState) (s : State) : (modTwin f s).now = s.now := rfl
@[simp] theorem modTwin_out (f : TwinState → TwinState) (s : State) : (modTwin f s).out = s.out := rfl
@[simp] theorem modTwin_free (f : TwinState → TwinState) (s : State) : (modTwin f s).free = s.free := rfl
@[simp] theorem modTwin_host (f : TwinState → TwinState) (s : State) : (modTwin f s).host = s.host := rfl
@[simp] theorem modTwin_mode (f : TwinState → TwinState) (s : State) : (modTwin f s).mode = s.mode := rfl
@[simp] theorem modTwin_cfg (f : TwinState → TwinState) (s : State) : (modTwin f s).cfg = s.cfg := rfl
@[simp] theorem modTwin_jobs (f : TwinState → TwinState) (s : State) : (modTwin f s).jobs = s.jobs := rfl
@[simp] theorem modTwin_fw (f : TwinState → TwinState) (s : State) : (modTwin f s).fw = s.fw := rfl
@[simp] theorem modTwin_fuses (f : TwinState → TwinState) (s : State) : (modTwin f s).fuses = s.fuses := rfl
@[simp] theorem modTwin_compat (f : TwinState → TwinState) (s : State) : (modTwin f s).compat = s.compat := rfl
@[simp] theorem modTwin_power (f : TwinState → TwinState) (s : State) : (modTwin f s).power = s.power := rfl
@[simp] theorem modTwin_time (f : TwinState → TwinState) (s : State) : (modTwin f s).time = s.time := rfl
@[simp] theorem modTwin_chord (f : TwinState → TwinState) (s : State) : (modTwin f s).chord = { s.chord with twin := f s.chord.twin } := rfl
@[simp] theorem modTwin_store (f : TwinState → TwinState) (s : State) : (modTwin f s).store = s.store := rfl
@[simp] theorem modTwin_integ (f : TwinState → TwinState) (s : State) : (modTwin f s).integ = s.integ := rfl
@[simp] theorem modTwin_sw (f : TwinState → TwinState) (s : State) : (modTwin f s).sw = s.sw := rfl
@[simp] theorem modTwin_keys (f : TwinState → TwinState) (s : State) : (modTwin f s).keys = s.keys := rfl
@[simp] theorem modTwin_mesh (f : TwinState → TwinState) (s : State) : (modTwin f s).mesh = s.mesh := rfl
@[simp] theorem modTwin_radio (f : TwinState → TwinState) (s : State) : (modTwin f s).radio = s.radio := rfl
@[simp] theorem modTwin_ctr (f : TwinState → TwinState) (s : State) : (modTwin f s).ctr = s.ctr := rfl

/-! ### modStore -/

@[simp] theorem modStore_pending (f : StoreState → StoreState) (s : State) : (modStore f s).pending = s.pending := rfl
@[simp] theorem modStore_now (f : StoreState → StoreState) (s : State) : (modStore f s).now = s.now := rfl
@[simp] theorem modStore_out (f : StoreState → StoreState) (s : State) : (modStore f s).out = s.out := rfl
@[simp] theorem modStore_free (f : StoreState → StoreState) (s : State) : (modStore f s).free = s.free := rfl
@[simp] theorem modStore_host (f : StoreState → StoreState) (s : State) : (modStore f s).host = s.host := rfl
@[simp] theorem modStore_mode (f : StoreState → StoreState) (s : State) : (modStore f s).mode = s.mode := rfl
@[simp] theorem modStore_cfg (f : StoreState → StoreState) (s : State) : (modStore f s).cfg = s.cfg := rfl
@[simp] theorem modStore_jobs (f : StoreState → StoreState) (s : State) : (modStore f s).jobs = s.jobs := rfl
@[simp] theorem modStore_fw (f : StoreState → StoreState) (s : State) : (modStore f s).fw = s.fw := rfl
@[simp] theorem modStore_fuses (f : StoreState → StoreState) (s : State) : (modStore f s).fuses = s.fuses := rfl
@[simp] theorem modStore_compat (f : StoreState → StoreState) (s : State) : (modStore f s).compat = s.compat := rfl
@[simp] theorem modStore_power (f : StoreState → StoreState) (s : State) : (modStore f s).power = s.power := rfl
@[simp] theorem modStore_time (f : StoreState → StoreState) (s : State) : (modStore f s).time = s.time := rfl
@[simp] theorem modStore_chord (f : StoreState → StoreState) (s : State) : (modStore f s).chord = s.chord := rfl
@[simp] theorem modStore_store (f : StoreState → StoreState) (s : State) : (modStore f s).store = f s.store := rfl
@[simp] theorem modStore_integ (f : StoreState → StoreState) (s : State) : (modStore f s).integ = s.integ := rfl
@[simp] theorem modStore_sw (f : StoreState → StoreState) (s : State) : (modStore f s).sw = s.sw := rfl
@[simp] theorem modStore_keys (f : StoreState → StoreState) (s : State) : (modStore f s).keys = s.keys := rfl
@[simp] theorem modStore_mesh (f : StoreState → StoreState) (s : State) : (modStore f s).mesh = s.mesh := rfl
@[simp] theorem modStore_radio (f : StoreState → StoreState) (s : State) : (modStore f s).radio = s.radio := rfl
@[simp] theorem modStore_ctr (f : StoreState → StoreState) (s : State) : (modStore f s).ctr = s.ctr := rfl

/-! ### modInteg -/

@[simp] theorem modInteg_pending (f : IntegState → IntegState) (s : State) : (modInteg f s).pending = s.pending := rfl
@[simp] theorem modInteg_now (f : IntegState → IntegState) (s : State) : (modInteg f s).now = s.now := rfl
@[simp] theorem modInteg_out (f : IntegState → IntegState) (s : State) : (modInteg f s).out = s.out := rfl
@[simp] theorem modInteg_free (f : IntegState → IntegState) (s : State) : (modInteg f s).free = s.free := rfl
@[simp] theorem modInteg_host (f : IntegState → IntegState) (s : State) : (modInteg f s).host = s.host := rfl
@[simp] theorem modInteg_mode (f : IntegState → IntegState) (s : State) : (modInteg f s).mode = s.mode := rfl
@[simp] theorem modInteg_cfg (f : IntegState → IntegState) (s : State) : (modInteg f s).cfg = s.cfg := rfl
@[simp] theorem modInteg_jobs (f : IntegState → IntegState) (s : State) : (modInteg f s).jobs = s.jobs := rfl
@[simp] theorem modInteg_fw (f : IntegState → IntegState) (s : State) : (modInteg f s).fw = s.fw := rfl
@[simp] theorem modInteg_fuses (f : IntegState → IntegState) (s : State) : (modInteg f s).fuses = s.fuses := rfl
@[simp] theorem modInteg_compat (f : IntegState → IntegState) (s : State) : (modInteg f s).compat = s.compat := rfl
@[simp] theorem modInteg_power (f : IntegState → IntegState) (s : State) : (modInteg f s).power = s.power := rfl
@[simp] theorem modInteg_time (f : IntegState → IntegState) (s : State) : (modInteg f s).time = s.time := rfl
@[simp] theorem modInteg_chord (f : IntegState → IntegState) (s : State) : (modInteg f s).chord = s.chord := rfl
@[simp] theorem modInteg_store (f : IntegState → IntegState) (s : State) : (modInteg f s).store = s.store := rfl
@[simp] theorem modInteg_integ (f : IntegState → IntegState) (s : State) : (modInteg f s).integ = f s.integ := rfl
@[simp] theorem modInteg_sw (f : IntegState → IntegState) (s : State) : (modInteg f s).sw = s.sw := rfl
@[simp] theorem modInteg_keys (f : IntegState → IntegState) (s : State) : (modInteg f s).keys = s.keys := rfl
@[simp] theorem modInteg_mesh (f : IntegState → IntegState) (s : State) : (modInteg f s).mesh = s.mesh := rfl
@[simp] theorem modInteg_radio (f : IntegState → IntegState) (s : State) : (modInteg f s).radio = s.radio := rfl
@[simp] theorem modInteg_ctr (f : IntegState → IntegState) (s : State) : (modInteg f s).ctr = s.ctr := rfl

/-! ### modSw -/

@[simp] theorem modSw_pending (f : SwState → SwState) (s : State) : (modSw f s).pending = s.pending := rfl
@[simp] theorem modSw_now (f : SwState → SwState) (s : State) : (modSw f s).now = s.now := rfl
@[simp] theorem modSw_out (f : SwState → SwState) (s : State) : (modSw f s).out = s.out := rfl
@[simp] theorem modSw_free (f : SwState → SwState) (s : State) : (modSw f s).free = s.free := rfl
@[simp] theorem modSw_host (f : SwState → SwState) (s : State) : (modSw f s).host = s.host := rfl
@[simp] theorem modSw_mode (f : SwState → SwState) (s : State) : (modSw f s).mode = s.mode := rfl
@[simp] theorem modSw_cfg (f : SwState → SwState) (s : State) : (modSw f s).cfg = s.cfg := rfl
@[simp] theorem modSw_jobs (f : SwState → SwState) (s : State) : (modSw f s).jobs = s.jobs := rfl
@[simp] theorem modSw_fw (f : SwState → SwState) (s : State) : (modSw f s).fw = s.fw := rfl
@[simp] theorem modSw_fuses (f : SwState → SwState) (s : State) : (modSw f s).fuses = s.fuses := rfl
@[simp] theorem modSw_compat (f : SwState → SwState) (s : State) : (modSw f s).compat = s.compat := rfl
@[simp] theorem modSw_power (f : SwState → SwState) (s : State) : (modSw f s).power = s.power := rfl
@[simp] theorem modSw_time (f : SwState → SwState) (s : State) : (modSw f s).time = s.time := rfl
@[simp] theorem modSw_chord (f : SwState → SwState) (s : State) : (modSw f s).chord = s.chord := rfl
@[simp] theorem modSw_store (f : SwState → SwState) (s : State) : (modSw f s).store = s.store := rfl
@[simp] theorem modSw_integ (f : SwState → SwState) (s : State) : (modSw f s).integ = s.integ := rfl
@[simp] theorem modSw_sw (f : SwState → SwState) (s : State) : (modSw f s).sw = f s.sw := rfl
@[simp] theorem modSw_keys (f : SwState → SwState) (s : State) : (modSw f s).keys = s.keys := rfl
@[simp] theorem modSw_mesh (f : SwState → SwState) (s : State) : (modSw f s).mesh = s.mesh := rfl
@[simp] theorem modSw_radio (f : SwState → SwState) (s : State) : (modSw f s).radio = s.radio := rfl
@[simp] theorem modSw_ctr (f : SwState → SwState) (s : State) : (modSw f s).ctr = s.ctr := rfl

/-! ### setSwPort -/

@[simp] theorem setSwPort_pending (p : Nat) (x : SwPort) (s : State) : (setSwPort p x s).pending = s.pending := rfl
@[simp] theorem setSwPort_now (p : Nat) (x : SwPort) (s : State) : (setSwPort p x s).now = s.now := rfl
@[simp] theorem setSwPort_out (p : Nat) (x : SwPort) (s : State) : (setSwPort p x s).out = s.out := rfl
@[simp] theorem setSwPort_free (p : Nat) (x : SwPort) (s : State) : (setSwPort p x s).free = s.free := rfl
@[simp] theorem setSwPort_host (p : Nat) (x : SwPort) (s : State) : (setSwPort p x s).host = s.host := rfl
@[simp] theorem setSwPort_mode (p : Nat) (x : SwPort) (s : State) : (setSwPort p x s).mode = s.mode := rfl
@[simp] theorem setSwPort_cfg (p : Nat) (x : SwPort) (s : State) : (setSwPort p x s).cfg = s.cfg := rfl
@[simp] theorem setSwPort_jobs (p : Nat) (x : SwPort) (s : State) : (setSwPort p x s).jobs = s.jobs := rfl
@[simp] theorem setSwPort_fw (p : Nat) (x : SwPort) (s : State) : (setSwPort p x s).fw = s.fw := rfl
@[simp] theorem setSwPort_fuses (p : Nat) (x : SwPort) (s : State) : (setSwPort p x s).fuses = s.fuses := rfl
@[simp] theorem setSwPort_compat (p : Nat) (x : SwPort) (s : State) : (setSwPort p x s).compat = s.compat := rfl
@[simp] theorem setSwPort_power (p : Nat) (x : SwPort) (s : State) : (setSwPort p x s).power = s.power := rfl
@[simp] theorem setSwPort_time (p : Nat) (x : SwPort) (s : State) : (setSwPort p x s).time = s.time := rfl
@[simp] theorem setSwPort_chord (p : Nat) (x : SwPort) (s : State) : (setSwPort p x s).chord = s.chord := rfl
@[simp] theorem setSwPort_store (p : Nat) (x : SwPort) (s : State) : (setSwPort p x s).store = s.store := rfl
@[simp] theorem setSwPort_integ (p : Nat) (x : SwPort) (s : State) : (setSwPort p x s).integ = s.integ := rfl
@[simp] theorem setSwPort_sw (p : Nat) (x : SwPort) (s : State) : (setSwPort p x s).sw = { s.sw with ports := Sparse.set (fun _ => SwPort.reset) s.sw.ports p x } := rfl
@[simp] theorem setSwPort_keys (p : Nat) (x : SwPort) (s : State) : (setSwPort p x s).keys = s.keys := rfl
@[simp] theorem setSwPort_mesh (p : Nat) (x : SwPort) (s : State) : (setSwPort p x s).mesh = s.mesh := rfl
@[simp] theorem setSwPort_radio (p : Nat) (x : SwPort) (s : State) : (setSwPort p x s).radio = s.radio := rfl
@[simp] theorem setSwPort_ctr (p : Nat) (x : SwPort) (s : State) : (setSwPort p x s).ctr = s.ctr := rfl

/-! ### modKeys -/

@[simp] theorem modKeys_pending (f : KeyState → KeyState) (s : State) : (modKeys f s).pending = s.pending := rfl
@[simp] theorem modKeys_now (f : KeyState → KeyState) (s : State) : (modKeys f s).now = s.now := rfl
@[simp] theorem modKeys_out (f : KeyState → KeyState) (s : State) : (modKeys f s).out = s.out := rfl
@[simp] theorem modKeys_free (f : KeyState → KeyState) (s : State) : (modKeys f s).free = s.free := rfl
@[simp] theorem modKeys_host (f : KeyState → KeyState) (s : State) : (modKeys f s).host = s.host := rfl
@[simp] theorem modKeys_mode (f : KeyState → KeyState) (s : State) : (modKeys f s).mode = s.mode := rfl
@[simp] theorem modKeys_cfg (f : KeyState → KeyState) (s : State) : (modKeys f s).cfg = s.cfg := rfl
@[simp] theorem modKeys_jobs (f : KeyState → KeyState) (s : State) : (modKeys f s).jobs = s.jobs := rfl
@[simp] theorem modKeys_fw (f : KeyState → KeyState) (s : State) : (modKeys f s).fw = s.fw := rfl
@[simp] theorem modKeys_fuses (f : KeyState → KeyState) (s : State) : (modKeys f s).fuses = s.fuses := rfl
@[simp] theorem modKeys_compat (f : KeyState → KeyState) (s : State) : (modKeys f s).compat = s.compat := rfl
@[simp] theorem modKeys_power (f : KeyState → KeyState) (s : State) : (modKeys f s).power = s.power := rfl
@[simp] theorem modKeys_time (f : KeyState → KeyState) (s : State) : (modKeys f s).time = s.time := rfl
@[simp] theorem modKeys_chord (f : KeyState → KeyState) (s : State) : (modKeys f s).chord = s.chord := rfl
@[simp] theorem modKeys_store (f : KeyState → KeyState) (s : State) : (modKeys f s).store = s.store := rfl
@[simp] theorem modKeys_integ (f : KeyState → KeyState) (s : State) : (modKeys f s).integ = s.integ := rfl
@[simp] theorem modKeys_sw (f : KeyState → KeyState) (s : State) : (modKeys f s).sw = s.sw := rfl
@[simp] theorem modKeys_keys (f : KeyState → KeyState) (s : State) : (modKeys f s).keys = f s.keys := rfl
@[simp] theorem modKeys_mesh (f : KeyState → KeyState) (s : State) : (modKeys f s).mesh = s.mesh := rfl
@[simp] theorem modKeys_radio (f : KeyState → KeyState) (s : State) : (modKeys f s).radio = s.radio := rfl
@[simp] theorem modKeys_ctr (f : KeyState → KeyState) (s : State) : (modKeys f s).ctr = s.ctr := rfl

/-! ### modMesh -/

@[simp] theorem modMesh_pending (f : MeshState → MeshState) (s : State) : (modMesh f s).pending = s.pending := rfl
@[simp] theorem modMesh_now (f : MeshState → MeshState) (s : State) : (modMesh f s).now = s.now := rfl
@[simp] theorem modMesh_out (f : MeshState → MeshState) (s : State) : (modMesh f s).out = s.out := rfl
@[simp] theorem modMesh_free (f : MeshState → MeshState) (s : State) : (modMesh f s).free = s.free := rfl
@[simp] theorem modMesh_host (f : MeshState → MeshState) (s : State) : (modMesh f s).host = s.host := rfl
@[simp] theorem modMesh_mode (f : MeshState → MeshState) (s : State) : (modMesh f s).mode = s.mode := rfl
@[simp] theorem modMesh_cfg (f : MeshState → MeshState) (s : State) : (modMesh f s).cfg = s.cfg := rfl
@[simp] theorem modMesh_jobs (f : MeshState → MeshState) (s : State) : (modMesh f s).jobs = s.jobs := rfl
@[simp] theorem modMesh_fw (f : MeshState → MeshState) (s : State) : (modMesh f s).fw = s.fw := rfl
@[simp] theorem modMesh_fuses (f : MeshState → MeshState) (s : State) : (modMesh f s).fuses = s.fuses := rfl
@[simp] theorem modMesh_compat (f : MeshState → MeshState) (s : State) : (modMesh f s).compat = s.compat := rfl
@[simp] theorem modMesh_power (f : MeshState → MeshState) (s : State) : (modMesh f s).power = s.power := rfl
@[simp] theorem modMesh_time (f : MeshState → MeshState) (s : State) : (modMesh f s).time = s.time := rfl
@[simp] theorem modMesh_chord (f : MeshState → MeshState) (s : State) : (modMesh f s).chord = s.chord := rfl
@[simp] theorem modMesh_store (f : MeshState → MeshState) (s : State) : (modMesh f s).store = s.store := rfl
@[simp] theorem modMesh_integ (f : MeshState → MeshState) (s : State) : (modMesh f s).integ = s.integ := rfl
@[simp] theorem modMesh_sw (f : MeshState → MeshState) (s : State) : (modMesh f s).sw = s.sw := rfl
@[simp] theorem modMesh_keys (f : MeshState → MeshState) (s : State) : (modMesh f s).keys = s.keys := rfl
@[simp] theorem modMesh_mesh (f : MeshState → MeshState) (s : State) : (modMesh f s).mesh = f s.mesh := rfl
@[simp] theorem modMesh_radio (f : MeshState → MeshState) (s : State) : (modMesh f s).radio = s.radio := rfl
@[simp] theorem modMesh_ctr (f : MeshState → MeshState) (s : State) : (modMesh f s).ctr = s.ctr := rfl

/-! ### modRadio -/

@[simp] theorem modRadio_pending (f : RadioState → RadioState) (s : State) : (modRadio f s).pending = s.pending := rfl
@[simp] theorem modRadio_now (f : RadioState → RadioState) (s : State) : (modRadio f s).now = s.now := rfl
@[simp] theorem modRadio_out (f : RadioState → RadioState) (s : State) : (modRadio f s).out = s.out := rfl
@[simp] theorem modRadio_free (f : RadioState → RadioState) (s : State) : (modRadio f s).free = s.free := rfl
@[simp] theorem modRadio_host (f : RadioState → RadioState) (s : State) : (modRadio f s).host = s.host := rfl
@[simp] theorem modRadio_mode (f : RadioState → RadioState) (s : State) : (modRadio f s).mode = s.mode := rfl
@[simp] theorem modRadio_cfg (f : RadioState → RadioState) (s : State) : (modRadio f s).cfg = s.cfg := rfl
@[simp] theorem modRadio_jobs (f : RadioState → RadioState) (s : State) : (modRadio f s).jobs = s.jobs := rfl
@[simp] theorem modRadio_fw (f : RadioState → RadioState) (s : State) : (modRadio f s).fw = s.fw := rfl
@[simp] theorem modRadio_fuses (f : RadioState → RadioState) (s : State) : (modRadio f s).fuses = s.fuses := rfl
@[simp] theorem modRadio_compat (f : RadioState → RadioState) (s : State) : (modRadio f s).compat = s.compat := rfl
@[simp] theorem modRadio_power (f : RadioState → RadioState) (s : State) : (modRadio f s).power = s.power := rfl
@[simp] theorem modRadio_time (f : RadioState → RadioState) (s : State) : (modRadio f s).time = s.time := rfl
@[simp] theorem modRadio_chord (f : RadioState → RadioState) (s : State) : (modRadio f s).chord = s.chord := rfl
@[simp] theorem modRadio_store (f : RadioState → RadioState) (s : State) : (modRadio f s).store = s.store := rfl
@[simp] theorem modRadio_integ (f : RadioState → RadioState) (s : State) : (modRadio f s).integ = s.integ := rfl
@[simp] theorem modRadio_sw (f : RadioState → RadioState) (s : State) : (modRadio f s).sw = s.sw := rfl
@[simp] theorem modRadio_keys (f : RadioState → RadioState) (s : State) : (modRadio f s).keys = s.keys := rfl
@[simp] theorem modRadio_mesh (f : RadioState → RadioState) (s : State) : (modRadio f s).mesh = s.mesh := rfl
@[simp] theorem modRadio_radio (f : RadioState → RadioState) (s : State) : (modRadio f s).radio = f s.radio := rfl
@[simp] theorem modRadio_ctr (f : RadioState → RadioState) (s : State) : (modRadio f s).ctr = s.ctr := rfl

/-! ### setPort -/

@[simp] theorem setPort_pending (p : HostPort) (x : PortState) (s : State) : (setPort p x s).pending = s.pending := by cases p <;> rfl
@[simp] theorem setPort_now (p : HostPort) (x : PortState) (s : State) : (setPort p x s).now = s.now := by cases p <;> rfl
@[simp] theorem setPort_out (p : HostPort) (x : PortState) (s : State) : (setPort p x s).out = s.out := by cases p <;> rfl
@[simp] theorem setPort_free (p : HostPort) (x : PortState) (s : State) : (setPort p x s).free = s.free := by cases p <;> rfl
@[simp] theorem setPort_mode (p : HostPort) (x : PortState) (s : State) : (setPort p x s).mode = s.mode := by cases p <;> rfl
@[simp] theorem setPort_cfg (p : HostPort) (x : PortState) (s : State) : (setPort p x s).cfg = s.cfg := by cases p <;> rfl
@[simp] theorem setPort_jobs (p : HostPort) (x : PortState) (s : State) : (setPort p x s).jobs = s.jobs := by cases p <;> rfl
@[simp] theorem setPort_fw (p : HostPort) (x : PortState) (s : State) : (setPort p x s).fw = s.fw := by cases p <;> rfl
@[simp] theorem setPort_fuses (p : HostPort) (x : PortState) (s : State) : (setPort p x s).fuses = s.fuses := by cases p <;> rfl
@[simp] theorem setPort_compat (p : HostPort) (x : PortState) (s : State) : (setPort p x s).compat = s.compat := by cases p <;> rfl
@[simp] theorem setPort_power (p : HostPort) (x : PortState) (s : State) : (setPort p x s).power = s.power := by cases p <;> rfl
@[simp] theorem setPort_time (p : HostPort) (x : PortState) (s : State) : (setPort p x s).time = s.time := by cases p <;> rfl
@[simp] theorem setPort_chord (p : HostPort) (x : PortState) (s : State) : (setPort p x s).chord = s.chord := by cases p <;> rfl
@[simp] theorem setPort_store (p : HostPort) (x : PortState) (s : State) : (setPort p x s).store = s.store := by cases p <;> rfl
@[simp] theorem setPort_integ (p : HostPort) (x : PortState) (s : State) : (setPort p x s).integ = s.integ := by cases p <;> rfl
@[simp] theorem setPort_sw (p : HostPort) (x : PortState) (s : State) : (setPort p x s).sw = s.sw := by cases p <;> rfl
@[simp] theorem setPort_keys (p : HostPort) (x : PortState) (s : State) : (setPort p x s).keys = s.keys := by cases p <;> rfl
@[simp] theorem setPort_mesh (p : HostPort) (x : PortState) (s : State) : (setPort p x s).mesh = s.mesh := by cases p <;> rfl
@[simp] theorem setPort_radio (p : HostPort) (x : PortState) (s : State) : (setPort p x s).radio = s.radio := by cases p <;> rfl
@[simp] theorem setPort_ctr (p : HostPort) (x : PortState) (s : State) : (setPort p x s).ctr = s.ctr := by cases p <;> rfl

/-! ### begin and framed -/

/-- No tick passes at the start of a mailbox command. -/
theorem begin_zero (s : State) : begin 0 s = { s with out := [] } := rfl

/-- What passing time changes: the instant, the outputs, and C and Arc while CLK_TIME runs. -/
theorem begin_eq (dt : Nat) (s : State) :
    begin dt s = { s with now := s.now + dt, out := [],
                          time := if dt ≠ 0 && alive s && !s.time.mer.gated then clockAdvance dt s.time else s.time } := by
  unfold begin advance
  by_cases h : dt = 0
  · subst h; simp
  · simp only [h, if_false, ne_eq, not_false_eq_true, decide_true, Bool.true_and]
    by_cases hc : (alive s && !s.time.mer.gated) = true
    · rw [if_pos hc, if_pos (show (alive { s with now := s.now + dt } && !s.time.mer.gated) = true from hc)]
    · rw [if_neg hc, if_neg (show ¬(alive { s with now := s.now + dt } && !s.time.mer.gated) = true from hc)]

@[simp] theorem begin_pending (dt : Nat) (s : State) : (begin dt s).pending = s.pending := by rw [begin_eq]
@[simp] theorem begin_now (dt : Nat) (s : State) : (begin dt s).now = s.now + dt := by rw [begin_eq]
@[simp] theorem begin_out (dt : Nat) (s : State) : (begin dt s).out = [] := by rw [begin_eq]
@[simp] theorem begin_free (dt : Nat) (s : State) : (begin dt s).free = s.free := by rw [begin_eq]
@[simp] theorem begin_host (dt : Nat) (s : State) : (begin dt s).host = s.host := by rw [begin_eq]
@[simp] theorem begin_mode (dt : Nat) (s : State) : (begin dt s).mode = s.mode := by rw [begin_eq]
@[simp] theorem begin_cfg (dt : Nat) (s : State) : (begin dt s).cfg = s.cfg := by rw [begin_eq]
@[simp] theorem begin_jobs (dt : Nat) (s : State) : (begin dt s).jobs = s.jobs := by rw [begin_eq]
@[simp] theorem begin_fw (dt : Nat) (s : State) : (begin dt s).fw = s.fw := by rw [begin_eq]
@[simp] theorem begin_fuses (dt : Nat) (s : State) : (begin dt s).fuses = s.fuses := by rw [begin_eq]
@[simp] theorem begin_compat (dt : Nat) (s : State) : (begin dt s).compat = s.compat := by rw [begin_eq]
@[simp] theorem begin_power (dt : Nat) (s : State) : (begin dt s).power = s.power := by rw [begin_eq]
@[simp] theorem begin_chord (dt : Nat) (s : State) : (begin dt s).chord = s.chord := by rw [begin_eq]
@[simp] theorem begin_store (dt : Nat) (s : State) : (begin dt s).store = s.store := by rw [begin_eq]
@[simp] theorem begin_integ (dt : Nat) (s : State) : (begin dt s).integ = s.integ := by rw [begin_eq]
@[simp] theorem begin_sw (dt : Nat) (s : State) : (begin dt s).sw = s.sw := by rw [begin_eq]
@[simp] theorem begin_keys (dt : Nat) (s : State) : (begin dt s).keys = s.keys := by rw [begin_eq]
@[simp] theorem begin_mesh (dt : Nat) (s : State) : (begin dt s).mesh = s.mesh := by rw [begin_eq]
@[simp] theorem begin_radio (dt : Nat) (s : State) : (begin dt s).radio = s.radio := by rw [begin_eq]
@[simp] theorem begin_ctr (dt : Nat) (s : State) : (begin dt s).ctr = s.ctr := by rw [begin_eq]

@[simp] theorem framed_pending (life : Bool) (s t : State) : (framed life s t).pending = s.pending := rfl
@[simp] theorem framed_now (life : Bool) (s t : State) : (framed life s t).now = s.now := rfl
@[simp] theorem framed_out (life : Bool) (s t : State) : (framed life s t).out = t.out := rfl
@[simp] theorem framed_free (life : Bool) (s t : State) : (framed life s t).free = t.free := rfl
@[simp] theorem framed_host (life : Bool) (s t : State) : (framed life s t).host = t.host := rfl
@[simp] theorem framed_mode (life : Bool) (s t : State) : (framed life s t).mode = { t.mode with lifecycle := if life then t.mode.lifecycle else s.mode.lifecycle } := rfl
@[simp] theorem framed_cfg (life : Bool) (s t : State) : (framed life s t).cfg = t.cfg := rfl
@[simp] theorem framed_jobs (life : Bool) (s t : State) : (framed life s t).jobs = t.jobs := rfl
@[simp] theorem framed_fw (life : Bool) (s t : State) : (framed life s t).fw = t.fw := rfl
@[simp] theorem framed_fuses (life : Bool) (s t : State) : (framed life s t).fuses = s.fuses := rfl
@[simp] theorem framed_compat (life : Bool) (s t : State) : (framed life s t).compat = t.compat := rfl
@[simp] theorem framed_power (life : Bool) (s t : State) : (framed life s t).power = t.power := rfl
@[simp] theorem framed_time (life : Bool) (s t : State) : (framed life s t).time = t.time := rfl
@[simp] theorem framed_chord (life : Bool) (s t : State) : (framed life s t).chord = t.chord := rfl
@[simp] theorem framed_store (life : Bool) (s t : State) : (framed life s t).store = t.store := rfl
@[simp] theorem framed_integ (life : Bool) (s t : State) : (framed life s t).integ = t.integ := rfl
@[simp] theorem framed_sw (life : Bool) (s t : State) : (framed life s t).sw = t.sw := rfl
@[simp] theorem framed_keys (life : Bool) (s t : State) : (framed life s t).keys = t.keys := rfl
@[simp] theorem framed_mesh (life : Bool) (s t : State) : (framed life s t).mesh = t.mesh := rfl
@[simp] theorem framed_radio (life : Bool) (s t : State) : (framed life s t).radio = t.radio := rfl
@[simp] theorem framed_ctr (life : Bool) (s t : State) : (framed life s t).ctr = t.ctr := rfl

/-! ### What is read after what is written -/

/-- A queue after a queue is written. -/
@[simp] theorem queueOf_setQueue (q q' : Nat) (x : Queue) (s : State) :
    queueOf (setQueue q x s) q' = if q' = q then x else queueOf s q' := Sparse.get_set _ _ _ _ _

/-- A queue after a queue is changed. -/
@[simp] theorem queueOf_modQueue (q q' : Nat) (f : Queue → Queue) (s : State) :
    queueOf (modQueue q f s) q' = if q' = q then f (queueOf s q) else queueOf s q' := Sparse.get_set _ _ _ _ _

/-- A ring after a ring is written. -/
@[simp] theorem ringOf_setRing (n n' : Nat) (x : EventRing) (s : State) :
    ringOf (setRing n x s) n' = if n' = n then x else ringOf s n' := Sparse.get_set _ _ _ _ _

/-- A byte of the event ring memory outside the bytes written. -/
theorem eventByte_write_other (a b : Nat) (l : List Byte) (s : State) (h : b < a ∨ a + l.length ≤ b) :
    eventByte (writeEventMem a l s) b = eventByte s b := Sparse.get_setRun_below _ _ _ _ _ h

/-- A byte of the event ring memory among the bytes written. -/
theorem eventByte_write_in (a i : Nat) (l : List Byte) (s : State) (h : i < l.length) :
    eventByte (writeEventMem a l s) (a + i) = l[i] := Sparse.get_setRun_in _ _ _ _ _ h

/-- A write keeps the event ring memory in its canonical form. -/
theorem Memory.wf_write (a : Nat) (l : List Byte) (s : State) (h : Memory.wf s.host.eventMem = true) :
    Memory.wf (writeEventMem a l s).host.eventMem = true := Sparse.wf_setRun _ _ _ _ h

/-- After reset the event ring memory is in its canonical form. -/
theorem Memory.wf_reset : Memory.wf State.reset.host.eventMem = true := rfl

/-- A counter after a counter is set. -/
theorem ctrGet_ctrSet (t t' : CtrTable) (i i' n n' v : Nat) (s : State) :
    ctrGet (ctrSet t i n v s) t' i' n' = if ctrKey t' i' n' = ctrKey t i n then v else ctrGet s t' i' n' :=
  Sparse.get_set _ _ _ _ _

/-- A port register after a port is written. -/
@[simp] theorem portOf_setPort (p p' : HostPort) (x : PortState) (s : State) :
    portOf (setPort p x s) p' = if p' = p then x else portOf s p' := by cases p <;> cases p' <;> rfl

/-- A channel after a channel is written. -/
@[simp] theorem arcOf_setArc (n n' : Nat) (x : ArcCh) (s : State) :
    arcOf (setArc n x s) n' = if n' = n then x else arcOf s n' := Sparse.get_set _ _ _ _ _

/-- A link after a link is written. -/
@[simp] theorem linkOf_setLink (n n' : Nat) (x : ChordLink) (s : State) :
    linkOf (setLink n x s) n' = if n' = n then x else linkOf s n' := Sparse.get_set _ _ _ _ _

/-- A switch port after a port is written. -/
@[simp] theorem swPort_setSwPort (p p' : Nat) (x : SwPort) (s : State) :
    swPort (setSwPort p x s) p' = if p' = p then x else swPort s p' := Sparse.get_set _ _ _ _ _

/-- A live value after a live value is set. -/
theorem cfgGet_cfgSetLive (g r i g' r' i' : Nat) (v : Int) (s : State) :
    cfgGet (cfgSetLive g r i v s) g' r' i' = if cfgKey g' r' i' = cfgKey g r i then v else cfgGet s g' r' i' :=
  Sparse.get_set _ _ _ _ _

end Sys2Proof.Machine
end

