-- ==== Sys2Proof/Laws/Answer.lean ====
section
/-!
SUPPORT. What completing a mailbox command changes, said once: the completion leaves everything but its queue, the
host ports and the outputs, and the reply is the newest of the cache.
-/
namespace Sys2Proof.Machine

theorem AnswersOnly.refl (q : Nat) (s : State) : AnswersOnly q s s := ⟨rfl, fun _ _ => rfl⟩

theorem AnswersOnly.trans {q : Nat} {s t u : State} (h : AnswersOnly q s t) (k : AnswersOnly q t u) : AnswersOnly q s u := by
  refine ⟨?_, fun q' hq => (k.2 q' hq).trans (h.2 q' hq)⟩
  have h1 := h.1
  have k1 := k.1
  rw [k1, h1]

theorem AnswersOnly.emit (q : Nat) (o : Output) (s : State) : AnswersOnly q s (emit o s) := ⟨rfl, fun _ _ => rfl⟩

theorem AnswersOnly.setQueue (q : Nat) (x : Queue) (s : State) : AnswersOnly q s (setQueue q x s) :=
  ⟨rfl, fun q' h => by simp [h]⟩

theorem AnswersOnly.modQueue (q : Nat) (f : Queue → Queue) (s : State) : AnswersOnly q s (modQueue q f s) :=
  ⟨rfl, fun q' h => by simp [h]⟩

theorem AnswersOnly.takeTurn (q : Nat) (s : State) : AnswersOnly q s (takeTurn q s) := ⟨rfl, fun _ _ => rfl⟩

theorem AnswersOnly.setPort (q : Nat) (p : HostPort) (x : PortState) (s : State) : AnswersOnly q s (setPort p x s) := by
  cases p <;> exact ⟨rfl, fun _ _ => rfl⟩

theorem AnswersOnly.sendMsix (q : Nat) (p : HostPort) (v : Nat) (s : State) : AnswersOnly q s (sendMsix p v s) := by
  unfold Machine.sendMsix
  dsimp only
  split
  · split
    · exact .emit ..
    · exact .setPort ..
  · exact .refl ..

theorem AnswersOnly.urIrq (q b : Nat) (s : State) : AnswersOnly q s (urIrq b s) := by
  unfold Machine.urIrq
  dsimp only
  split <;> exact ⟨rfl, fun _ _ => rfl⟩

theorem AnswersOnly.ite {q : Nat} {s t u : State} {p : Prop} [Decidable p] (h : AnswersOnly q s t) (k : AnswersOnly q s u) :
    AnswersOnly q s (if p then t else u) := by split <;> assumption

theorem AnswersOnly.writeCompletion (p : HostPort) (q : Nat) (c : Completion) (s : State) :
    AnswersOnly q s (writeCompletion p q c s) := by
  unfold Machine.writeCompletion
  extract_lets long put failed status detail s1 s2 x cut s3 s4
  have h1 : AnswersOnly q s s1 := .ite (.modQueue ..) (.refl ..)
  have h2 : AnswersOnly q s s2 := .ite h1 (h1.trans (.emit ..))
  have h4 : AnswersOnly q s s4 := (h2.trans (.emit ..)).trans (.setQueue ..)
  exact .ite (.ite (h4.trans (.urIrq ..)) (.ite (h4.trans (.sendMsix ..)) h4)) h4

theorem AnswersOnly.deliverCompletion (q : Nat) (c : Completion) (s : State) : AnswersOnly q s (deliverCompletion q c s) := by
  unfold Machine.deliverCompletion
  dsimp only
  split
  · exact .modQueue ..
  · split
    · exact .modQueue ..
    · split
      · exact .writeCompletion ..
      · exact .setPort ..

/-- Completing a command with a status other than INTERNAL changes only its queue, the host ports and the outputs. -/
theorem AnswersOnly.complete (c : Cmd) (st : Status) (d : Nat) (r : List Byte) (s : State) (hq : c.queue ≠ 16) (hs : st ≠ .internal) :
    AnswersOnly c.queue s (complete c st d r s) := by
  unfold Machine.complete noteInternal
  simp only [hq, hs, if_false]
  exact (AnswersOnly.modQueue ..).trans (.deliverCompletion ..)

theorem AnswersOnly.fetchEntry (q : Nat) (s : State) : AnswersOnly q s (fetchEntry q s) :=
  (AnswersOnly.takeTurn ..).trans (.modQueue ..)

/-! ### The reply cache -/

@[simp] theorem queueOf_emit (o : Output) (s : State) (q : Nat) : queueOf (emit o s) q = queueOf s q := rfl

@[simp] theorem queueOf_setPort (p : HostPort) (x : PortState) (s : State) (q : Nat) : queueOf (setPort p x s) q = queueOf s q := by
  cases p <;> rfl

@[simp] theorem queueOf_takeTurn (q q' : Nat) (s : State) : queueOf (takeTurn q s) q' = queueOf s q' := rfl

@[simp] theorem queueOf_framed (life : Bool) (s t : State) (q : Nat) : queueOf (framed life s t) q = queueOf t q := rfl

@[simp] theorem queueOf_begin_zero (s : State) (q : Nat) : queueOf (begin 0 s) q = queueOf s q := rfl

@[simp] theorem queueOf_sendMsix (p : HostPort) (v : Nat) (s : State) (q : Nat) : queueOf (sendMsix p v s) q = queueOf s q := by
  unfold Machine.sendMsix
  dsimp only
  split
  · split <;> simp
  · rfl

@[simp] theorem queueOf_urIrq (b : Nat) (s : State) (q : Nat) : queueOf (urIrq b s) q = queueOf s q := by
  unfold Machine.urIrq
  dsimp only
  split <;> rfl

theorem writeCompletion_cache (p : HostPort) (q : Nat) (c : Completion) (s : State) (h : c.writeOk = true) :
    (queueOf (writeCompletion p q c s) q).cache = (queueOf s q).cache := by
  unfold Machine.writeCompletion
  extract_lets long put failed status detail s1 s2 x cut s3 s4
  have hf : failed = false := by simp [failed, h]
  have h1 : s1 = s := by simp [s1, hf]
  have h2 : queueOf s2 q = queueOf s q := by simp only [s2, h1]; split <;> simp
  have h4 : (queueOf s4 q).cache = (queueOf s q).cache := by simp [s4, x, h2]
  split
  · split
    · simpa using h4
    · split
      · simpa using h4
      · exact h4
  · exact h4

theorem deliverCompletion_cache (q : Nat) (c : Completion) (s : State) (h : c.writeOk = true) :
    (queueOf (deliverCompletion q c s) q).cache = (queueOf s q).cache := by
  unfold Machine.deliverCompletion Machine.discardCompletion
  dsimp only
  split
  · simp
  · split
    · simp
    · split
      · exact writeCompletion_cache _ _ _ _ h
      · simp

theorem trimWhole_cons (r : CachedReply) (l : List CachedReply) : ∃ l', trimWhole 4 (r :: l) = r :: l' := by
  unfold trimWhole
  split
  · exact ⟨_, rfl⟩
  · exact ⟨_, rfl⟩

/-- The newest reply of a cache after a reply enters it. -/
theorem cacheInsert_head (opcode : Nat) (seq : W16) (st : Status) (d : Nat) (ep : W32) (r : List Byte) (l : List CachedReply) :
    (cacheInsert opcode seq st d ep r l).head? =
      some { seq, status := st, detail := d, replyLen := r.length, epoch := ep, body := if opcode == 0x0609 then r else r.take 512, whole := opcode == 0x0609 } := by
  unfold cacheInsert
  dsimp only
  rw [show (64 : Nat) = 63 + 1 from rfl, List.take_succ_cons]
  obtain ⟨l', h⟩ := trimWhole_cons _ _
  rw [h]; rfl

/-- Once a command is complete, the newest reply of its queue's cache is its own. -/
theorem complete_head (c : Cmd) (st : Status) (d : Nat) (r : List Byte) (s : State) (hq : c.queue ≠ 16) (hs : st ≠ .internal)
    (hw : c.writeOk = true) :
    (queueOf (complete c st d r s) c.queue).cache.head? =
      some { seq := c.seq, status := st, detail := d, replyLen := r.length, epoch := s.cfg.epoch,
             body := if c.opcode == 0x0609 then r else r.take 512, whole := c.opcode == 0x0609 } := by
  unfold Machine.complete noteInternal
  simp only [hq, hs, if_false]
  rw [deliverCompletion_cache _ _ _ hw]
  simp [cacheInsert_head]

/-! ### A mailbox command taken up -/

theorem AnswersOnly.started (e : Entry) (s : State) : AnswersOnly e.queue s (started e s) :=
  ((show AnswersOnly e.queue s (begin 0 s) from ⟨rfl, fun _ _ => rfl⟩).trans (.fetchEntry ..)).trans (.modQueue ..)

/-- What a meaning must leave alone for the frame of a command to be that of its meaning. -/
def Keeps (s u : State) : Prop :=
  u.pending = s.pending ∧ u.now = s.now ∧ u.fuses = s.fuses ∧ u.mode.lifecycle = s.mode.lifecycle

theorem AnswersOnly.keeps {q : Nat} {s t : State} (h : AnswersOnly q s t) : Keeps s t := by
  rw [Keeps, h.1]; exact ⟨rfl, rfl, rfl, rfl⟩

theorem Keeps.refl (s : State) : Keeps s s := ⟨rfl, rfl, rfl, rfl⟩

theorem Keeps.trans {s t u : State} (h : Keeps s t) (k : Keeps t u) : Keeps s u :=
  ⟨k.1.trans h.1, k.2.1.trans h.2.1, k.2.2.1.trans h.2.2.1, k.2.2.2.trans h.2.2.2⟩

theorem framed_keeps (life : Bool) {s t : State} (h : Keeps s t) : framed life s t = t := by
  obtain ⟨h1, h2, h3, h4⟩ := h
  unfold framed
  rw [← h1, ← h2, ← h3, ← h4]
  cases life <;> rfl

/-- A command taken up whose entry is new and accepted runs its meaning. -/
theorem mailbox_runs {op : Op} {h : Cmd → State → Answer} {e : Entry} {s : State} (ht : Taken e s)
    (ha : accepted op e.req (started e s) = true) (hl : op.len e.req = true) :
    mailbox op h e s = .next (framed (op.code == 0x0104) (begin 0 s) (finish (cmdOf op.code e) (h (cmdOf op.code e) (started e s)))) := by
  obtain ⟨_, h1, h2, h3, h4, _⟩ := ht
  have hs : served (begin 0 s) e.queue = true := h1
  have hc : seqClass (queueOf (begin 0 s) e.queue) e.seq = .fresh := by
    rw [queueOf_begin_zero]; simp [seqClass, h2]
  unfold mailbox takeEntry runNew
  simp only [hs, hc, if_true, h3, h4, hl, if_false, Bool.not_true, Bool.false_eq_true, started] at ha ⊢
  simp only [ha, Bool.not_true, Bool.false_eq_true, if_false]

theorem AnswersOnly.under_frame {q : Nat} {u v : State} (s : State) (h : AnswersOnly q u v) :
    AnswersOnly q (framed false s u) (framed false (begin 0 s) v) := by
  refine ⟨?_, fun q' hq => h.2 q' hq⟩
  have h1 := h.1
  unfold framed
  rw [h1]
  rfl

/-- Every mailbox command is its opcode's meaning under the protocol of the queues. -/
theorem exec_mailbox {c : Instr} {op : Op} {e : Entry} (hc : mailOp c = some (op, e)) :
    ∃ h, ∀ s, exec c s = mailbox op h e s := by
  cases c <;> simp only [mailOp, reduceCtorEq, Option.some.injEq, Prod.mk.injEq] at hc <;>
    (obtain ⟨rfl, rfl⟩ := hc; exact ⟨_, fun _ => rfl⟩)

/-- An accepted command runs its meaning `h` in the state `started`. -/
theorem runs_meaning {c : Instr} {op : Op} {e : Entry} {h : Cmd → State → Answer} {s : State}
    (hx : exec c s = mailbox op h e s) (hc : mailOp c = some (op, e)) (ha : CmdRuns c s)
    (hm : op.modes (started e s) e.req = op.modes s e.req) :
    exec c s = .next (framed (op.code == 0x0104) (begin 0 s) (finish (cmdOf op.code e) (h (cmdOf op.code e) (started e s)))) := by
  simp only [CmdRuns, hc] at ha
  rw [hx]
  refine mailbox_runs ha.1 ?_ ha.2.2
  rw [← ha.2.1]
  unfold accepted
  rw [hm]; rfl

/-- An accepted command that its meaning carries out at once. -/
theorem completes {c : Instr} {op : Op} {e : Entry} {h : Cmd → State → Answer} {s u : State} {st : Status} {d : Nat} {r : List Byte}
    (hx : exec c s = mailbox op h e s) (hc : mailOp c = some (op, e)) (ha : CmdRuns c s)
    (hm : op.modes (started e s) e.req = op.modes s e.req)
    (hh : h (cmdOf op.code e) (started e s) = .done st d r u) (hs : st ≠ .internal) (h9 : op.code ≠ 0x0609)
    (hl : (op.code == 0x0104) = false) : Completes c e s st d r u := by
  have hr := runs_meaning hx hc ha hm
  simp only [CmdRuns, hc] at ha
  have ht := ha.1
  have hq : e.queue ≠ 16 := by have := ht.1; omega
  have hc := AnswersOnly.complete (cmdOf op.code e) st d r u hq hs
  refine ⟨_, hr, ?_, ?_⟩
  · simp only [Answered, queueOf_framed, hh, finish]
    rw [show e.queue = (cmdOf op.code e).queue from rfl, complete_head _ _ _ _ _ hq hs ht.2.2.2.2.2]
    simp [cmdOf, h9]
  · rw [hh, finish, hl]
    exact .under_frame s hc

/-- An accepted command that its meaning answers from the state, which it leaves. -/
theorem completes_read {c : Instr} {op : Op} {e : Entry} {h : Cmd → State → Answer} {s : State} {st : Status} {d : Nat} {r : List Byte}
    (hx : exec c s = mailbox op h e s) (hc : mailOp c = some (op, e)) (ha : CmdRuns c s)
    (hm : op.modes (started e s) e.req = op.modes s e.req)
    (hh : h (cmdOf op.code e) (started e s) = .done st d r (started e s)) (hs : st ≠ .internal) (h9 : op.code ≠ 0x0609)
    (hl : (op.code == 0x0104) = false) : Completes c e s st d r s := by
  obtain ⟨t, h1, h2, h3⟩ := completes hx hc ha hm hh hs h9 hl
  refine ⟨t, h1, h2, ?_⟩
  have hk : framed false s (started e s) = started e s := framed_keeps _ (AnswersOnly.started e s).keeps
  rw [hk] at h3
  exact (AnswersOnly.started e s).trans h3

/-- An accepted command whose meaning starts something that completes it later. -/
theorem begins {c : Instr} {op : Op} {e : Entry} {h : Cmd → State → Answer} {s u : State}
    (hx : exec c s = mailbox op h e s) (hc : mailOp c = some (op, e)) (ha : CmdRuns c s)
    (hm : op.modes (started e s) e.req = op.modes s e.req)
    (hh : h (cmdOf op.code e) (started e s) = .wait u) (hl : (op.code == 0x0104) = false) : Begins c s u := by
  rw [Begins, runs_meaning hx hc ha hm, hh, hl]; rfl

end Sys2Proof.Machine
end

