-- ==== Sys2Proof/Laws/Completion.lean ====
section
/-!
SUPPORT. What a completion writes: its entry at the tail of the ring, the entry's fields, and the queue after it; and the
length of an event entry.
-/
namespace Sys2Proof.Machine

theorem hostWrite_mem (p : HostPort) (q : Nat) (c : Completion) (s : State) (hw : c.writeOk = true) :
    ∃ cut, Output.hostWrite p ((queueOf s q).cqBase.toNat + 64 * ((queueOf s q).cqTail.toNat % 256))
      (completionBytes (queueOf s q) c c.status c.detail cut) ∈ (writeCompletion p q c s).out := by
  unfold writeCompletion
  extract_lets long put failed status detail s1 s2 x cut s3 s4
  have hf : failed = false := by simp [failed, hw]
  have h1 : s1 = s := by simp [s1, hf]
  have h2 : queueOf s2 q = queueOf s q := by simp only [s2, h1]; split <;> simp
  refine ⟨cut, ?_⟩
  have h4 : Output.hostWrite p ((queueOf s q).cqBase.toNat + 64 * ((queueOf s q).cqTail.toNat % 256))
      (completionBytes (queueOf s q) c c.status c.detail cut) ∈ s4.out := by
    simp [s4, s3, x, h2, status, detail, hf]
  have hm : ∀ (u : State) (p v), (h : Output.hostWrite p ((queueOf s q).cqBase.toNat + 64 * ((queueOf s q).cqTail.toNat % 256))
      (completionBytes (queueOf s q) c c.status c.detail cut) ∈ u.out) → Output.hostWrite p ((queueOf s q).cqBase.toNat + 64 * ((queueOf s q).cqTail.toNat % 256))
      (completionBytes (queueOf s q) c c.status c.detail cut) ∈ (sendMsix p v u).out := by
    intro u p v h
    unfold sendMsix
    dsimp only
    split
    · split
      · simp [h]
      · simp [h]
    · exact h
  split
  · split
    · unfold urIrq; dsimp only; split <;> simp [h4]
    · split
      · unfold sendMsix
        dsimp only
        split
        · split
          · simp [h4]
          · simp [h4]
        · exact h4
      · exact h4
  · exact h4

theorem completionBytes_fields (q : Queue) (c : Completion) (st : Status) (d : Nat) (cut : Bool) :
    fld (completionBytes q c st d cut) 2 2 = c.seq.toNat ∧ fld (completionBytes q c st d cut) 4 2 = st.code
      ∧ bit (byteAt (completionBytes q c st d cut) 7) 1 = c.replayed := by
  have h1 : c.seq.toNat < 65536 := c.seq.isLt
  refine ⟨?_, ?_, ?_⟩
  · simp [completionBytes, fld, slice, leBytes, leNat]; omega
  · simp [completionBytes, fld, slice, leBytes, leNat]; cases st <;> rfl
  · have : byteAt (completionBytes q c st d cut) 7 = (b2n (phaseOf q.cqTail) + 2 * b2n c.replayed + 4 * b2n cut + 8 * b2n c.replayCut) % 256 := by
      simp [completionBytes, byteAt, fld, slice, leBytes, leNat]
    rw [this]
    generalize phaseOf q.cqTail = a
    generalize c.replayed = b
    generalize c.replayCut = e
    cases a <;> cases b <;> cases e <;> cases cut <;> rfl

theorem deliver_up (p : HostPort) (q : Nat) (c : Completion) (s : State) (ho : (queueOf s q).owner = some p)
    (hl : (queueOf s q).losing = false) (hp : (portOf s p).linkUp = true) : deliverCompletion q c s = writeCompletion p q c s := by
  simp [deliverCompletion, ho, hl, hp]

theorem writeCompletion_queue (p : HostPort) (q : Nat) (c : Completion) (s : State) (hw : c.writeOk = true) :
    queueOf (writeCompletion p q c s) q = { queueOf s q with cqTail := (queueOf s q).cqTail + 1, inFlight := (queueOf s q).inFlight - 1 } := by
  unfold writeCompletion
  extract_lets long put failed status detail s1 s2 x cut s3 s4
  have hf : failed = false := by simp [failed, hw]
  have h1 : s1 = s := by simp [s1, hf]
  have h2 : queueOf s2 q = queueOf s q := by simp only [s2, h1]; split <;> simp
  have h4 : queueOf s4 q = { queueOf s q with cqTail := (queueOf s q).cqTail + 1, inFlight := (queueOf s q).inFlight - 1 } := by
    simp [s4, x, h2]
  split
  · split
    · simpa using h4
    · split
      · simpa using h4
      · exact h4
  · exact h4

theorem eventBytes_length (e : EventRec) (lost : Bool) (n : Nat) : (eventBytes e lost n).length = 64 := by
  simp [eventBytes, leBytes, zeros, padTo]; omega

end Sys2Proof.Machine
end

