-- ==== Sys2Proof/Laws/Check.lean ====
section
/-!
SUPPORT. The premises of a command's statement as checks that evaluate: a check that succeeds proves its premise.
-/
namespace Sys2Proof.Machine

/-- `CmdRuns` as a check. -/
def cmdRunsB (c : Instr) (s : State) : Bool :=
  match mailOp c with
  | some (op, e) =>
    decide (e.queue < 16) && served s e.queue && decide (e.seq = (queueOf s e.queue).seqNext) && decide (entryFault e = none)
      && !readFailed e && e.writeOk && accepted op e.req s && op.len e.req
  | none => false

theorem cmdRuns_of_check {c : Instr} {s : State} (h : cmdRunsB c s = true) : CmdRuns c s := by
  unfold cmdRunsB at h
  unfold CmdRuns
  split <;> rename_i heq <;> simp only [heq] at h
  · simp only [Bool.and_eq_true, decide_eq_true_eq, Bool.not_eq_true'] at h
    obtain ⟨⟨⟨⟨⟨⟨⟨h1, h2⟩, h3⟩, h4⟩, h5⟩, h6⟩, h7⟩, h8⟩ := h
    exact ⟨⟨h1, h2, h3, h4, h5, h6⟩, h7, h8⟩
  · simp at h

/-- `UrRuns` as a check. -/
def urRunsB (c : Instr) (s : State) : Bool :=
  match urOf c with
  | some (_, n, u, migrated, last) =>
    served s 16 && decide (u.paramLen.toNat = n) && decide (u.param.length = n) && (!s.compat.migrated || migrated)
      && (decide (s.mode.lifecycle ≠ .decommissioned) || last)
  | none => false

theorem urRuns_of_check {c : Instr} {s : State} (h : urRunsB c s = true) : UrRuns c s := by
  unfold urRunsB at h
  unfold UrRuns
  split <;> rename_i heq <;> simp only [heq] at h
  · simp only [Bool.and_eq_true, Bool.or_eq_true, decide_eq_true_eq, Bool.not_eq_true'] at h
    obtain ⟨⟨⟨⟨h1, h2⟩, h3⟩, h4⟩, h5⟩ := h
    exact ⟨h1, h2, h3, fun m => h4.resolve_left (by simp [m]), fun d => h5.resolve_left (by simp [d])⟩
  · simp at h

/-- `TwinHeard` as a check. -/
def twinHeardB (src compat epoch : Nat) (s : State) : Bool :=
  chordRuns s && twinEnabled s && decide (src = twinId s) && decide (src ≠ memberId s) && decide (compat = s.fw.runCompat.toNat)
    && decide (epoch ≤ s.cfg.epoch.toNat) && !(memberOf s src).compatBad && decide ((memberOf s src).behind = 0)

theorem twinHeard_of_check {src compat epoch : Nat} {s : State} (h : twinHeardB src compat epoch s = true) : TwinHeard src compat epoch s := by
  simp only [twinHeardB, Bool.and_eq_true, decide_eq_true_eq, Bool.not_eq_true'] at h
  obtain ⟨⟨⟨⟨⟨⟨⟨h1, h2⟩, h3⟩, h4⟩, h5⟩, h6⟩, h7⟩, h8⟩ := h
  exact ⟨h1, h2, h3, h4, h5, h6, h7, h8⟩

/-- The state that a command leaves passes a check. -/
def leaves (c : Instr) (s : State) (p : State → Bool) : Bool :=
  match exec c s with
  | .next t => p t
  | _ => false

theorem next_of_leaves {c : Instr} {s : State} {p : State → Bool} (h : leaves c s p = true) : ∃ t, exec c s = .next t ∧ p t = true := by
  unfold leaves at h
  split at h
  · exact ⟨_, by assumption, h⟩
  · simp at h

/-- `Answered` as a check. -/
def answeredB (e : Entry) (st : Status) (detail : Nat) (reply : List Byte) (t : State) : Bool :=
  decide ((queueOf t e.queue).cache.head?.map (fun r => (r.seq, r.status, r.detail, r.replyLen, r.body)) = some (e.seq, st, detail, reply.length, reply.take 512))

theorem answered_of_check {e : Entry} {st : Status} {detail : Nat} {reply : List Byte} {t : State}
    (h : answeredB e st detail reply t = true) : Answered e st detail reply t := by
  unfold Answered
  exact of_decide_eq_true h

end Sys2Proof.Machine
end

