-- ==== Sys2Proof/Laws/Journal.lean ====
section
/-!
SUPPORT. The length of a journal block in the ring: whatever the compressor makes, a segment is stored no longer than it is.
-/
namespace Sys2Proof.Machine

theorem storedSegment_le (x : List Byte) : (storedSegment x).2.length ≤ x.length := by
  unfold storedSegment
  dsimp only
  split <;> simp_all <;> omega

theorem storedSegments_foldl_le (xs : List (List Byte)) (a b : Nat) (h : a ≤ b) :
    (xs.map storedSegment).foldl (fun n x => n + x.2.length) a ≤ xs.foldl (fun n x => n + x.length) b := by
  induction xs generalizing a b with
  | nil => exact h
  | cons x xs ih => exact ih _ _ (Nat.add_le_add h (storedSegment_le x))

/-- A block takes at most its header, its segments and their separators. -/
theorem storedLen_le (l : List JRec) :
    storedLen l ≤ 16 + (segments l).foldl (fun n x => n + x.length) 0 + 2 * ((segments l).length - 1) := by
  have h := storedSegments_foldl_le (segments l) 0 0 (Nat.le_refl _)
  simp only [storedLen, storedSegments, List.length_map]
  omega

end Sys2Proof.Machine
end

