-- ==== Sys2Proof/WellFormed.lean ====
section
/-!
DEFINITION. Well-formed commands: the bounds that the interface itself imposes on what can be sent
(a queue is one of sixteen, a payload has the length its entry states). Everything a command's rules
check is checked by its meaning, not here.
-/
namespace Sys2Proof

/-- A command entry names one of the sixteen queues, and its payload is REQ_LEN bytes where REQ_LEN is
within the limit of R59. -/
def Entry.wf (e : Entry) : Bool :=
  decide (e.queue < 16) && (decide (e.req.length = e.reqLen.toNat) || decide (16384 < e.reqLen.toNat))

/-- A UR entry holds its PARAM_LEN parameter bytes, at most 56 (Table 19.3). -/
def UrEntry.wf (u : UrEntry) : Bool :=
  decide (u.paramLen.toNat ≤ 56) && decide (u.param.length = u.paramLen.toNat)

end Sys2Proof
end

