-- ==== Sys2Proof/Tests/Slice0.lean ====
section
/-!
SUPPORT. Tests: the ill-formed entries that WellFormed refuses, and for every statement with hypotheses a state and operands
that meet them, clause by clause, at which its conclusion is evaluated where that is short.
-/
namespace Sys2Proof.Tests
open Sys2Proof.Machine
set_option Elab.async false

/-! ### Helpers -/

/-- A chip out of reset in a mode, with both host links up and queue 0 of H1 running with one entry. -/
def chip (m : Mode) : State :=
  let r := State.reset
  let q : Queue := { Queue.reset with owner := some .h1, enable := true, qstate := .running, sqTail := 1 }
  let up : PortState := { PortState.reset with linkUp := true }
  { r with power := { r.power with phase := .running, vddIo := true }, mode := { r.mode with mode := m },
           host := { r.host with h0 := up, h1 := up, serving := true, queues := [(0, q)] } }

/-- The first entry of queue 0. -/
def cmd (req : List Byte) : Entry :=
  { queue := 0, seq := 0, flags := 0, tag := 7, reqLen := BitVec.ofNat 16 req.length, replyMax := 16384, reqAddr := 0x1000,
    replyAddr := 0x2000, req, readOk := true, writeOk := true }

/-- Nothing but the answer's parts changed (`AnswersOnly`). -/
def onlyB (q : Nat) (s t : State) : Bool :=
  decide (t = { s with host := { s.host with h0 := t.host.h0, h1 := t.host.h1, queues := t.host.queues, lastServed := t.host.lastServed },
                       out := t.out, compat := { s.compat with irqStatus := t.compat.irqStatus } })
    && (List.range 18).all (fun q' => q' == q || decide (queueOf t q' = queueOf s q'))

/-- `Completes` at one state. -/
def completesB (c : Instr) (e : Entry) (s : State) (st : Status) (detail : Nat) (reply : List Byte) (u : State) : Bool :=
  leaves c s (fun t => answeredB e st detail reply t && onlyB e.queue (framed false s u) t)

/-- `Does` at one state, its command running. -/
def doesB (c : Instr) (e : Entry) (s : State) (reply : List Byte) (u : State) : Bool :=
  cmdRunsB c s && completesB c e s .ok 0 reply u

/-- `Begins` at one state, its command running. -/
def beginsB (c : Instr) (s u : State) : Bool := cmdRunsB c s && leaves c s (fun t => decide (t = framed false s u))

/-- `Occurs` at one state. -/
def occursB (c : Instr) (dt : Nat) (s u : State) : Bool := leaves c s (fun t => decide (t = framed false (begin dt s) u))

/-- The state `dt` ticks on. -/
abbrev aft (dt : Nat) (s : State) : State := begin dt s

/-! ### Well-formedness -/

/-- An entry of a seventeenth queue, one shorter than REQ_LEN says; a UR entry above 56 bytes, one shorter than PARAM_LEN
says: each is refused; the longest are not. -/
theorem test_ill_formed_refused :
    [!({ cmd [] with queue := 16 }).wf, !({ cmd [] with reqLen := 1 }).wf, ({ cmd [] with queue := 15 }).wf, ({ cmd [] with reqLen := 16385 }).wf,
     !({ tag := 0, paramLen := 57, param := zeros 57 } : UrEntry).wf, !({ tag := 0, paramLen := 3, param := zeros 2 } : UrEntry).wf,
     ({ tag := 0, paramLen := 56, param := zeros 56 } : UrEntry).wf].all id = true := by decide +kernel

/-! ### The block and the mailbox protocol -/

theorem test_witness_EmptyQueueLetsATickPass : (chip .config).pending = [] := rfl

theorem test_witness_EveryCommandsFrame :
    leaves (.sysIdentify (cmd [])) (chip .config) (fun t => decide (t.mode.lifecycle = .deployed) && decide (t.pending = [])) = true := by decide +kernel

theorem test_witness_LifeCycleNeverGoesBack :
    lifeReached 2 (chip .config) ∧ ∃ t, step (chip .config) = .next t := ⟨by unfold lifeReached; decide, _, rfl⟩

/-- Queue 0 changed. -/
def withQ (f : Queue → Queue) (s : State) : State := modQueue 0 f s

def oldReply : CachedReply := { seq := 0, status := .notFound, detail := 3, replyLen := 0, epoch := 0, body := [], whole := false }

theorem test_witness_SequenceNumbers :
    [ (let s := withQ (fun x => { x with seqNext := 64, cache := [oldReply] }) (chip .config)
       served s 0 && decide (seqClass (queueOf s 0) 0 = .duplicate oldReply)
         && leaves (.sysIdentify (cmd [])) s (fun t => onlyB 0 s t && decide ((queueOf t 0).seqNext = 64 ∧ (queueOf t 0).sqHead = 1 ∧ (queueOf t 0).cqTail = 1)
           && t.out.any (fun o => match o with | .hostWrite .h1 0 b => fld b 2 2 == 0 && fld b 4 2 == Status.notFound.code && bit (byteAt b 7) 1 | _ => false))),
      (let s := withQ (fun x => { x with seqNext := 65, cache := [oldReply] }) (chip .config)
       served s 0 && decide (seqClass (queueOf s 0) 0 = .outside)
         && leaves (.sysIdentify (cmd [])) s (fun t => onlyB 0 s t && decide ((queueOf t 0).seqNext = 65)
           && t.out.any (fun o => match o with | .hostWrite .h1 0 b => fld b 2 2 == 0 && fld b 4 2 == Status.seqError.code && !bit (byteAt b 7) 1 | _ => false))) ].all id
      = true := by decide +kernel

theorem test_witness_RefusedCommandsChangeNothing :
    [ (let e := { cmd [] with replyMax := 16385 }; decide (entryFault e = some (.lenError, 0)) && completesB (.sysIdentify e) e (chip .config) .lenError 0 [] (started e (chip .config))),
      (let e := { cmd [] with replyAddr := 0x2004 }; decide (entryFault e = some (.badParam, 0)) && completesB (.sysIdentify e) e (chip .config) .badParam 0 [] (started e (chip .config))),
      (let e := { cmd [1] with readOk := false }; readFailed e && completesB (.sysIdentify e) e (chip .config) .dmaError 1 [] (started e (chip .config))),
      (let e := cmd (zeros 8); (mailOp (.sysCompatMigrate e)).any (fun p => !accepted p.1 e.req (chip .config)) && completesB (.sysCompatMigrate e) e (chip .config) .modeRefused 0 [] (started e (chip .config))),
      (let e := cmd [1]; completesB (.sysIdentify e) e (chip .config) .lenError 0 [] (started e (chip .config))) ].all id = true := by decide +kernel

theorem test_witness_ServiceOrder :
    [ (let s := withQ (fun x => { x with sqTail := 0 }) (chip .config); !served s 0 && leaves (.sysIdentify (cmd [])) s (fun t => decide (t = { s with out := [] }))),
      (let s := chip .config; decide (nextServed s = some 0) && ready s 0) ].all id = true := by decide +kernel

def fourBytes : Completion :=
  { opcode := 0x0101, seq := 0, status := .ok, detail := 0, replayed := false, replayCut := false, tag := 7, replyLen := 32, epoch := 0, body := zeros 32,
    replyMax := 64, replyAddr := 0x2000, irq := true, writeOk := true, isNew := true }

theorem test_witness_CompletionIsWritten :
    (let s := withQ (fun x => { x with irqEn := true, cqTail := 256 }) (chip .config)
     let t := deliverCompletion 0 fourBytes s
     [!viaWindow s 0, msixCapable s .h1, decide ((queueOf t 0).cqTail = 257),
      decide (msixMasked (portOf s .h1) 0 = true)].all id) = true := by decide +kernel

/-- The event ring 0 enabled. -/
def ring0 (s : State) : State := { s with host := { s.host with rings := [(0, { EventRing.reset with enable := true, prod := 4095 })] } }

theorem test_witness_EventIsWrittenAtProd :
    [ (let s := ring0 (chip .config)
       let t := raiseAt 2 0x0101 9 [1, 2] s
       decide (routeOf s 0x0101 = 0) && !ringFull (ringOf s 0) && decide ((ringOf t 0).prod = 4096) && decide (eventByte t (64 * 4095) = 1)
         && decide (eventByte t (64 * 4095 + 25) = 2) && decide (eventByte t 0 = 0)) ].all id = true := by decide +kernel

/-! ### Commit groups, counters and plain reads -/

/-- A read of a group answers with its records, in one view. -/
def readsGroup (c : Entry → Instr) (tail : State → List Byte) (group view : Nat) : Bool :=
  let e := cmd (leBytes 2 group ++ leBytes 1 view ++ zeros 5)
  let s := chip .config
  match groupSpec (reqGroup e.req) with
  | some x =>
    let x' := { x with fields := gFields (reqGroup e.req) x }
    doesB (c e) e s
      (leBytes 2 (reqGroup e.req) ++ leBytes 2 (recordCount x') ++ leBytes 2 (tail s).length ++ zeros 2
        ++ groupRecords x' (fun row idx => if byteAt e.req 2 = 0 then cfgGet s (reqGroup e.req) row idx else cfgStaged s (reqGroup e.req) row idx)
        ++ tail s) s
  | none => false

theorem test_witness_GroupReadsAnswer :
    [ readsGroup .sysModeParamGet noData 0x0101 0, readsGroup .portCfgGet noData 0x0241 1, readsGroup .portSerdesGet noData 0x0300 0,
      readsGroup .swBufferGet noData 0x0500 0, readsGroup .swQosGet noData 0x0451 0, readsGroup .swMirrorGet noData 0x0501 0,
      readsGroup .swPrpGet prpData 0x0502 0, readsGroup .clsStageGet noData 0x0605 0, readsGroup .clsParserGet noData 0x0608 0,
      cmdRunsB (.fwdParamGet (cmd [0, 7, 0, 0, 0, 0, 0, 0])) (chip .config), readsGroup .meshTimingGet timingData 0x0800 0, readsGroup .meshTemplateGet noData 0x0817 0,
      readsGroup .meshDriftParamGet noData 0x0821 0, readsGroup .meshSecurityGet checkpointData 0x0822 0, readsGroup .meshGxLqGet noData 0x0823 0,
      readsGroup .radioSectorGet noData 0x0907 0, readsGroup .radioFrontendGet noData 0x0917 0, readsGroup .radioRxGet noData 0x0937 0,
      readsGroup .clusterGet noData 0x0B00 0, readsGroup .storeParamGet noData 0x0A00 0, readsGroup .diagParamGet noData 0x0C00 1 ].all id = true := by decide +kernel

/-- A set of the first field of a group stages its value; while another queue holds the group it is refused. -/
def setsGroup (c : Entry → Instr) (group : Nat) : Bool :=
  match groupSpec group with
  | some x =>
    match (gFields group x).head? with
    | some f =>
      let e := cmd (leBytes 2 group ++ leBytes 2 1 ++ zeros 4 ++ leBytes 1 f.row ++ leBytes 1 (f.members - 1) ++ leBytes 1 16 ++ zeros 1 ++ leBytes 16 5)
      let s := chip .config
      let held := { s with cfg := { s.cfg with owner := [(group, 4)] } }
      cmdRunsB (c e) s && decide (lockedBy held 0 group = some 3) && completesB (c e) e held .cfgLocked 3 [] held
        && leaves (c e) s (fun t => answeredB e .ok 0 [] t && onlyB 0 { s with cfg := { s.cfg with staged := t.cfg.staged, owner := t.cfg.owner } } t
          && decide (stagedBy t group = some 0) && decide (cfgStaged t group f.row (f.members - 1) = 5)
          && decide (cfgGet t group f.row (f.members - 1) = cfgGet s group f.row (f.members - 1)))
    | none => false
  | none => false

theorem test_witness_GroupSetsStage :
    [ setsGroup .sysModeParamSet 0x0100, setsGroup .portCfgSet 0x0200, setsGroup .portSerdesSet 0x036B, setsGroup .swBufferSet 0x0500,
      setsGroup .swQosSet 0x0400, setsGroup .swMirrorSet 0x0501, setsGroup .swPrpSet 0x0502, setsGroup .clsParserSet 0x0608,
      setsGroup .fwdParamSet 0x0700, setsGroup .meshTimingSet 0x0800, setsGroup .meshTemplateSet 0x0810, setsGroup .meshDriftParamSet 0x0821,
      setsGroup .meshSecuritySet 0x0822, setsGroup .meshGxLqSet 0x0823, setsGroup .radioSectorSet 0x0900, setsGroup .radioFrontendSet 0x0910,
      setsGroup .radioRxSet 0x0930, setsGroup .clusterSet 0x0B00, setsGroup .storeParamSet 0x0A00, setsGroup .diagParamSet 0x0C00 ].all id
      = true := by decide +kernel

/-- A read of the last counter of a table with CLEAR. -/
def readsCtr (c : Entry → Instr) (tb : CtrTable) (inst at_ n : Nat) : Bool :=
  let e := cmd (leBytes 2 at_ ++ leBytes 2 1 ++ leBytes 2 (n - 1) ++ leBytes 2 0)
  let s := ctrAdd tb inst (n - 1) 5 (ctrAdd tb inst 0 7 (chip .config))
  cmdRunsB (c e) s && (ctrReq e.req).clear && leaves (c e) s (fun t => answeredB e .ok 0 (leBytes (if tb.wide then 8 else 4) 5) t
    && onlyB 0 { s with ctr := t.ctr } t && decide (ctrGet t tb inst (n - 1) = 0) && decide (ctrGet t tb inst 0 = 7))

theorem test_witness_CounterReadsAnswer :
    [ readsCtr .clsStatsGet .pipe 3 3 22, readsCtr .fwdCountersGet .fwd 0 0xFFFF 27, readsCtr .meshMacCountersGet .mac 0 0xFFFF 21,
      readsCtr .meshSecCountersGet .sec 0 0xFFFF 15, readsCtr .radioTxCountersGet .tx 7 7 15, readsCtr .chordCountersGet .chord 11 11 29,
      readsCtr .chordCountersGet .chip 0 0xFFFF 7, readsCtr .storeCountersGet .store 0 0xFFFF 9, readsCtr .diagEccCountersGet .ecc 0 0xFFFF 25 ].all id
      = true := by decide +kernel

/-- A read without a parameter. -/
def reads (c : Entry → Instr) (f : State → List Byte) : Bool := doesB (c (cmd [])) (cmd []) (chip .config) (f (chip .config)) (chip .config)

theorem test_witness_PlainReadsAnswer :
    [ reads .sysIdentify identifyBytes, reads .sysStatus sysStatusBytes,
      reads .sysFwStatus (fun s => s.fw.inForce.line ++ s.fw.previous.line ++ s.fw.staged.line ++ zeros 8),
      reads .radioDutyStatus dutyBytes, reads .timeGet timeGetBytes, reads .twinStatus twinStatusBytes,
      reads .twinHealthGet (fun s => s.chord.twin.health), reads .storeStatus storeStatus, cmdRunsB (.storeImageList (cmd [])) (chip .config),
      reads .diagRepairGet repairBytes,
      reads .timeServoGet (fun s => leBytes 1 (b2n s.time.mer.ownerFw) ++ zeros 1 ++ leBytes 2 s.time.mer.holdTimeout) ].all id = true := by decide +kernel

theorem test_witness_PlainReadsAnswer_long :
    [ reads .radioRegRead regReadBytes, reads .clusterStatus (fun s => ((List.range 16).map (memberBytes s)).flatten),
      reads .diagDumpList (fun s => (dumpOf s 0).bytes ++ (dumpOf s 1).bytes ++ fatalBytes s.integ.lastFatal) ].all id = true := by decide +kernel
/-! ### System commands -/

def withArray (s : State) : State := { s with store := { s.store with array := { s.store.array with mode := .normal } } }

def job (code : Nat) : Job :=
  { handle := 1, queue := 0, opcode := code, status := .accepted, detail := 0, done := false, progress := 0, result := [], req := [] }

def withJob (code : Nat) (s : State) : State := { s with jobs := { s.jobs with running := [job code], next := 2 } }

/-- A field staged by queue 0. -/
def staged (g row idx : Nat) (v : Int) (s : State) : State :=
  { s with cfg := { s.cfg with staged := [(cfgKey g row idx, some v)], owner := [(g, 1)] } }

theorem test_witness_SystemCommandsAct :
    [ (let e := cmd (leBytes 4 1); let s := withJob 0x010D (chip .config)
       doesB (.sysJobStatus e) e s (jobBytes (job 0x010D)) s),
      (let e := cmd (leBytes 2 0xFFFF ++ [3, 0, 0, 0, 0, 0]); let s := chip .service
       cmdRunsB (.sysEventRoute e) s && leaves (.sysEventRoute e) s (fun t => answeredB e .ok 0 [] t
         && onlyB 0 { s with host := { s.host with routes := t.host.routes } } t && decide (routeOf t 0x0101 = 3) && decide (routeOf t 0xFFFE = 0))),
      (let e := cmd (leBytes 2 0x0101 ++ [2, 0, 0, 0, 0, 0]); let s := chip .service
       cmdRunsB (.sysEventRoute e) s && leaves (.sysEventRoute e) s (fun t => decide (routeOf t 0x0101 = 2) && decide (routeOf t 0x0102 = 0))),
      (let e := cmd (leBytes 16 (2 ^ 65 + 1)); let s := chip .activeN
       doesB (.sysBackhaulReport e) e s [] ((bitList 0x42 (fld e.req 0 16)).foldl reportPort (started e s))),
      (let e := cmd (zeros 4); let s := staged 0x0C00 1 0 5 (chip .config)
       cmdRunsB (.sysConfigDiscard e) s && leaves (.sysConfigDiscard e) s (fun t => answeredB e .ok 0 (commitReply s 1 0xFFFF) t
         && onlyB 0 { s with cfg := { s.cfg with staged := t.cfg.staged, owner := t.cfg.owner } } t
         && decide (stagedBy t 0x0C00 = none) && decide (cfgStaged t 0x0C00 1 0 = cfgGet s 0x0C00 1 0))),
      (let e := cmd (leBytes 4 0 ++ [3, 0, 0, 0, 9, 8]); let s := withArray (chip .config)
       cmdRunsB (.sysFwStage e) s && leaves (.sysFwStage e) s (fun t => answeredB e .ok 0 [] t
         && decide (t.fw = { s.fw with staged := { FwSet.none with state := .loaded, bytes := [9, 8] } }))),
      (let e := cmd (leBytes 2 0x0402 ++ [1, 0] ++ leBytes 2 0x1234 ++ leBytes 2 0x5678 ++ zeros 8); let s := withArray (chip .config)
       doesB (.sysCompatProfileLoad e) e s [] { started e s with
         compat := { s.compat with profile := true, subsysVendor := 0x1234, subsysId := 0x5678, saved := some (true, 0x1234, 0x5678) } }) ].all id
      = true := by decide +kernel

theorem test_witness_CommitGoesLive :
    [ (let e := cmd (zeros 4); let s := { staged 0x0700 1 0 5 (chip .config) with sw := { (chip .config).sw with shadow := true } }
       beginsB (.sysConfigCommit e) s { started e s with sw := { s.sw with commitWait := s.sw.commitWait ++ [cmdOf 0x0108 e] } }),
      (let e := cmd (leBytes 2 1 ++ leBytes 2 1 ++ leBytes 2 0x0100 ++ leBytes 4 9); let s := staged 0x0100 4 0 100 (chip .config)
       (match groupsOf (cmdOf 0x0108 e) s with | .ok l => l == [0x0100] | .error _ => false) && (stageable (started e s) 0x0100)
         && decide (refusedBy (postCommit [0x0100] (started e s)).1 (started e s) (postCommit [0x0100] (started e s)).2 [0x0100] = none)
         && doesB (.sysConfigCommit e) e s (commitReply (goLive [0x0100] (epochReq e.req) (started e s)) 1 0xFFFF) (goLive [0x0100] (epochReq e.req) (started e s))
         && decide ((goLive [0x0100] (epochReq e.req) (started e s)).cfg.epoch = 9)),
      (let e := cmd (zeros 4); let s := staged 0x0C00 1 0 1 (chip .service)
       epochBearing 0x0C00 == false && doesB (.sysConfigCommit e) e s (commitReply (goLive [0x0C00] none (started e s)) 1 0xFFFF) (goLive [0x0C00] none (started e s))) ].all id
      = true := by decide +kernel

theorem test_witness_StagedBecomesLive :
    [ (let s := staged 0x0C00 1 0 5 (chip .config)
       Sparse.wf (fun _ => none) s.cfg.staged && decide (cfgGet (makeLive 0x0C00 s) 0x0C00 1 0 = 5)) ].all id = true := by decide +kernel

def fwSet : FwSet := { version := 0x03050000, compat := 4, state := .verified, bytes := [1], apex := true, facet := true }

def withSet (x : FwSet) (s : State) : State := { s with fw := { s.fw with staged := x } }

def withLife (l : LifeCycle) (s : State) : State := { s with mode := { s.mode with lifecycle := l } }

theorem test_witness_SystemCommandsBegin :
    [ (let e := cmd (leBytes 8 3); let s := { chip .service with mode := { (chip .service).mode with origin := some .config } }
       modeOfCode 3 == some .config && decide (rowOf s .config = some 17)
         && beginsB (.sysModeSet e) s (beginRow 17 .config false (cmdOf 0x0103 e) (started e s))
         && leaves (.sysModeSet e) s (fun t => decide (t.mode.trans = some { row := 17, fromMode := .service, toMode := .config, trigger := 0x01, wake := none, cmd := some (cmdOf 0x0103 e), since := 0, limit := rowLimit 17 }))),
      (let e := cmd (leBytes 8 Mode.activeN.code); let s := { chip .config with cfg := { (chip .config).cfg with partitionLive := true } }
       decide (firstFalse 1 (preconditions (started e s) 6 .activeN false) = none)
         && beginsB (.sysModeSet e) s (beginRow 6 .activeN false (cmdOf 0x0103 e) (started e s))
         && leaves (.sysModeSet e) s (fun t => decide (t.mode.trans = some { row := 6, fromMode := .config, toMode := .activeN, trigger := 0x01, wake := none, cmd := some (cmdOf 0x0103 e), since := 0, limit := rowLimit 6 }))),
      (let e := cmd []; let s := withSet { fwSet with state := .loaded } (chip .config)
       cmdRunsB (.sysFwVerify e) s && leaves (.sysFwVerify e) s (fun t => answeredB e .accepted 0 [1, 0, 0, 0] t && onlyB 0 { s with jobs := t.jobs } t
         && decide (t.jobs.running.map (fun j => (j.handle, j.opcode)) = [(1, 0x010D)]))),
      (let e := cmd [0, 1, 0, 0, 0, 0, 0, 0]; let s := withSet fwSet (chip .service)
       cmdRunsB (.sysFwActivate e) s && leaves (.sysFwActivate e) s (fun t => answeredB e .accepted 0 [1, 0, 0, 0] t && !t.host.serving
         && decide (t.fw = { activateSet false s.fw with restart := some (1, 0) }))),
      (let e := cmd [0, 3, 0, 0, 0, 0, 0, 0]; let s := withSet fwSet { chip .service with mode := { (chip .service).mode with origin := some .config } }
       cmdRunsB (.sysFwActivate e) s && decide (servingMode (datapath s) = false) && leaves (.sysFwActivate e) s (fun t => answeredB e .accepted 0 [1, 0, 0, 0] t && !t.host.serving
         && decide (t.fw = { activateSet false s.fw with restart := some (1, 0) }))),
      (let e := cmd [0, 2, 0, 0, 0, 0, 0, 0]; let s := withSet fwSet { chip .service with mode := { (chip .service).mode with origin := some .config } }
       cmdRunsB (.sysFwActivate e) s && leaves (.sysFwActivate e) s (fun t => decide (t.fw = runInForce (activateSet false s.fw))
         && decide (t.mode.trans.map (fun x => (x.row, x.trigger)) = some (17, 0x0C)))),
      (let e := cmd (leBytes 8 1); let s := { chip .activeC with compat := { (chip .activeC).compat with features := 0x40 } }
       cmdRunsB (.sysCompatMigrate e) s && feature s 6 && leaves (.sysCompatMigrate e) s (fun t => decide (t.compat.migrating = some (true, slotAfter 2000 s))
         && decide (t.mode.trans = some { row := 11, fromMode := .activeC, toMode := .activeN, trigger := 0x0B, wake := none, cmd := some (cmdOf 0x0111 e), since := 0, limit := rowLimit 11 }))) ].all id = true := by decide +kernel

theorem test_witness_UnlistedOpcodeIsBad :
    [ (let e := cmd []; let s := chip .service; decide (served s 0) && !listedOpcode 0x0A0F && completesB (.unlistedOpcode 0x0A0F e) e s .badOpcode 0 [] s) ].all id
      = true := by decide +kernel
/-! ### Modes, reset and power -/

def ms (n : Nat) : Nat := n * msTicks

def trans (row : Nat) (a b : Mode) (trigger : Nat) : Transition :=
  { row, fromMode := a, toMode := b, trigger, wake := none, cmd := none, since := 0, limit := rowLimit row }

def inTrans (t : Transition) (s : State) : State := { s with mode := { s.mode with trans := some t } }

/-- Fields of groups live. -/
def live (l : List (Nat × Nat × Nat × Int)) (s : State) : State :=
  { s with cfg := { s.cfg with live := l.foldl (fun m f => Sparse.set cfgDefault m (cfgKey f.1 f.2.1 f.2.2.1) f.2.2.2) s.cfg.live } }

/-- Autonomous ISLAND with port 0 as the only backhaul port. -/
def oneBackhaul (s : State) : State := live [(0x0100, 1, 0, 1), (0x0100, 2, 0, 1)] s

theorem test_witness_ModeEventsAct :
    [ (let s := inTrans (trans 16 .activeN .service 1) (chip .activeN)
       ripe (trans 16 .activeN .service 1) (aft (ms 10) s) && !overdue (trans 16 .activeN .service 1) (aft (ms 10) s)
         && occursB (.modeTransitionComplete (ms 10)) (ms 10) s (completeTransition (trans 16 .activeN .service 1) (aft (ms 10) s))),
      (let s := inTrans (trans 16 .activeN .service 1) (chip .activeN)
       overdue (trans 16 .activeN .service 1) (aft (ms 10 + 1) s) && occursB (.modeTimeout (ms 10 + 1)) (ms 10 + 1) s (fatal 3 0xFFFFFFFF (aft (ms 10 + 1) s))),
      (let s := { chip .config with fw := { (chip .config).fw with restart := some (1, 0) } }
       restartOverdue (aft (ms 300 + 1) s) && occursB (.modeTimeout (ms 300 + 1)) (ms 300 + 1) s (fatal 3 0xFFFFFFFF (aft (ms 300 + 1) s))),
      (let x := trans 11 .activeC .activeN 0x0B
       let s := inTrans x { chip .activeC with compat := { (chip .activeC).compat with migrating := some (true, 0) } }
       let c := { aft 0 s with compat := { (aft 0 s).compat with migrating := none, migrated := true } }
       decide (slotStart (aft 0 s) 0 ≤ meshTime (aft 0 s)) && !overdue x (aft 0 s) && occursB (.migrationBoundary 0) 0 s (completeTransition x (dropProfile c))),
      (let s := oneBackhaul (chip .activeN)
       lossDeclared (aft (ms 3000) s) && leaves (.backhaulLost (ms 3000)) s (fun t => t.mode.backhaulLost
         && decide (t.mode.trans = some { trans 12 .activeN .island 0x04 with since := ms 3000 }))),
      (let s := oneBackhaul { chip .island with mode := { (chip .island).mode with backhaulSince := [(0, 1)] } }
       restoreDeclared (aft (ms 10000) s) && leaves (.backhaulRestored (ms 10000)) s (fun t =>
         decide (t.mode.trans = some { trans 13 .island .activeN 0x05 with since := ms 10000 }))),
      (let s := live [(0x0100, 3, 0, 1)] { chip .activeN with mode := { (chip .activeN).mode with reportAt := [(65, 1)] } }
       !probeFresh (aft (ms 1000 + 1) s) 65 && !portStopped (aft (ms 1000 + 1) s) 65
         && occursB (.probeLapse (ms 1000 + 1) 65) (ms 1000 + 1) s (noteBackhaul 65 (swPort (aft (ms 1000 + 1) s) 65).linkUp (aft (ms 1000 + 1) s))),
      (let s := chip .quiescent
       [0, 7].all (fun src => wakeHolds s src && leaves (.quiescentWake 0 src) s (fun t => !t.host.serving
         && decide (t.mode.trans = some { trans 15 .quiescent .activeN 0x06 with wake := some src })))),
      (let s := live [(0x0101, 3, 0, 4)] { chip .quiescent with mode := { (chip .quiescent).mode with origin := some .island } }
       wakeHolds s 2 && leaves (.quiescentWake 0 2) s (fun t => !t.host.serving
         && decide (t.mode.trans = some { trans 15 .quiescent .island 0x06 with wake := some 2 }))),
      [1, 2, 5, 6, 7, 8].all (fun c => occursB (.fatalError 0 c 5) 0 (chip .activeN) (fatal c 5 (aft 0 (chip .activeN)))),
      (let s := (fatal 1 5 (withArray (chip .activeN)))
       decide (s.integ.dumping = some (0, 0)) && leaves (.dumpComplete 0 77) s (fun t => decide (t.power.phase = .inReset .internal ∧ t.integ.dumping = none)
         && decide (t.integ.lastFatal = s.integ.lastFatal.map (fun r => { r with state := 2 })) && decide (dumpOf t 0 = { dumpOf s 0 with state := 2, length := 77 }))),
      (let s := (fatal 1 5 (chip .activeN))
       decide (s.integ.dumping = some (0, 0xFF)) && occursB (.dumpTimeout (ms 20000)) (ms 20000) s
         { aft (ms 20000) s with power := { (aft (ms 20000) s).power with phase := .inReset .internal } }) ].all id = true := by decide +kernel

theorem test_witness_FatalErrorEntersDump :
    [ (let t := fatal 1 5 (chip .quiescent); decide (t.mode.mode = .dump ∧ t.mode.origin = none ∧ t.mode.trans = none ∧ t.integ.fatalDue = true)
         && decide (t.integ.lastFatal.map (fun r => (r.cause, r.locus)) = some (1, 5))),
      decide (fatal 1 5 (chip .dump) = { chip .dump with power := { (chip .dump).power with phase := .inReset .internal } }),
      (let s := { chip .boot with mode := { (chip .boot).mode with failedResets := 1 } }
       decide ((fatal 1 5 s).mode.failedResets = 2 ∧ (fatal 1 5 s).power.phase = .inReset .internal)),
      (let s := { chip .selftest with mode := { (chip .selftest).mode with failedResets := 2 } }
       decide ((fatal 1 5 s).mode.bootHalt = true ∧ (fatal 1 5 s).mode.mode = .boot)) ].all id = true := by decide +kernel

/-- The supply in a phase, with VDD_IO or without. -/
def supply (p : PowerPhase) (io : Bool) (s : State) : State := { s with power := { s.power with phase := p, vddIo := io } }

theorem test_witness_PowerEventsAct :
    [ (let s := supply .down false (chip .off)
       leaves (.powerUp 0 false .good) s (fun t => decide (t.power.vddIo = true ∧ t.power.vbat = false ∧ t.power.vddCore = 750 ∧ t.power.phase = .inReset .powerOn))
         && leaves (.powerUp 0 true .noRef) s (fun t => decide (t.power.phase = .waitRef ∧ t.power.vbat = true))
         && leaves (.powerUp 0 true .wrongIo) s (fun t => decide (t.power.phase = .staysDown ∧ t.power.pwrFaultN = true))),
      (let s := supply .waitRef true (chip .off)
       occursB (.refClkArrival 0) 0 s { aft 0 s with power := { s.power with phase := .inReset .powerOn, ref := .locked } }),
      leaves (.mainPowerLost 0 false) (chip .activeN) (fun t => decide (t.power.phase = .down ∧ t.power.vddIo = false ∧ t.power.resetOutN = false ∧ t.mode.mode = .off)
        && decide (t.time.mer.battery = none ∧ t.compat.profile = false ∧ t.integ.candidates = [] ∧ t.chord.twin.genHigh = 0)),
      leaves (.pwrReqFall 0) (chip .activeN) (fun t => decide (t.power.phase = .down ∧ t.power.resetOutN = false ∧ t.mode.mode = .off)),
      leaves (.railFault 5 .core) (chip .activeN) (fun t => decide (t.mode.mode = .off ∧ t.power.faults = [5] ∧ t.power.phase = .faultWait 5)),
      (let s := { chip .activeN with power := { (chip .activeN).power with faults := [1, 2] } }
       leaves (.railFault 5 .io) s (fun t => decide (t.power.faults = [1, 2, 5] ∧ t.power.phase = .staysDown))
         && leaves (.thermalShutdown 5) s (fun t => decide (t.mode.mode = .off ∧ t.power.faults = [1, 2, 5] ∧ t.power.phase = .staysDown))),
      (let s := chip .activeN; occursB (.thermalAlert 0 true) 0 s { aft 0 s with power := { s.power with thermAlert := true } }),
      (let s := chip .activeN
       leaves (.converterRailFault 0 true) s (fun t => decide (t.power = { s.power with convOff := 2 })
         && (List.range 8).all (fun k => t.integ.sectorsFailed.getLsbD k == decide (k / 4 = 1)))),
      (let s := supply (.faultWait 0) true (chip .off)
       occursB (.railFaultRestart secTicks .good) secTicks s (bringUp .good (aft secTicks s))),
      (let s := chip .activeN; let l := [(Rail.core, RegulatorRead.silent), (Rail.rfA, RegulatorRead.fault)]
       occursB (.pmbAlert 0 l) 0 s (readRegulators l (aft 0 s)) && occursB (.railPoll 0 l) 0 s (readRegulators l (aft 0 s))),
      (let s := { chip .activeN with power := { (chip .activeN).power with vddCore := 849 } }
       occursB (.avsMonitorTick 0 (some 9) true) 0 s { aft 0 s with power := { s.power with vddCore := 850 } }),
      (let s := { chip .activeN with power := { (chip .activeN).power with vddCore := 651 } }
       occursB (.avsMonitorTick 0 none true) 0 s { aft 0 s with power := { s.power with vddCore := 650 } }),
      (let s := chip .activeN; leaves (.refClkLost 0) s (fun t => decide (t.power = { s.power with ref := .lost }) && t.time.mer.refLost && holdover t.time.mer)),
      (let s := { chip .activeN with power := { (chip .activeN).power with ref := .lost } }
       occursB (.refClkRelock 0) 0 s { aft 0 s with power := { s.power with ref := .slewing } }),
      (let s := { chip .activeN with power := { (chip .activeN).power with ref := .slewing } }
       leaves (.relockSlewComplete 0) s (fun t => decide (t.power = { s.power with ref := .locked }) && !t.time.mer.refLost)) ].all id = true := by decide +kernel

def goodBist : BistResult := { rows := [], facets := [], spares := [], logic := [], lanes := [], decoders := [], sectors := [], ports := [], katOk := true, digestOk := true }

/-- The boot ROM's registers. -/
def booting (f : BootRegs → BootRegs) (s : State) : State := { s with host := { s.host with boot := f s.host.boot } }

theorem test_witness_ResetAndBootAct :
    [ (let s := chip .activeN
       occursB (.pwronRst 0 100 true) 0 s { aft 0 s with power := { s.power with phase := .inReset .pwronRst, resetOutN := false } }
         && occursB (.sysRst 0 1000 false) 0 s { aft 0 s with power := { s.power with phase := .inReset .sysRst, resetOutN := false } }),
      (let s := { supply (.inReset .sysRst) true (chip .activeN) with compat := { (chip .activeN).compat with profile := true } }
       leaves (.resetRelease 9) s (fun t => decide (t.mode.mode = .boot ∧ t.mode.trans = none ∧ t.mode.lifecycle = s.mode.lifecycle ∧ t.mode.releasedAt = 9)
         && decide (t.power.phase = .running ∧ t.power.resetOutN = true ∧ t.cfg = CfgState.reset ∧ t.jobs = JobState.reset ∧ t.host.queues = [] ∧ t.host.rings = [])
         && decide (t.ctr = [] ∧ t.sw = SwState.reset ∧ t.mesh = MeshState.reset ∧ t.compat.inForce = true)
         && decide (t.mode.failedResets = if reachesPorts .sysRst then 0 else s.mode.failedResets))),
      leaves (.driveImageVerified (ms 200) []) (chip .boot) (fun t => decide (t.mode.mode = .selftest ∧ t.mode.enteredAt = ms 200 ∧ t.fw.runVersion = 0x03040000)
        && t.power.drivesReleased && t.keys.perim.lock),
      (let s := chip .boot
       leaves (.driveImageTimeout (ms 200)) s (fun t => decide (t.mode.mode = .boot ∧ t.host.boot = { s.host.boot with hostPhase := true }) && t.power.drivesReleased)),
      (let s := booting (fun b => { b with hostPhase := true, verifying := some { since := 0, addr := 0x1000, len := 4 } }) (chip .boot)
       leaves (.hostImageVerified (ms 200) 0x03050000 5 []) s (fun t => decide (t.mode.mode = .selftest ∧ t.fw.runVersion = 0x03050000 ∧ t.fw.runCompat = 5))
         && occursB (.hostImageTimeout (ms 200)) (ms 200) s (booting (fun b => { b with verifying := none }) (aft (ms 200) s))),
      (let s := chip .boot
       occursB (.bootImageDeadline (60 * secTicks)) (60 * secTicks) s { aft (60 * secTicks) s with mode := { s.mode with bootHalt := true } }),
      (let s := chip .selftest
       occursB (.selftestComplete (ms 2500) goodBist) (ms 2500) s (selftestDone goodBist (aft (ms 2500) s))),
      (let s := { chip .selftest with mode := { (chip .selftest).mode with failedResets := 1 } }
       occursB (.selftestTimeout (ms 2500)) (ms 2500) s
         { aft (ms 2500) s with mode := { s.mode with failedResets := 2 }, power := { s.power with phase := .inReset .internal } }),
      (let s0 := withJob 0x010D (withSet { fwSet with state := .loaded } (chip .config))
       let s := { s0 with keys := { s0.keys with authorities := [(19, List.replicate 48 1)] } }
       imgUsable s (some 3) && leaves (.fwVerifyDone 0 (some 3) 0x03060000 4 true false) s (fun t => decide (t.jobs.completed.head?.map (fun x => (x.handle, x.status)) = some (1, .ok))
           && decide (t.fw.staged = { s.fw.staged with version := 0x03060000, compat := 4, apex := true, facet := false, state := .verified }))
         && leaves (.fwVerifyDone 0 none 0x03060000 4 true false) s (fun t => decide (t.jobs.completed.head?.map (fun x => (x.handle, x.status)) = some (1, .authFail)))),
      (let s := withJob 0x010D (chip .config)
       leaves (.fwVerifyDone 0 (some 3) 0x03060000 4 true false) s (fun t => decide (t.fw = s.fw)
         && decide (t.jobs.completed.head?.map (fun x => (x.handle, x.status)) = some (1, .notFound)))),
      (let s := { chip .config with fw := { (chip .config).fw with restart := some (1, 0) } }
       leaves (.apexRestartComplete (ms 300)) s (fun t => t.host.serving && decide (t.fw = { s.fw with runVersion := s.fw.inForce.version, runCompat := s.fw.inForce.compat, restart := none }))),
      (let s := { chip .off with power := { (chip .off).power with tap := .debug } }
       occursB (.tapOperation 0 .reset) 0 s { aft 0 s with power := { s.power with tap := .idcode } }
         && occursB (.tapOperation 0 (.shiftInstr .ac)) 0 s { aft 0 s with power := { s.power with tap := .ac } }
         && occursB (.tapOperation 0 .shiftData) 0 s { aft 0 s with out := [.tdo 0] }),
      (let s := chip .config; occursB (.tapOperation 0 .shiftData) 0 s { aft 0 s with out := [.tdo 0x2964054F] }),
      (let s := supply .down false (chip .off); occursB (.tapOperation 0 .reset) 0 s (aft 0 s)) ].all id = true := by decide +kernel
/-! ### Host registers and host links -/

/-- Queue 15 of H1 in a state, changed. -/
def q15 (st : QState) (f : Queue → Queue) (s : State) : State :=
  { s with host := { s.host with queues := [(15, f { Queue.reset with owner := some .h1, qstate := st, sqHead := 3, cqTail := 300 })] } }

/-- The command leaves queue 15 as given, and only what a completion may change besides. -/
def leaves15 (c : Instr) (s : State) (f : Queue → Queue) : Bool :=
  leaves c s (fun t => decide (queueOf t 15 = f (queueOf s 15)) && onlyB 15 s t)

theorem test_witness_QueueRegistersAct :
    [ (let s := q15 .running id (chip .service); mqAnswers s .h1 15 && leaves15 (.mqSqTailWrite .h1 15 259) s (fun x => { x with sqTail := 259 })),
      (let s := q15 .running id (chip .service); leaves15 (.mqSqTailWrite .h1 15 260) s (fun x => { x with dbErr := true })),
      (let s := q15 .running id (chip .quiescent)
       leaves (.mqSqTailWrite .h1 15 4) s (fun t => decide ((queueOf t 15).sqTail = 4) && decide (t.mode.trans.map (fun y => (y.row, y.wake)) = some (15, some 0)))),
      (let s := q15 .halted id (chip .service); leaves15 (.mqCqHeadWrite .h1 15 44) s (fun x => { x with cqHead := 44 })
        && leaves15 (.mqCqHeadWrite .h1 15 43) s (fun x => { x with dbErr := true })),
      (let s := q15 .disabled id (chip .service); leaves15 (.mqCtrlEnable .h1 15 0x831F0001) s
         (fun x => { x with enable := true, qstate := .running, sqHead := x.sqTail, cqTail := x.cqHead, prio := 3, vector := 31, irqEn := true })),
      (let s := q15 .running (fun x => { x with enable := true }) (chip .service)
       leaves (.mqCtrlDisable .h1 15 0x00010001) s (fun t => decide (queueOf t 15 = { queueOf s 15 with enable := false, qstate := .draining, vector := 1, irqEn := true }))),
      (let s := q15 .halted (fun x => { x with enable := true }) (chip .service)
       leaves (.mqCtrlDisable .h1 15 0x00010001) s (fun t => decide (queueOf t 15 = { queueOf s 15 with enable := false, qstate := .disabled, vector := 1, irqEn := true }))),
      (let s := q15 .disabled (fun x => { x with cache := [oldReply] }) (chip .service); leaves15 (.mqSeqNextWrite .h1 15 0x1FFFF) s (fun x => { x with seqNext := 0xFFFF, cache := [] })
         && leaves15 (.mqRelease .h1 15 0) s (fun x => { x with owner := none })),
      (let s := q15 .running id (chip .service); leaves15 (.mqSeqNextWrite .h1 15 9) s id),
      (let s := q15 .disabled (fun x => { x with owner := none }) (chip .service); leaves15 (.mqClaim .h0 15 1) s (fun x => { x with owner := some .h0 })),
      (let s := q15 .disabled id (chip .service)
       [.mqCqHeadWrite .h0 15 9, .mqSeqNextWrite .h0 15 9, .mqRelease .h0 15 0].all (fun c => leaves15 c s (fun x => { x with foreignWrite := true }))) ].all id
      = true := by decide +kernel

/-- Ring 3, changed. -/
def ring3 (f : EventRing → EventRing) (s : State) : State := { s with host := { s.host with rings := [(3, f EventRing.reset)] } }

theorem test_witness_RingRegistersAct :
    [ (let s := ring3 (fun r => { r with owner := some .h1, enable := true, prod := 4096 }) (chip .service)
       evAnswers s .h1 3 && leaves (.evConsWrite .h1 3 0) s (fun t => decide (ringOf t 3 = { ringOf s 3 with cons := 0 }))
         && leaves (.evCtrlRelease .h1 3 0x00020001) s (fun t => decide (ringOf t 3 = { ringOf s 3 with owner := none, enable := false, vector := 2, irqEn := true }))
         && leaves (.evCtrlEnable .h1 3 0x00020005) s (fun t => decide (ringOf t 3 = { ringOf s 3 with enable := false, vector := 2, irqEn := true }))),
      (let s := ring3 id (chip .service)
       decide (ringOwnerField 0x80000002 = portCode .h0) && leaves (.evCtrlClaim .h0 3 0x80000002) s (fun t => decide (ringOf t 3 = { ringOf s 3 with owner := some .h0, enable := true }))),
      (let s := chip .boot
       leaves (.bootDoorbell .h0 1) s (fun t => decide (t = { s with out := [], host := { s.host with boot := { s.host.boot with doorbellHeld := true } } }))),
      (let s := booting (fun b => { b with hostPhase := true, len := 0x00800000, addr := 0x1000 }) (chip .boot)
       leaves (.bootDoorbell .h0 1) s (fun t => decide (t.host.boot = { s.host.boot with verifying := some { since := 0, addr := 0x1000, len := 0x00800000 } }))) ].all id
      = true := by decide +kernel

/-- A port down since the start. -/
def down (p : HostPort) (s : State) : State := setPort p { portOf s p with linkUp := false, downAt := some 0 } s

theorem test_witness_HostLinkEventsAct :
    [ (let s := chip .config; served s 0 && leaves (.commandFetchFailed 0 0 none) s (fun t => decide (queueOf t 0 = { queueOf s 0 with fetchErr := true, qstate := .halted }))),
      (let s := q15 .draining id (chip .service)
       leaves (.completionWriteFailed 0 15) s (fun t => decide (queueOf t 15 = { queueOf s 15 with cqWriteErr := true, qstate := .halted }))),
      (let s := chip .activeN
       leaves (.hostLinkDown 4 .h0) s (fun t => decide (t = { aft 4 s with host := t.host } ∧ portOf t .h0 = { portOf s .h0 with linkUp := false, downAt := some 4 }))
         && leaves (.perst 4 .h1) s (fun t => decide (t = { aft 4 s with host := t.host } ∧ portOf t .h1 = { portOf s .h1 with linkUp := false, downAt := some 4, msixTable := [] }))),
      (let s := down .h1 (chip .activeN)
       !portFailed s 0x81 && leaves (.hostLinkReturn 4 .h1) s (fun t => (portOf t .h1).linkUp && decide ((portOf t .h1).downAt = none ∧ queueOf t 0 = queueOf s 0))),
      (let s := down .h1 (chip .activeN)
       leaves (.hostPortLossTimeout (ms 100 + 1) .h1) s (fun t => decide ((portOf t .h1).held = [] ∧ (portOf t .h1).downAt = none)
         && decide ((queueOf t 0).enable = false ∧ (queueOf t 0).qstate = .draining ∧ (queueOf t 0).losing = true))),
      (let s := q15 .halted (fun x => { x with enable := true }) (chip .activeN)
       leaves (.functionLevelReset 0 .h1) s (fun t => decide ((queueOf t 15).enable = false ∧ (queueOf t 15).owner = none))),
      (let s := q15 .draining (fun x => { x with losing := true }) (chip .service)
       leaves15 (.queueDrainDone 0 15) s (fun x => { x with qstate := .disabled, losing := false, owner := none })),
      (let s := q15 .draining id (chip .service); leaves15 (.queueDrainDone 0 15) s (fun x => { x with qstate := .disabled })) ].all id = true := by decide +kernel

/-- The UR-340 interface in force. -/
def ur (f : CompatState → CompatState) (s : State) : State := { s with compat := f { s.compat with inForce := true } }

def putsUr (c : Instr) (s : State) (f : CompatState → CompatState) : Bool := leaves c s (fun t => decide (t = { s with out := [], compat := f s.compat }))

theorem test_witness_UrRegistersAct :
    [ (let s := ur id (chip .activeC); urAnswers s && putsUr (.urCtrlRun 3) s (fun c => { c with run := true, irqEn := true })
         && putsUr (.urCmdTailWrite 0x1FFFF) s (fun c => { c with cmdTail := 0xFFFF }) && putsUr (.urRspHeadWrite 7) s (fun c => { c with rspHead := 7 })
         && putsUr (.urEvtHeadWrite 7) s (fun c => { c with evtHead := 7 }) && putsUr (.extUnlock 0x5348554D) s (fun c => { c with extOpen := true })
         && putsUr (.extUnlock 0x5348554C) s id && putsUr (.extFeaturesWrite 0x1FF) s id),
      (let s := ur (fun c => { c with extOpen := true, features := 1 }) (chip .activeC); putsUr (.extFeaturesWrite 0xFF02) s (fun c => { c with features := 0x103 })),
      (let s := ur (fun c => { c with cmdTail := 5, cmdHead := 4, rspTail := 3 }) (chip .activeC)
       putsUr (.urRingReset 5) s (fun c => { c with run := true, cmdTail := 0, cmdHead := 0, rspTail := 0 })),
      (let s := down .h0 (ur (fun c => { c with run := true }) (chip .activeC))
       occursB (.urH0LinkTimeout (ms 100 + 1)) (ms 100 + 1) s { aft (ms 100 + 1) s with compat := { s.compat with run := false } }) ].all id = true := by decide +kernel
/-! ### Time -/

def mer (f : Meridian → Meridian) (s : State) : State := { s with time := { s.time with mer := f s.time.mer } }
def touts (n : Nat) (x : Tout) (s : State) : State := { s with time := { s.time with tout := [(n, x)] } }
def tins (n : Nat) (x : Tin) (s : State) : State := { s with time := { s.time with tin := [(n, x)] } }
def arcs (n : Nat) (x : ArcCh) (s : State) : State := { s with time := { s.time with arc := [(n, x)] } }

/-- ONE_SHOT at 1 s, 5 ns wide. -/
def shot : ToutSet := { ToutSet.reset with cfg := 1, startSec := 1, widthNs := 5 }

theorem test_witness_BlockCommitsAct :
    [ (let s := mer (fun m => { m with stRate := BitVec.ofInt 40 (-140737488355), stHold := true, adjMode := 1, adjNs := 5 }) (chip .config)
       decide (firstFailing (merChecks s.time.mer) = none) && leaves (.merCommitGo .h1 0x80000000) s (fun t => t.time.mer.commit.busy && t.time.mer.hold
         && decide ((t.time.mer.baseT : Int) = newBase s.time.mer ∧ t.time.mer.baseC = s.time.mer.c ∧ t.time.mer.rate = -140737488355 ∧ t.time.mer.adjMode = 0))),
      (let s := mer (fun m => { m with rate := -3, hold := true, adjMode := 2, adjNs := 5, adjSec := 6 }) (chip .config)
       leaves (.merCommitDiscard .h0 0x40000000) s (fun t => decide (t.time.mer.stRate = BitVec.ofInt 40 (-3) ∧ t.time.mer.stHold = true ∧ t.time.mer.adjMode = 0)
         && decide (t.time.mer.adjNs = 0 ∧ t.time.mer.adjSec = 0 ∧ t.time.mer.baseT = s.time.mer.baseT))),
      (let s := touts 7 { Tout.reset with staged := shot } (chip .config)
       decide (firstFailing (toutChecks s (toutOf s 7).staged) = none) && leaves (.toutCommitGo .h1 7 0x80000000) s (fun t =>
         decide ((toutOf t 7).live = shot ∧ (toutOf t 7).commit.busy = true ∧ (toutOf t 7).next = some 1000000000 ∧ toutOf t 6 = toutOf s 6))),
      (let s := touts 7 { Tout.reset with staged := { shot with cfg := 0 }, next := some 4 } (chip .config)
       leaves (.toutCommitGo .h1 7 0x80000000) s (fun t => decide ((toutOf t 7).commit.busy = true ∧ (toutOf t 7).next = none))),
      (let s := tins 7 { Tin.reset with staged := 3 } (chip .config)
       leaves (.tinCommitGo .h1 7 0x80000000) s (fun t => decide ((tinOf t 7).live = 3 ∧ (tinOf t 7).commit.busy = true))),
      (let s := arcs 31 { ArcCh.reset with staged := { ArcSet.reset with top := 9, phase := 9 }, armed := true } (chip .config)
       decide (firstFailing (arcChecks (arcOf s 31).staged) = none) && leaves (.arcCommitGo .h1 31 0x80000000) s (fun t =>
         decide ((arcOf t 31).live = (arcOf s 31).staged ∧ (arcOf t 31).commit.busy = true ∧ (arcOf t 31).armed = false))),
      (let s := touts 7 { Tout.reset with staged := shot } (chip .config)
       leaves (.blockCommitDiscard .h1 (0x0100 + 0x40 * 7 + 0x2C) 0x40000000) s (fun t => decide ((toutOf t 7).staged = ToutSet.reset ∧ (toutOf t 7).live = ToutSet.reset))),
      (let s := mer (fun m => { m with commit := { BlockCommit.reset with busy := true } }) (chip .config)
       leaves (.blockCommitComplete 0 0x0040) s (fun t => !t.time.mer.commit.busy
         && decide (t = { s with out := [], time := { s.time with mer := { s.time.mer with commit := t.time.mer.commit } } }))) ].all id = true := by decide +kernel

theorem test_witness_TimeAccessesAct :
    [ (let s := tins 7 { Tin.reset with fifo := [(5, true), (6, false)] } (chip .config)
       leaves (.tinCapPop .h1 7) s (fun t => decide ((tinOf t 7).fifo = [(6, false)]))),
      (let s := { chip .config with time := { (chip .config).time with tsq := [(0x41, { Tsq.reset with fifo := [(5, 1), (6, 2)] })] } }
       decide ((ptpOf s 0x41).mode ≠ 3) && leaves (.tsqPop .h1 0x41) s (fun t => decide ((tsqOf t 0x41).fifo = [(6, 2)]))),
      (let s := arcs 31 { ArcCh.reset with cap := 0x500000007, capValid := true } (chip .config)
       leaves (.arcCapRead .h1 31) s (fun t => !(arcOf t 31).capValid && t.out.contains (.regRead 7))),
      (let s := { arcs 31 { ArcCh.reset with live := { ArcSet.reset with phase := 4, top := 9 } } (chip .config) with time := { (arcs 31 { ArcCh.reset with live := { ArcSet.reset with phase := 4, top := 9 } } (chip .config)).time with arcReserved := 1 } }
       leaves (.arcStart .h1 0x80000001) s (fun t => (arcOf t 31).running && decide ((arcOf t 31).count = 4 ∧ arcOf t 0 = { arcOf s 0 with foreignWrite := true } ∧ arcOf t 1 = arcOf s 1))
         && [.arcCmpHiWrite .h1 0 9, .arcArm .h1 0 1, .arcCommitGo .h1 0 0x80000000].all (fun c =>
              leaves c s (fun t => decide (arcOf t 0 = { arcOf s 0 with foreignWrite := true })))),
      (let s := arcs 31 { ArcCh.reset with running := true, cmpLo := 3 } (chip .config)
       leaves (.arcStop .h1 0x80000000) s (fun t => decide (arcOf t 31 = { arcOf s 31 with running := false }))
         && leaves (.arcCmpHiWrite .h1 31 2) s (fun t => decide ((arcOf t 31).cmp = 0x200000003)) && leaves (.arcArm .h1 31 1) s (fun t => (arcOf t 31).armed)),
      (let e := cmd [1, 0, 0x58, 2]; let s := chip .config
       cmdRunsB (.timeServoSet e) s && leaves (.timeServoSet e) s (fun t => answeredB e .ok 0 [] t && decide (t.time.mer.holdTimeout = 600 ∧ t.time.mer.ownerSet = true ∧ t.time.mer.ownerFw = true))),
      (let e := cmd [0x41, 3, 9]; let s := chip .config
       cmdRunsB (.timePtpPortSet e) s && leaves (.timePtpPortSet e) s (fun t => answeredB e .ok 0 [] t && decide (ptpOf t 0x41 = { ptpOf s 0x41 with mode := 3, domain := 9 } ∧ ptpOf t 0 = ptpOf s 0))),
      (let e := cmd [0x41]; let s := { chip .config with time := { (chip .config).time with ptp := [(0x41, { PtpPort.reset with mode := 2, peerDelay := -1 })] } }
       doesB (.timePtpPortGet e) e s ([0x41, 2, 0] ++ List.replicate 8 0xFF) s),
      (let e := cmd (leBytes 2 0xFFFF ++ [0, 0] ++ leBytes 2 70 ++ leBytes 2 18)
       let s := { tins 7 { Tin.reset with overflow := 8 } (chip .config) with ctr := [(ctrKey .time 0 5, 3)] }
       doesB (.timeCountersGet e) e s (((List.range 18).map (fun i => leBytes 4 (timeCtrRead s (70 + i)))).flatten) s && decide (timeCtrRead s 78 = 8 ∧ timeCtrRead s 87 = 3)) ].all id
      = true := by decide +kernel

theorem test_witness_TimeEventsAct :
    [ (let s := touts 7 { Tout.reset with live := shot, next := some 5 } (chip .config)
       decide (5 ≤ nowNs (aft 4 s)) && leaves (.toutEdge 4 7) s (fun t => decide ((toutOf t 7).pulseEnd = some 8))),
      (let s := touts 7 { Tout.reset with live := shot, pulseEnd := some 4, next := some 5 } (chip .config)
       leaves (.toutEdge 4 7) s (fun t => decide ((toutOf t 7).pulseEnd = none ∧ (toutOf t 7).next = some 5))),
      (let s := tins 7 { Tin.reset with live := 1, fifo := [(1, true), (2, true), (3, true)] } (chip .config)
       edgeTaken 1 true && leaves (.tinEdgeCapture 4 7 true) s (fun t => decide ((tinOf t 7).fifo.length = 4 ∧ (tinOf t 7).fifo.drop 3 = [((merTimeAgo (aft 4 s).time.mer 0 / 65536).toNat, true)]))),
      (let s := arcs 31 { ArcCh.reset with running := true, armed := true, stale := false, cmp := 0, live := { ArcSet.reset with cfg := 2 } } (chip .config)
       arcMatches (arcOf (aft 0 s) 31) && leaves (.arcMatch 0) s (fun t => (arcOf t 31).matched && (arcOf t 31).armed)),
      (let s := arcs 31 { ArcCh.reset with live := { ArcSet.reset with capcfg := 0x11 } } (chip .config)
       edgeTaken 1 true && leaves (.arcCapture 0 31 true) s (fun t => decide ((arcOf t 31).edges = 1) && (arcOf t 31).capValid)),
      (let s := chip .config
       occursB (.slowClockCalibrated 0 800000000) 0 s { aft 0 s with time := { s.time with mer := { s.time.mer with slowRatio := 800000000 * 512, slowCalValid := true } } }),
      (let s := chip .config
       occursB (.batteryClockWrite 7) 7 s { aft 7 s with time := { (aft 7 s).time with mer := { (aft 7 s).time.mer with battery := some (merTime (aft 7 s).time.mer * 32768 / secUnits, 7) } } }),
      (let s := mer (fun m => { m with slowCalValid := true }) (chip .config)
       mayGate s && occursB (.clkTimeGate 0) 0 s { aft 0 s with time := { s.time with mer := { s.time.mer with gated := true } } }),
      (let s := mer (fun m => { m with gated := true, fracTicks := 9 }) (chip .config)
       leaves (.clkTimeUngate 0 3) s (fun t => !t.time.mer.gated && t.time.mer.madeUp && decide (t.time.mer.c = BitVec.ofNat 64 ((3 * s.time.mer.slowRatio + 9) / 2 ^ 24)))),
      (let s := mer (fun m => { m with ownerFw := true, holdTimeout := 1 }) (chip .config)
       decide (holdTimeoutTicks s.time.mer = ms 100) && leaves (.servoSyncTimeout (ms 100)) s (fun t => t.time.mer.servoLost && holdover t.time.mer)) ].all id = true := by decide +kernel
/-! ### Ports, switch and tables -/

/-- A FORWARD-able host frame of 64 bytes behind its transmit header. -/
def oneFrame : List Byte := leBytes 16 64 ++ zeros 64

theorem test_witness_SwitchCommandsAct :
    [ (let e := cmd [0x41, 0]; cmdRunsB (.portStatus e) (chip .config) && isMac 0x41),
      (let e := cmd (leBytes 2 0x41 ++ leBytes 2 1 ++ leBytes 2 44 ++ leBytes 2 0); let s := ctrAdd .port 0x41 44 9 (chip .config)
       cmdRunsB (.portCountersGet e) s && leaves (.portCountersGet e) s (fun t => answeredB e .ok 0 (leBytes 8 9) t
         && onlyB 0 { s with ctr := t.ctr, sw := (accruePause 0x41 (started e s)).sw } t && decide (ctrGet t .port 0x41 44 = 0))),
      (let e := cmd [0x3F, 0, 0x81, 0]; let s := chip .activeN
       cmdRunsB (.swQueueFlush e) s && egressOk s 0x3F && leaves (.swQueueFlush e) s (fun t => decide (t.sw.flushes.map (fun f => (f.port, f.mask, f.cmd)) = [(0x3F, 0x81, some (cmdOf 0x020D e))]))),
      (let e := cmd [0x3F, 0, 1]; let s := { chip .config with sw := { (chip .config).sw with hwm := [(8 * 0x3F + 7, 9)] } }
       cmdRunsB (.swQueueStatus e) s && leaves (.swQueueStatus e) s (fun t => onlyB 0 { s with sw := { s.sw with hwm := t.sw.hwm } } t
         && decide (Sparse.get (fun _ => 0) t.sw.hwm (8 * 0x3F + 7) = 0) && decide (((queueOf t 0).cache.head?.map (fun r => slice r.body 280 40)) = some (queueStatusBytes s 0x3F 7)))),
      (let e := cmd (leBytes 2 hostPort ++ leBytes 2 1 ++ leBytes 2 120 ++ leBytes 2 9); let s := ctrAdd .queue hostPort 120 6 (chip .config)
       cmdRunsB (.swCountersGet e) s && egressOk s hostPort && leaves (.swCountersGet e) s (fun t => answeredB e .ok 0 (leBytes 8 6 ++ zeros 64) t
         && onlyB 0 { s with ctr := t.ctr } t && decide (ctrGet t .queue hostPort 120 = 0))),
      (let e := cmd oneFrame; let s := chip .activeN
       cmdRunsB (.portHostTx e) s && decide (txList e.req = some [0]) && txGood s e.req 0 && leaves (.portHostTx e) s (fun t =>
         answeredB e .ok 0 (leBytes 4 1 ++ leBytes 4 0) t && decide ((ingressList t hostPort).map (·.bytes) = [zeros 64]))),
      (let e := cmd (leBytes 8 0x5000 ++ leBytes 2 4096 ++ leBytes 2 10240 ++ [31, 3]); let s := chip .config
       cmdRunsB (.portHostRxSet e) s && leaves (.portHostRxSet e) s (fun t => answeredB e .ok 0 [] t && onlyB 0 { s with sw := { s.sw with ring := t.sw.ring } } t
         && decide (t.sw.ring.enable = true ∧ t.sw.ring.base = 0x5000 ∧ t.sw.ring.entries = 4096 ∧ t.sw.ring.size = 10240 ∧ t.sw.ring.vector = 31 ∧ t.sw.ring.port = .h1))),
      (let e := cmd (leBytes 4 7); let s := { chip .config with sw := { (chip .config).sw with ring := { HostRing.reset with written := 7, consumed := 3 } } }
       cmdRunsB (.portHostRxRelease e) s && leaves (.portHostRxRelease e) s (fun t => answeredB e .ok 0 (leBytes 4 7 ++ leBytes 4 7 ++ zeros 8) t
         && onlyB 0 { s with sw := { s.sw with ring := { s.sw.ring with consumed := 7 } } } t)) ].all id = true := by decide +kernel

/-- A classification entry at a place: stage, place, key, mask, action with VALID. -/
def clsReq (stage place : Nat) : List Byte := leBytes 4 stage ++ leBytes 4 place ++ zeros 40 ++ zeros 40 ++ leBytes 16 (2 ^ 127 + 5)

def ternary (s : State) : State := live [(0x0605, 1, 0, 3), (0x0605, 5, 4095, 2 ^ 127 + 5)] s

theorem test_witness_ClassificationCommandsAct :
    [ (let e := cmd (leBytes 2 0x0605 ++ leBytes 2 1 ++ zeros 4 ++ [1, 0, 1, 0, 3, 0, 0, 0]); let s := chip .config
       cmdRunsB (.clsStageSet e) s && leaves (.clsStageSet e) s (fun t => answeredB e .ok 0 [] t && decide (cfgStaged t 0x0605 1 0 = 3) && decide (t.cfg.live = s.cfg.live))),
      (let e := cmd (clsReq 5 4095); let s := ternary (chip .config)
       (match writeEntry 0 0x0605 e.req (started e s) with
        | (.ok, d, u) => cmdRunsB (.clsEntryWrite e) s && completesB (.clsEntryWrite e) e s .ok d [] u
        | _ => false)
         && leaves (.clsEntryWrite e) s (fun t => decide (stagedBy t 0x0605 = some 0) && decide (cfgStaged t 0x0605 5 4095 = (reqEntry e.req : Nat)))),
      (let e := cmd ([5, 0] ++ zeros 2 ++ leBytes 4 4095 ++ zeros 80); let s := ternary (chip .config)
       match addressed e.req (cfgNat s 0x0605 1 0) (cfgNat s 0x0605 3 0) (liveEntries s 0x0605) with
       | some (p, x) => doesB (.clsEntryRead e) e s (leBytes 1 5 ++ zeros 3 ++ leBytes 4 p ++ beBytes 40 (entryKey x) ++ beBytes 40 (entryMask x) ++ leBytes 16 (entryAction x)) s
       | none => false),
      (let e := cmd ([5, 1] ++ zeros 2 ++ leBytes 4 4095 ++ zeros 80); let s := ternary (chip .config)
       match addressed e.req (cfgStaged s 0x0605 1 0).toNat (cfgStaged s 0x0605 3 0).toNat (stagedEntries s 0x0605) with
       | some (p, x) => doesB (.clsEntryRead e) e s (leBytes 1 5 ++ zeros 3 ++ leBytes 4 p ++ beBytes 40 (entryKey x) ++ beBytes 40 (entryMask x) ++ leBytes 16 (entryAction x)) s
       | none => false),
      (let e := cmd ([5, 0] ++ zeros 2 ++ leBytes 4 4095 ++ zeros 80); let s := ternary (chip .config)
       cmdRunsB (.clsEntryDelete e) s && leaves (.clsEntryDelete e) s (fun t => answeredB e .ok 0 [] t && decide (cfgStaged t 0x0605 5 4095 = 0 ∧ stagedBy t 0x0605 = some 0))),
      (let e := cmd (leBytes 4 5 ++ clsReq 5 4095); let s := ternary (chip .config)
       match writeEntry 0 0x0605 (e.req.drop 4) (started e s) with
       | (.ok, 0, u) => doesB (.clsEntryBulk e) e s (leBytes 8 1) u
       | _ => false),
      (let e := cmd (leBytes 4 65535 ++ leBytes 4 1 ++ leBytes 4 1 ++ leBytes 4 2 ++ leBytes 4 3 ++ leBytes 4 4 ++ leBytes 8 1); let s := chip .config
       cmdRunsB (.clsMeterSet e) s && spanOk e.req 65536 && leaves (.clsMeterSet e) s (fun t => answeredB e .ok 0 [] t
         && [1, 2, 3, 4].all (fun row => decide (cfgStaged t 0x0606 row 65535 = (row : Int))) && decide (cfgStaged t 0x0606 5 65535 = 1))),
      (let e := cmd (leBytes 4 65535 ++ leBytes 4 1 ++ leBytes 4 1 ++ leBytes 4 2); let s := chip .config
       cmdRunsB (.clsPolicerSet e) s && leaves (.clsPolicerSet e) s (fun t => answeredB e .ok 0 [] t
         && [1, 2].all (fun row => decide (cfgStaged t 0x0607 row 65535 = (row : Int))))),
      (let e := cmd (leBytes 4 65535 ++ leBytes 4 1); let s := chip .config
       doesB (.clsMeterGet e) e s (e.req ++ meterBytes s 65535) s && doesB (.clsPolicerGet e) e s (e.req ++ policerBytes s 65535) s),
      (let e := cmd (leBytes 4 1048575 ++ [1, 0, 1]); let s := ctrAdd .cls 1048575 1 6 (chip .config)
       cmdRunsB (.clsCounterGet e) s && leaves (.clsCounterGet e) s (fun t => answeredB e .ok 0 (ctrBytes s .cls 1048575 0 2) t
         && onlyB 0 { s with ctr := t.ctr } t && decide (ctrGet t .cls 1048575 1 = 0))) ].all id = true := by decide +kernel

/-- An L2 entry with VALID: MAC 2, VLAN 9. -/
def l2Entry : Nat := 2 + 9 * 2 ^ 48 + 2 ^ 91

theorem test_witness_ForwardingCommandsAct :
    [ (let e := cmd ([3, 0] ++ zeros 6 ++ leBytes 24 l2Entry); let s := chip .config
       tableOk e.req && doesB (.fwdEntryWrite e) e s [] (stageOp 0 0x0703 1 l2Entry (started e s))),
      (let e := cmd ([4, 0] ++ zeros 6 ++ leBytes 24 0); let s := chip .config
       doesB (.fwdEntryWrite e) e s [] (stageOp 0 0x0704 2 0 (started e s))),
      (let e := cmd ([3, 0] ++ zeros 6 ++ leBytes 2 9 ++ leBytes 6 2)
       let s0 := chip .config
       let l : L2Entry := { mac := 2, vid := 9, port := 3, static := true, remote := false, origin := 0, hit := false, stamp := 0, damped := false, timeUs := 0, missed := false, moves := [], dampedAt := 0, refreshed := false }
       let s := { s0 with sw := { s0.sw with l2 := [((l2Places 9 2).headD 0, some l)] } }
       match liveTableEntry s 3 (reqTableKey e.req) with
       | some x => doesB (.fwdEntryRead e) e s (leBytes 24 x) s
       | none => false),
      (let e := cmd ([3, 1] ++ zeros 6 ++ leBytes 2 9 ++ leBytes 6 2); let s := staged 0x0703 1 0 ((1 + 4 * l2Entry : Nat) : Int) (chip .config)
       decide (stagedTableEntry s 3 (reqTableKey e.req) = some l2Entry) && doesB (.fwdEntryRead e) e s (leBytes 24 l2Entry) s),
      (let e := cmd ([3, 0] ++ zeros 6 ++ leBytes 2 9 ++ leBytes 6 2); let s := staged 0x0703 1 0 ((1 + 4 * l2Entry : Nat) : Int) (chip .config)
       doesB (.fwdEntryDelete e) e s [] (stageOp 0 0x0703 2 (keyWord 3 (9, 2)) (started e s))),
      (let e := cmd ([3, 0] ++ zeros 6 ++ leBytes 24 l2Entry); let s := chip .config
       doesB (.fwdEntryBulk e) e s (leBytes 8 1) (stageOp 0 0x0703 1 l2Entry (started e s))),
      (let e := cmd (leBytes 4 65535 ++ leBytes 4 1 ++ leBytes 16 77); let s := chip .config
       cmdRunsB (.fwdNexthopSet e) s && leaves (.fwdNexthopSet e) s (fun t => answeredB e .ok 0 [] t && decide (cfgStaged t 0x0702 1 65535 = 77))),
      (let e := cmd (leBytes 4 65535 ++ leBytes 4 1 ++ [0]); let s := live [(0x0702, 1, 65535, 78)] (chip .config); doesB (.fwdNexthopGet e) e s (leBytes 16 78) s),
      (let e := cmd (leBytes 2 4094 ++ [3] ++ zeros 5 ++ leBytes 16 1); let s := chip .config
       cmdRunsB (.fwdVlanSet e) s && leaves (.fwdVlanSet e) s (fun t => answeredB e .ok 0 [] t && decide (cfgStaged t 0x0701 1 4094 = 7 ∧ stagedBy t 0x0701 = some 0))),
      (let e := cmd (leBytes 2 4094); let s := live [(0x0701, 1, 4094, 7)] (chip .config)
       doesB (.fwdVlanGet e) e s (leBytes 2 4094 ++ [3] ++ zeros 5 ++ leBytes 16 1) s),
      (let e := cmd (leBytes 2 3 ++ leBytes 2 9)
       let s0 := chip .config
       let l : L2Entry := { mac := 2, vid := 9, port := 3, static := false, remote := false, origin := 0, hit := false, stamp := 0, damped := false, timeUs := 0, missed := false, moves := [], dampedAt := 0, refreshed := false }
       let s := { s0 with sw := { s0.sw with l2 := [(5, some l), (6, some { l with static := true })] } }
       cmdRunsB (.fwdL2Flush e) s && leaves (.fwdL2Flush e) s (fun t => answeredB e .ok 0 (leBytes 8 1) t && decide (entryAt t.sw.l2 5 = none) && (entryAt t.sw.l2 6).isSome)) ].all id
      = true := by decide +kernel
/-! ### Mesh, nodes and radio -/

theorem test_witness_ScheduleCommandsAct :
    [ (let e := cmd ([1, 0, 0, 0, 15] ++ leBytes 2 1 ++ [0] ++ leBytes 4 868000 ++ [4, 0, 0, 0]); let s := chip .config
       cmdRunsB (.meshScheduleSet e) s && leaves (.meshScheduleSet e) s (fun t => answeredB e .ok 0 [] t
         && decide (cfgStaged t 0x0820 1 15 = 1 ∧ cfgStaged t 0x0820 2 (256 * 15) = (868000 + 4 * 2 ^ 32 : Nat) ∧ stagedBy t 0x0820 = some 0))),
      (let x : List Byte := [63, 1, 101, 0, 7, 15, 0, 0]; let e := cmd ([2, 0, 0, 0] ++ x); let s := chip .config
       cmdRunsB (.meshScheduleSet e) s && decide (entriesBad slotframeBad 4 8 (pieces 8 e.req.length (e.req.drop 4)) = none)
         && leaves (.meshScheduleSet e) s (fun t => answeredB e .ok 0 [] t && decide (cfgStaged t 0x0820 3 63 = (slotframeWord x : Int)))),
      (let e := cmd ([3, 0, 0, 0] ++ leBytes 4 524287 ++ leBytes 4 1 ++ leBytes 16 77); let s := chip .config
       cmdRunsB (.meshScheduleSet e) s && leaves (.meshScheduleSet e) s (fun t => answeredB e .ok 0 [] t && decide (cfgStaged t 0x0820 4 524287 = (linkWord 77 : Int)))),
      (let e := cmd [1, 0, 0, 0, 15, 0, 0, 0]; let s := live [(0x0820, 1, 15, 1), (0x0820, 2, 3840, 9)] (chip .config)
       doesB (.meshScheduleGet e) e s ([1, 0, 0, 0, 15, 1, 0, 0] ++ leBytes 5 9 ++ zeros 3) s),
      (let e := cmd [2, 1, 0, 0]; let s := chip .config
       doesB (.meshScheduleGet e) e s ([2, 0, 0, 0] ++ ((List.range 64).map (fun h => slotframeBytes h (cfgStaged s 0x0820 3 h).toNat)).flatten) s),
      (let e := cmd ([3, 0, 0, 0] ++ leBytes 4 524287 ++ leBytes 4 1); let s := live [(0x0820, 4, 524287, 77)] (chip .config)
       doesB (.meshScheduleGet e) e s ([3, 0, 0, 0] ++ leBytes 4 524287 ++ leBytes 4 1 ++ leBytes 16 77) s),
      (let e := cmd (leBytes 2 1023 ++ leBytes 2 1 ++ [9]); let s := chip .config
       cmdRunsB (.meshPartitionSet e) s && leaves (.meshPartitionSet e) s (fun t => answeredB e .ok 0 [] t && decide (cfgStaged t 0x0824 1 1023 = 9))),
      (let e := cmd [2]; cmdRunsB (.meshPartitionGet e) (chip .config)) ].all id = true := by decide +kernel

/-- A record with its CHECK. -/
def sealed (x : NodeRec) : NodeRec := { x with check := recordCheck x }

/-- Node 262,143, ACTIVE, generation 3, short address 5. -/
def node1 : NodeRec := sealed { NodeRec.reset with eui := 5, state := 1, keyGen := 3 }

def lastNode : Nat := 262143

def withNode (x : NodeRec) (s : State) : State := { s with mesh := { s.mesh with nodes := [(lastNode, x)], shorts := [(lastNode, 6)] } }

set_option maxRecDepth 100000 in
theorem test_witness_NodeCommandsAct :
    [ (let e := cmd (leBytes 4 lastNode ++ leBytes 8 5 ++ leBytes 2 9 ++ [3, 0x0A] ++ leBytes 4 7); let s := chip .config
       cmdRunsB (.meshNodeAdd e) s && leaves (.meshNodeAdd e) s (fun t => answeredB e .ok 0 [] t && decide (shortOf t lastNode = 9) && recordOk? (nodeOf t lastNode)
         && decide (nodeOf t lastNode = { addedRecord e.req Drift.reset with check := (nodeOf t lastNode).check, txLease := (nodeOf t lastNode).txLease }))),
      (let e := cmd (leBytes 4 lastNode ++ leBytes 8 5 ++ leBytes 2 5 ++ [3, 0x1B] ++ leBytes 4 7); let s := withNode node1 (chip .config)
       cmdRunsB (.meshNodeAdd e) s && leaves (.meshNodeAdd e) s (fun t => answeredB e .ok 0 [] t
         && decide (nodeOf t lastNode = { addedRecord e.req node1.drift.cleared with check := (nodeOf t lastNode).check, txLease := (nodeOf t lastNode).txLease }))),
      (let e := cmd (leBytes 4 lastNode); let s := withNode node1 (chip .config)
       decide (nodeState s lastNode = 1) && doesB (.meshNodeDriftGet e) e s (leBytes 28 node1.drift.word) s && doesB (.meshNodeGet e) e s node1.bytes s),
      (let e := cmd (leBytes 4 lastNode); let s := withNode (sealed { node1 with drift := { Drift.reset with x := 5, n := 3 } }) (chip .config)
       cmdRunsB (.meshNodeDriftReset e) s && leaves (.meshNodeDriftReset e) s (fun t => answeredB e .ok 0 [] t && recordOk? (nodeOf t lastNode)
         && decide (nodeOf t lastNode = { nodeOf s lastNode with drift := (nodeOf s lastNode).drift.cleared, check := (nodeOf t lastNode).check })
         && decide (ctrGet t .mac 0 18 = 1))),
      (let e := cmd (leBytes 4 lastNode ++ [1]); let s := withNode node1 (chip .config)
       cmdRunsB (.meshNodeSyncSet e) s && leaves (.meshNodeSyncSet e) s (fun t => answeredB e .ok 0 [] t
         && decide (nodeOf t lastNode = { node1 with drift := { node1.drift with sync := true }, check := (nodeOf t lastNode).check }))),
      (let e := cmd (leBytes 4 lastNode ++ [1]); let s := withNode (sealed { node1 with state := 3, txFc := 0xFFFFEFFF, secFails := 9 }) (chip .config)
       cmdRunsB (.meshNodeStateSet e) s && leaves (.meshNodeStateSet e) s (fun t => answeredB e .ok 0 [] t
         && decide (nodeOf t lastNode = { nodeOf s lastNode with state := 1, secFails := 0, check := (nodeOf t lastNode).check }))),
      (let e := cmd (leBytes 4 lastNode ++ [2]); let s := withNode (sealed { node1 with txFc := 0xFFFFF000 }) (chip .config)
       cmdRunsB (.meshNodeStateSet e) s && leaves (.meshNodeStateSet e) s (fun t => answeredB e .ok 0 [] t && decide ((nodeOf t lastNode).state = 2))),
      (let e := cmd (leBytes 4 lastNode ++ [0]); let s := withNode node1 (chip .config)
       cmdRunsB (.meshNodeRekey e) s && leaves (.meshNodeRekey e) s (fun t => answeredB e .ok 0 (leBytes 4 4) t && (nodeOf t lastNode).rekey)),
      (let e := cmd (leBytes 4 lastNode); let s := withNode node1 (chip .config)
       cmdRunsB (.meshNodeRemove e) s && leaves (.meshNodeRemove e) s (fun t => answeredB e .ok 0 [] t && decide (nodeState t lastNode = 0 ∧ (nodeOf t lastNode).eui = 0)
         && decide (shortOf t lastNode = 0xFFFF ∧ leasePending t lastNode = none))),
      (let e := cmd (leBytes 4 lastNode); let s := withNode node1 (chip .config)
       cmdRunsB (.meshNodeRestore e) s && leaves (.meshNodeRestore e) s (fun t => decide (restoring t lastNode = some (some (cmdOf 0x041A e)) ∧ t.mesh.nodes = s.mesh.nodes))),
      (let e := cmd (leBytes 4 lastNode ++ leBytes 4 1 ++ leBytes 2 0xFFFE); let s := withNode node1 (chip .config)
       cmdRunsB (.meshAddrBulk e) s && leaves (.meshAddrBulk e) s (fun t => answeredB e .ok 0 (leBytes 4 1 ++ zeros 28) t && decide (shortOf t lastNode = 0xFFFE))) ].all id
      = true := by decide +kernel

/-- A slot that holds a key, with its tag. -/
def keySlot (attr : Nat) (key : List Byte) (tag : Nat) : KeySlot :=
  { key := padTo 32 key, attr := BitVec.ofNat 32 attr, tag := beBytes 8 tag, state := .valid }

def withSlots (l : List (Nat × KeySlot)) (s : State) : State := { s with keys := { s.keys with slots := l } }

/-- Records of a sector: one calibration entry, one detector. -/
theorem test_witness_RadioCommandsAct :
    [ (let e := cmd ([7, 1] ++ leBytes 2 2047 ++ leBytes 2 1 ++ zeros 2 ++ List.replicate 8 0xFF); let s := chip .config
       decide (entrySpanBad 2048 false e.req = none) && cmdRunsB (.radioCalWrite e) s && leaves (.radioCalWrite e) s (fun t => answeredB e .ok 0 [] t
         && decide (cfgStaged t 0x0927 1 2047 = (calClean (2 ^ 64 - 1) : Int) ∧ t.radio.calPersist = 128))),
      (let e := cmd ([7, 0] ++ leBytes 2 511 ++ leBytes 2 1 ++ List.replicate 8 0xFF); let s := chip .config
       decide (entrySpanBad 512 false e.req = none) && cmdRunsB (.radioDetectorSet e) s && leaves (.radioDetectorSet e) s (fun t => answeredB e .ok 0 [] t
         && decide (cfgStaged t 0x0947 1 511 = (2 ^ 36 - 1 : Int)))),
      (let e := cmd ([7, 0] ++ leBytes 2 2047 ++ leBytes 2 1); let s := live [(0x0927, 1, 2047, 9)] (chip .config)
       decide (entrySpanBad 2048 true e.req = none) && doesB (.radioCalRead e) e s (leBytes 8 9) s),
      (let e := cmd ([7, 1] ++ leBytes 2 511 ++ leBytes 2 1); let s := staged 0x0947 1 511 8 (chip .config)
       decide (entrySpanBad 512 true e.req = none) && doesB (.radioDetectorGet e) e s (leBytes 8 8) s),
      (let e := cmd (leBytes 2 7 ++ leBytes 2 1 ++ leBytes 2 15 ++ leBytes 2 0); let s := ctrAdd .rx 7 15 9 (chip .config)
       cmdRunsB (.radioRxCountersGet e) s && leaves (.radioRxCountersGet e) s (fun t => answeredB e .ok 0 (leBytes 4 0 ++ leBytes 4 9) t && decide (ctrGet t .rx 7 15 = 0))) ].all id = true := by decide +kernel

def armed : Capture := { frames := false, req := zeros 26, job := 1, phase := 0, at_ := 0, items := [] }

def withCapture (c : Capture) (s : State) : State := { s with radio := { s.radio with capture := some c } }

theorem test_witness_CapturesRun :
    [ (let e := cmd (zeros 8 ++ leBytes 4 123361 ++ zeros 14); let s := chip .activeN
       decide (iqBad e.req = none) && cmdRunsB (.radioIqCapture e) s && leaves (.radioIqCapture e) s (fun t => answeredB e .accepted 0 (leBytes 4 1) t
         && decide (t.radio.capture = some { armed with req := e.req, phase := 1 } ∧ t.jobs.running.map (fun j => (j.handle, j.opcode)) = [(1, 0x0512)]))),
      (let e := cmd ([7, 0] ++ leBytes 2 4096 ++ leBytes 4 0xFFFFFFFF); let s := chip .activeN
       cmdRunsB (.diagFrameCapture e) s && leaves (.diagFrameCapture e) s (fun t => answeredB e .accepted 0 (leBytes 4 1) t
         && decide (t.radio.capture = some { armed with frames := true, req := e.req }))),
      (let e := cmd (leBytes 4 1 ++ leBytes 4 1); let s := withCapture { armed with phase := 2, items := [[1], [2]] } (chip .service)
       cmdRunsB (.radioIqRead e) s && leaves (.radioIqRead e) s (fun t => answeredB e .ok 0 [2] t && decide (t.radio.capture = some { armed with phase := 3, items := [[1], [2]] }))),
      (let e := cmd (leBytes 4 0 ++ leBytes 2 1); let s := withCapture { armed with frames := true, phase := 2, items := [[1], [2]] } (chip .service)
       cmdRunsB (.diagFrameRead e) s && leaves (.diagFrameRead e) s (fun t => answeredB e .ok 0 [1] t && decide (t.radio.capture = s.radio.capture))),
      (let s := withCapture { armed with req := zeros 6 ++ [2] ++ zeros 19 } (chip .activeN)
       leaves (.iqCaptureTrigger 0) s (fun t => decide (t.radio.capture.map (·.phase) = some 1))),
      (let s := withCapture { armed with phase := 1, req := zeros 8 ++ leBytes 4 1 ++ zeros 14 } (chip .activeN)
       leaves (.iqCaptureComplete 3 [(false, []), (true, [(1, 2)])]) s (fun t => decide (t.radio.capture.map (fun c => (c.phase, c.at_, c.items.length)) = some (2, 3, 1)))),
      (let s := withCapture { armed with frames := true, req := zeros 2 ++ leBytes 2 1 ++ zeros 4, items := [[1]] } (chip .activeN)
       frameCaptureFull { armed with frames := true, req := zeros 2 ++ leBytes 2 1 ++ zeros 4, items := [[1]] }
         && leaves (.frameCaptureComplete 3) s (fun t => decide (t.radio.capture.map (fun c => (c.phase, c.at_)) = some (2, 3)))),
      (let s := withCapture { armed with phase := 3 } (chip .activeN)
       leaves (.captureAreaReturn (60 * secTicks)) s (fun t => decide (t.radio.capture = none))) ].all id = true := by decide +kernel
/-! ### The security die -/

/-- A nonce issued and an authority set. -/
def withNonce (k n a : Nat) (s : State) : State :=
  { s with keys := { s.keys with nonce := some (leBytes 16 k, 0), authorities := [(n, beBytes 48 a)] } }

/-- A token of OWNER for SYS_LIFECYCLE_SET. -/
def lifeToken : Nat := 0x0100040102010000000000000000000000000000000000000000000000000000cf0d81c752a6a7460fa79f9cb8c4c48c08799433381642865e3b84cedcc79cdfe189d0c2b95c299a2f6a9d1ec03d84eb0405163b81db67efb2de755035b7b94e2965d474812a28a8ef638bb58272cf9e000db0f623abf295c81cd1ddadf8c14133eb4a6d795c18f9f2574a3feb7132a8ea000000000000000000000000000000000000000000000000000000000000000019e800e855790ada1d5d43f510706232755ddaa838f1ca50690a7bb7fff3854c19e800e855790ada1d5d43f510706232755ddaa838f1ca50690a7bb7fff3854c000000000000000000000000000000000000000000000000000000000000000000000000000000

def lifeChip : State := withNonce 0 1 0x48d226142b13f637a7ae7c84a009dc0ada506921150c6cf9014bb7f6d0f7a4e7d67d4fe61bac2d4b9d9ac040dded69f1 (chip .config)

theorem test_witness_SystemCommandsBegin_lifecycle :
    [ (let e := cmd ([4] ++ zeros 7 ++ beBytes 280 lifeToken)
       cmdRunsB (.sysLifecycleSet e) lifeChip && decide (arrow .deployed .returned = some [2]) && leaves (.sysLifecycleSet e) lifeChip (fun t => answeredB e .ok 0 [] t
         && decide (t.mode.lifecycle = .returned ∧ t.keys.destroyedFor = .returned ∧ t.keys.nonce = none ∧ t.power.phase = .inReset .lifecycle ∧ t.power.resetOutN = false))) ].all id
      = true := by decide +kernel

/-- A record of one sub-band. -/
def regRecord (region : Nat) : List Byte :=
  leBytes 2 1 ++ leBytes 2 region ++ leBytes 2 1 ++ [0, 0, 1] ++ zeros 55 ++ leBytes 20 (10 + 20 * 2 ^ 32 + 2 ^ 80)

def regToken : Nat := 0x0100090502010000000000000000000001000000000000000000000000000000ad18f8c9bbe783b71597d8de261834f85d93ffaab9df92d9388554b39927776d1fa16443e3d2607c1e67a2acf6579eb3044ef510bc506d9fd66d5cd6128d733822d5fdfeb92ac97a61e57c8ead081127938bc4929a7b7a60be09dd9b03d4a6b6ad4b934977f883e3206cefcfe42d75e2890000000000000000000000000000000000000000000000000000000000000000d484e6361e34fa890ad00e20af1550724f96d65e905e91d141b16c80e8e5eb24d484e6361e34fa890ad00e20af1550724f96d65e905e91d141b16c80e8e5eb24000000000000000000000000000000000000000000000000000000000000000000000000000000

theorem test_witness_RadioCommandsAct_write :
    [ (let e := cmd (regRecord 7 ++ zeros 96 ++ beBytes 280 regToken); let s := withLife .provisioned (withNonce 1 1 0xc80eef8127dc34c609306972b608b78a862321150e4b6f280392526fd1f69d6aa25d9652d8bfd8e3f1755c28f7124d32 (chip .config))
       cmdRunsB (.radioRegWrite e) s && recWellFormed (regRecord 7) && leaves (.radioRegWrite e) s (fun t => answeredB e .ok 0 [] t && decide (t.keys.nonce = none)
         && decide (regSlotOf t 0 = some { bytes := regRecord 7, sig := zeros 96, committed := true }))) ].all id = true := by decide +kernel

def regPub : List Byte := beBytes 97 0x0457f090b7fef873ddefd98b1798a2bb9690f05597fd34e74700e3771ec8422a39919b1f036f29723675b74f29b7bda2089c551c77f16bf7b095c622218d46b3014e8fddc1672b48f1381ee1087fcf5d4a7ece7d56a492bcbd998cf9bb23390f1b

def regReq : List Byte := regRecord 1 ++ beBytes 96 0x5a13225eb05211adf41e4ae7237d4b3b71d25f57ea79963249e9319ef0e1153b40a62d253ebd02ef7a025607410ca97a5a13225eb05211adf41e4ae7237d4b3b71d25f57ea79963249e9319ef0e1153b40a62d253ebd02ef7a025607410ca97a ++ regPub

def regChip : State := { chip .service with keys := { (chip .service).keys with authorities := [(2, beBytes 48 0x7d4e61615ff8d9b1fda9fd554e589335cf771ce6401bf424e68d21d016a2851b9daf89938769cea34f0517f688fb214b)] } }

theorem test_witness_RadioCommandsAct_update :
    [ (let e := cmd regReq
       cmdRunsB (.radioRegUpdate e) regChip && leaves (.radioRegUpdate e) regChip (fun t => answeredB e .accepted 0 (leBytes 4 1) t && decide (regSlotOf t 0 = none)
         && decide (t.jobs.running.map (fun j => (j.handle, j.opcode, j.req)) = [(1, 0x050A, regReq)]))),
      (let s := { regChip with jobs := { regChip.jobs with running := [{ job 0x050A with req := regReq }], next := 2 } }
       leaves (.regUpdateDone 0 true) s (fun t => decide (regSlotOf t 0 = some { bytes := regRecord 1, sig := slice regReq 84 96, committed := true })
         && decide (t.jobs.completed.head?.map (fun j => (j.handle, j.status)) = some (1, .ok)))),
      (let s := { chip .service with jobs := { regChip.jobs with running := [{ job 0x050A with req := regReq }], next := 2 } }
       decide (regUpdateFault s regReq = some (.authFail, 0)) && leaves (.regUpdateDone 0 true) s (fun t => decide (regSlotOf t 0 = none)
         && decide (t.jobs.completed.head?.map (fun j => (j.handle, j.status, j.detail)) = some (1, .authFail, 0)))) ].all id = true := by decide +kernel

/-- Attributes of a host AES-256 key with every usage, bound to no life-cycle state, exportable. -/
def aesAttr : Nat := 2 ^ 27 + 0xF * 2 ^ 20 + 2 ^ 17 + 0xFF

def kek : KeySlot := keySlot aesAttr (List.replicate 32 3) 0x64aefca182b86f6f

theorem test_witness_KeySlotCommandsAct :
    [ (let e := cmd (leBytes 2 1023); let s := withSlots [(1023, keySlot aesAttr [1] 0x33c313a65b7bc601)] (chip .config)
       doesB (.keySlotInfo e) e s ([1, 0, 0, 0] ++ leBytes 4 aesAttr) s),
      (let e := cmd (leBytes 2 1023 ++ zeros 2 ++ leBytes 4 aesAttr); let s := chip .config
       decide (targetRefusal s 1023 = none ∧ attrType (reqAttr e.req 4) = 1 ∧ hostAttr (reqAttr e.req 4) = true) && cmdRunsB (.keyGenerate e) s
         && leaves (.keyGenerate e) s (fun t => answeredB e .ok 0 [] t && decide ((slotOf t 1023).key = zeros 32 ∧ (slotOf t 1023).state = .valid))),
      (let e := cmd (leBytes 2 1023 ++ zeros 2 ++ leBytes 4 aesAttr ++ List.replicate 32 5); let s := withLife .provisioned (chip .config)
       cmdRunsB (.keyImportPlain e) s && leaves (.keyImportPlain e) s (fun t => answeredB e .ok 0 [] t && decide ((slotOf t 1023).key = List.replicate 32 5 ∧ (slotOf t 1023).state = .valid))),
      (let e := cmd (leBytes 2 7 ++ leBytes 2 9 ++ leBytes 4 0xFFFFFFFF ++ [1] ++ zeros 55); let s := withSlots [(9, kek)] (chip .config)
       decide (targetRefusal s 7 = none ∧ slotRefusal s 9 0 0x80 = none ∧ attrType (slotOf s 9).attr.toNat = 1) && tagOk s 9 && cmdRunsB (.keyImportWrapped e) s),
      (let e := cmd (leBytes 2 8 ++ leBytes 2 9); let s := withSlots [(8, keySlot aesAttr [1, 2] 0x2172ee08b4510387), (9, kek)] (chip .config)
       decide (slotRefusal s 8 0 0 = none ∧ wrapRefusal s 9 0 = none) && tagOk s 8 && tagOk s 9 && bit (slotOf s 8).attr.toNat 17 && cmdRunsB (.keyExportWrapped e) s),
      (let e := cmd (leBytes 2 9 ++ leBytes 2 10 ++ leBytes 4 aesAttr ++ [32, 1, 1, 0] ++ [4] ++ [5]); let s := withSlots [(9, kek)] (chip .config)
       decide (slotRefusal s 9 0 0x10 = none) && narrower (reqAttr e.req 4) kek.attr.toNat && cmdRunsB (.keyDerive e) s
         && leaves (.keyDerive e) s (fun t => answeredB e .ok 0 [] t && decide ((slotOf t 10).state = .valid))),
      (let e := cmd (leBytes 2 9); let s := withSlots [(9, kek)] (chip .config)
       !masterSlot s 9 && cmdRunsB (.keyErase e) s && leaves (.keyErase e) s (fun t => answeredB e .ok 0 [] t && decide (slotOf t 9 = KeySlot.reset))) ].all id
      = true := by decide +kernel

/-- The export of a node key: node of the last index, its generation's master in slot 8. -/
theorem test_witness_NodeCommandsAct_export :
    [ (let e := cmd (leBytes 4 lastNode ++ [0, 0] ++ leBytes 2 9)
       let s := live [(0x0822, 2, 0, 8)] (withNode node1 (withSlots [(8, keySlot aesAttr [1, 2] 0x2172ee08b4510387), (9, kek)] (chip .config)))
       decide (wrapRefusal s 9 0 = none) && masterUsable s 3 && decide (masterOf s 3 = 8) && tagOk s 8 && tagOk s 9
         && bit (slotOf s 8).attr.toNat 17 && cmdRunsB (.meshNodeKeyExport e) s) ].all id = true := by decide +kernel

def ctx (op : Nat) : KeyCtx :=
  { queue := 0, op, slot := some 9, key := kek.key, prio := 2, tagLen := 0, nonce := zeros 16, message := [1], inSegment := false, closing := false, lastAt := 0 }

def withCtx (n : Nat) (x : KeyCtx) (s : State) : State := { s with keys := { s.keys with contexts := [(n, some x)] } }

theorem test_witness_KeyContextsAct :
    [ (let e := cmd ([5, 3] ++ leBytes 2 9 ++ zeros 20); let s := withSlots [(9, kek)] (chip .config)
       decide (freeContext s = some 2) && cmdRunsB (.keyCtxOpen e) s && leaves (.keyCtxOpen e) s (fun t => answeredB e .ok 0 (leBytes 4 2) t
         && decide (ctxOf t 2 = some { ctx 5 with prio := 3, message := [] }))),
      (let e := cmd ([1, 2] ++ leBytes 2 0xFFFF ++ zeros 20); let s := withCtx 2 (ctx 5) (chip .config)
       decide (freeContext s = some 3) && cmdRunsB (.keyCtxOpen e) s && leaves (.keyCtxOpen e) s (fun t => answeredB e .ok 0 (leBytes 4 3) t
         && decide (ctxOf t 3 = some { ctx 1 with slot := none, key := [], message := [] } ∧ ctxOf t 2 = ctxOf s 2))),
      (let e := cmd ([7, 0, 0, 0] ++ [9, 9]); let s := withCtx 7 (ctx 1) (chip .config)
       cmdRunsB (.keyCtxUpdate e) s && leaves (.keyCtxUpdate e) s (fun t => decide (ctxOf t 7 = some { ctx 1 with message := [1, 9, 9], inSegment := true })
         && (t.keys.segments.length == 1 || (List.range 5).any (fun m => (engineOf t m).isSome)))),
      (let e := cmd [7, 0, 0, 0]; let s := withCtx 7 (ctx 1) (chip .config)
       cmdRunsB (.keyCtxFinal e) s && leaves (.keyCtxFinal e) s (fun t => decide (ctxOf t 7 = none))),
      (let e := cmd ([7, 0, 0, 0] ++ zeros 129); let s := withCtx 7 (ctx 9) (chip .config)
       cmdRunsB (.keyCtxFinal e) s && leaves (.keyCtxFinal e) s (fun t => decide (ctxOf t 7 = none))),
      (let e := cmd [7]; let s := withCtx 7 (ctx 9) (chip .config)
       cmdRunsB (.keyCtxClose e) s && leaves (.keyCtxClose e) s (fun t => answeredB e .ok 0 [] t && decide (ctxOf t 7 = none))),
      (let g : Segment := { kind := .pka, prio := 2, ctx := 7, cmd := some (cmdOf 0x060A (cmd []), [1]), derive := none }
       let s0 := chip .config
       let s := { s0 with keys := { s0.keys with engines := [(4, some g)] } }
       leaves (.engineSegmentEnd 0 4) s (fun t => decide ((queueOf t 0).cache.head?.map (fun x => (x.seq, x.status, x.detail, x.replyLen)) = some (0, .ok, 0, 1)))),
      (let s := withCtx 7 (ctx 9) (chip .config)
       leaves (.keyCtxTimeout (10 * secTicks) 7) s (fun t => decide (ctxOf t 7 = none))) ].all id = true := by decide +kernel

def authToken : Nat := 0x01000d0602010000000000000000000000000000000000000000000000000000b2bd284a02d3bfd7be0a398e41bd7a3ccd5965f30d41a3153783173b0f2a762681dcf072299f977f7af2330ae61de453045cfa80e38a70235feb4151435fd0ba39643d7ae8bc9133706b299a4272f9fd5a1c45d783d9a12c4f10b7931f0230ae764f3c539e3a7c63725549551c397139600000000000000000000000000000000000000000000000000000000000000000b98328c6fb627a25f1a0b5821ba4e9b3a2769fbef6d5de82f5ec092035c80e0ab98328c6fb627a25f1a0b5821ba4e9b3a2769fbef6d5de82f5ec092035c80e0a000000000000000000000000000000000000000000000000000000000000000000000000000000

def imageToken : Nat := 0x01000d06010100000000000000000000010000000000000000000000000000003f2f1b4568201b14bc8fb48c730130e7eee60a841480f0f5edb315374c688ce5e6b6bbe8c42cf8ae96e05d4e1c91682d04031d839bf04b31fdc0d58523c08a5bc265e9d403e163cedf26229e67eabac4ec94c80db71bab40b733896ac7e67feb1b93b267c969e722e47abe23c6c8675fbd0000000000000000000000000000000000000000000000000000000000000000d8bfbe2352d0ccf9fbf67b06c411b6eec7dedf791942196b85f45e414379fd46d8bfbe2352d0ccf9fbf67b06c411b6eec7dedf791942196b85f45e414379fd46000000000000000000000000000000000000000000000000000000000000000000000000000000

def debugToken : Nat := 0x0100110602010000000000000000000001000000000000000000000000000000f2e1a490acba1da06fb770b3a83d14926ec11fc3c9700d72a480c1c8a9d6d75839f6ac727b8fc597d640de78b9b1473604b9a6e89b0d82720700c956950643a1a8acdd62d9ea617a34c71cb9a131775efe925516d1e350569ec91bff74cf91c433efaa96233851e7121a547132e9c85bc9000000000000000000000000000000000000000000000000000000000000000029e72d9b1af43f708a85e3f4659c588a220f05051da0345087542d7c0993028329e72d9b1af43f708a85e3f4659c588a220f05051da0345087542d7c09930283000000000000000000000000000000000000000000000000000000000000000000000000000000

theorem test_witness_KeyGuardsAct_tokens :
    [ (let e := cmd ([0x11] ++ zeros 104 ++ beBytes 280 authToken); let s := withLife .provisioned (withNonce 0 1 0xfbd93df4a4e203d0521acf8fea85ca30c7d7a96feeaa1e606933bbac63cdd144e5e56091109e54ce2272231f81990e62 (chip .config))
       cmdRunsB (.keyAuthoritySet e) s && leaves (.keyAuthoritySet e) s (fun t => answeredB e .ok 0 [] t)),
      (let e := cmd ([0x20] ++ zeros 104 ++ beBytes 280 imageToken); let s0 := withNonce 1 0 0xe857ec2a7ed97edc18e280923ff8321edd85d7f433ed47ae44dda7ceb4a4d342281a8fc45a798902fa606895895b27a4 (chip .config)
       let s := { s0 with keys := { s0.keys with authorities := s0.keys.authorities ++ [(17, List.replicate 48 1)] } }
       cmdRunsB (.keyAuthoritySet e) s && leaves (.keyAuthoritySet e) s (fun t => answeredB e .ok 0 [] t && decide (t.keys.revoked = 1 ∧ t.keys.nonce = none))),
      (let e := cmd ([3] ++ zeros 7 ++ beBytes 280 debugToken); let s := withLife .returned (withNonce 1 1 0x3378ad77d80953107ada53735b2d74eafe7ef145dd36390769a29326f358d56d0c1ee85c638bb328ff44f633c49e3704 (chip .config))
       cmdRunsB (.keyDebugUnlock e) s && leaves (.keyDebugUnlock e) s (fun t => answeredB e .ok 0 [] t && decide (t.keys.unlocked = 3 ∧ t.keys.nonce = none))) ].all id
      = true := by decide +kernel

theorem test_witness_KeyGuardsAct :
    [ (let e := cmd []; let s := chip .config
       cmdRunsB (.keyAuthNonce e) s && leaves (.keyAuthNonce e) s (fun t => answeredB e .ok 0 (zeros 24) t && decide (t.keys.nonce = some (zeros 16, 0)))),
      (let s := withNonce 5 1 6 (chip .config); leaves (.authNonceExpiry (600 * secTicks)) s (fun t => decide (t.keys.nonce = none))),
      (let e := cmd ([0x10] ++ zeros 104); let s := withLife .manufacture (chip .config)
       cmdRunsB (.keyAuthoritySet e) s && leaves (.keyAuthoritySet e) s (fun t => answeredB e .ok 0 [] t)),
      (let e := cmd [2, 0, 0, 0, 0, 0, 0, 0]; let s := chip .config
       cmdRunsB (.keyTamperCfgSet e) s && leaves (.keyTamperCfgSet e) s (fun t => answeredB e .ok 0 [] t && decide (t.keys.lidAction = 2 ∧ t.keys.lidFilter = 0))),
      (let e := cmd [1]; let s0 := chip .config
       let s := { s0 with keys := { s0.keys with sensors := 4, latch := { causes := 2, zeroized := 0, time := 9, count := 255 } } }
       doesB (.keyTamperStatus e) e s ([2, 0, 255, 4] ++ zeros 4 ++ leBytes 8 9) (modKeys (fun k => { k with latch := TamperLatch.reset }) s)),
      (let e := cmd []; let s := chip .config; cmdRunsB (.keyPerimeterGet e) s && leaves (.keyPerimeterGet e) s (fun t => answeredB e .ok 0 (perimBytes s) t)),
      (let s := withSlots [(8, keySlot aesAttr [1] 0), (9, kek)] (chip .config)
       leaves (.keySlotSweep (86400 * secTicks) []) s (fun t => decide ((slotOf t 8).state = .bad ∧ slotOf t 9 = kek ∧ t.keys.sweptAt = 86400 * secTicks))),
      (let s := withCtx 7 (ctx 9) (withSlots [(9, kek)] (chip .config))
       decide (tamperAnswer s 4 = 2) && leaves (.tamperDeclaration 0 4 0) s (fun t => decide (t.keys.root = zeros 64 ∧ t.keys.slots = [] ∧ t.keys.contexts = [] ∧ t.keys.caches = [])
         && bit t.keys.latch.zeroized 4)),
      (let s := withSlots [(9, kek)] (withLife .manufacture (chip .config))
       decide (tamperAnswer s 0 = 1) && leaves (.tamperDeclaration 0 0 0) s (fun t => decide (t.keys.slots = s.keys.slots) && bit t.keys.latch.causes 0)) ].all id
      = true := by decide +kernel
/-! ### Storage and integrity -/

def driveInfo : DriveInfo := { nvme2 := true, ns1 := true, lba4096 := true, capacity := 2 ^ 40, label := none }

def freshDrive : Drive := Drive.fresh driveInfo

/-- Drives at all four ports. -/
def drives (f : Drive → Drive) (s : State) : State := { s with store := { s.store with drives := (List.range 4).map (fun p => (p, some (f freshDrive))) } }

/-- A whole array of 1,000 chunks, position p at port p. -/
def array4 (s : State) : State :=
  { s with store := { s.store with array := { ArrayState.reset with mode := .normal, chunks := 100000, present := 15, highWater := 9, ports := [(0, 1), (1, 2), (2, 3), (3, 4)] } } }

/-- The same with position 3 absent. -/
def array3 (s : State) : State :=
  { s with store := { s.store with array := { ArrayState.reset with mode := .degraded, chunks := 100000, present := 7, highWater := 9, ports := [(0, 1), (1, 2), (2, 3)] } } }

def frame1 : DdqFrame := { seq := 0, at_ := 0, body := [1, 2, 3], ackReq := true, attempts := 0 }

def withDdq (n : Nat) (d : Ddq) (s : State) : State := { s with store := { s.store with ddq := [(n, d)] } }

def readyImage : ImageSlot := { mode := .ready, imageId := 5, length := 65, blockLen := 64, digest := zeros 32, bytes := [] }

def withImage (k : Nat) (x : ImageSlot) (s : State) : State := { s with store := { s.store with images := [(k, x)] } }

def campaign1 : Campaign :=
  { slot := 2, imageId := 5, blockCount := 2, members := some [lastNode], slotframe := 63, phy := 0, option := 5, mcs := 1, maxPasses := 1, pass := 1,
    nextBlock := 0, plan := none, progress := [] }

set_option maxRecDepth 100000 in
theorem test_witness_StoreCommandsAct :
    [ (let e := cmd [14, 14]; let s := drives id (chip .config)
       (bitList 4 14).all (formatOk 14 s) && cmdRunsB (.storeFormat e) s && leaves (.storeFormat e) s (fun t => answeredB e .accepted 0 (leBytes 4 1) t
         && decide (t.store = s.store) && decide (t.jobs.running.map (fun j => (j.handle, j.opcode)) = [(1, 0x0902)]))),
      (let e := cmd [3, 0]; let s := drives id (array3 (chip .service))
       decide (absentPosition s.store.array = some 3 ∧ portPosition s 3 = none ∧ unusable (needFor 100000) driveInfo = none) && cmdRunsB (.storeDriveAdd e) s
         && leaves (.storeDriveAdd e) s (fun t => answeredB e .accepted 0 (leBytes 4 1) t && decide (t.store.array.mode = .rebuilding ∧ t.store.array.rebuilding = 8 ∧ positionPort t 3 = some 3)
           && decide (t.store.array.rebuild.map (fun x => (x.position, x.next, x.highWater)) = some (3, 0, 9)))),
      (let e := cmd [3]; let s := drives id (array4 (chip .service))
       cmdRunsB (.storeDriveRetire e) s && leaves (.storeDriveRetire e) s (fun t => answeredB e .ok 0 [] t
         && decide (t.store.array.mode = .degraded ∧ bit t.store.array.present 3 = false ∧ positionPort t 3 = none ∧ (driveOf t 3).map (·.idled) = some true))),
      (let e := cmd (leBytes 4 lastNode); let s := withDdq lastNode { Ddq.reset with chip := [frame1], spill := [frame1] } (withNode node1 (chip .config))
       doesB (.storeDdqGet e) e s (leBytes 2 1 ++ leBytes 4 (ddqBytes [frame1]) ++ leBytes 2 1 ++ leBytes 4 (ddqBytes [frame1]) ++ leBytes 4 0) s
         && cmdRunsB (.storeDdqFlush e) s && leaves (.storeDdqFlush e) s (fun t => answeredB e .ok 0 (leBytes 4 2) t && decide (ddqFrames (ddqOf t lastNode) = []))),
      (let e := cmd ([2, 1] ++ zeros 2 ++ leBytes 4 0 ++ leBytes 2 5 ++ leBytes 2 64 ++ leBytes 4 65 ++ zeros 32 ++ [7, 8]); let s := array4 (chip .config)
       cmdRunsB (.storeImagePut e) s && leaves (.storeImagePut e) s (fun t => answeredB e .ok 0 [] t
         && decide (imageOf t 2 = { readyImage with mode := .loading, bytes := Sparse.setRun (fun _ => 0) [] 0 [7, 8] }))),
      (let e := cmd ([2, 2] ++ zeros 2 ++ leBytes 4 64 ++ [9]); let s := withImage 2 { readyImage with mode := .loading } (array4 (chip .config))
       cmdRunsB (.storeImagePut e) s && leaves (.storeImagePut e) s (fun t => answeredB e .authFail 0 [] t && decide (imageOf t 2 = ImageSlot.reset))),
      (let e := cmd [2]; let s := withImage 2 readyImage (array4 (chip .config))
       cmdRunsB (.storeImageDelete e) s && leaves (.storeImageDelete e) s (fun t => answeredB e .ok 0 [] t && decide (imageOf t 2 = ImageSlot.reset))),
      (let e := cmd ([1, 0] ++ zeros 6 ++ leBytes 10 0); let s := array4 (chip .config)
       (readStart e.req s).isSome && doesB (.storeJournalRead e) e s (zeros 16) s),
      (let e := cmd (leBytes 4 lastNode); let s0 := array4 (chip .config); let s := { s0 with store := { s0.store with history := [(lastNode, [7])] } }
       cmdRunsB (.storeHistoryRead e) s && leaves (.storeHistoryRead e) s (fun t => answeredB e .ok 0 (leBytes 8 7 ++ zeros 1016) t)),
      (let e := cmd ([2, 0, 5, 1, 1, 0] ++ leBytes 2 63 ++ leBytes 2 1 ++ zeros 2 ++ leBytes 4 lastNode); let s := withImage 2 readyImage (array4 (chip .activeN))
       phyOk 0 5 1 && cmdRunsB (.storeCampaignStart e) s && leaves (.storeCampaignStart e) s (fun t => answeredB e .ok 0 (leBytes 4 0) t
         && decide (campaignOf t 0 = some campaign1))),
      (let e := cmd [3]; let s0 := withNode node1 (array4 (chip .activeN)); let s := { s0 with store := { s0.store with campaigns := [(3, some campaign1)] } }
       doesB (.storeCampaignStatus e) e s (leBytes 4 1 ++ leBytes 4 (campaignTally s campaign1).1 ++ leBytes 4 (campaignTally s campaign1).2.1 ++ leBytes 4 (campaignTally s campaign1).2.2) s
         && leaves (.storeCampaignStop e) s (fun t => answeredB e .ok 0 [] t && decide (campaignOf t 3 = none))) ].all id = true := by decide +kernel

def health1 : HealthEntry := HealthEntry.first 9 0x50 2 1

def withHealth (s : State) : State := { s with integ := { s.integ with health := [health1] } }

def standbyOn (s : State) : State := live [(0x0B00, 3, 0, 1), (0x0B00, 1, 0, 1), (0x0B00, 2, 0, 3)] s

theorem test_witness_IntegrityActs :
    [ (let e := cmd []; let s := withHealth (chip .config)
       cmdRunsB (.diagHealthGet e) s && leaves (.diagHealthGet e) s (fun t => answeredB e .ok 0 (healthReport (countReport s)) t && onlyB 0 (countReport s) t)),
      (let e := cmd (leBytes 4 9 ++ leBytes 2 0x50); let s := withHealth (chip .config)
       doesB (.diagHealthResolve e) e s [] (modInteg (fun i => { i with health := [{ health1 with resolved := true }] }) s)),
      (let e := cmd (leBytes 2 1 ++ leBytes 4 5); let s := chip .standbyN
       (bistLoci e.req).all (bistPermitted s) && cmdRunsB (.diagBistRun e false) s && leaves (.diagBistRun e false) s (fun t => answeredB e .accepted 0 (leBytes 4 1) t && decide (t.integ = s.integ))),
      (let e := cmd [4, 0, 255, 0]; let s := ctrAdd .lattice (4 * 1024 + 255) 0 6 (chip .config)
       doesB (.diagLatticeStatus e) e s (leBytes 4 (crossingWord s 4 255 512) ++ ctrBytes s .lattice (4 * 1024 + 255) 0 3)
         (modInteg (fun y => { y with noCreditRead := Sparse.set (fun _ => 0) y.noCreditRead (4 * 1024 + 255) 6 }) s)),
      (let e := cmd ([1] ++ zeros 19); let s0 := array4 (chip .config); let s := { s0 with integ := { s0.integ with dumps := [(1, { DumpHead.reset with state := 2, seq := 4 })] } }
       dumpHeld s 1 && cmdRunsB (.diagDumpRead e) s && leaves (.diagDumpRead e) s (fun t => answeredB e .accepted 0 (leBytes 4 1) t && decide (dumpOf t 1 = dumpOf s 1))
         && (let e := cmd [1]; cmdRunsB (.diagDumpErase e) s && leaves (.diagDumpErase e) s (fun t => answeredB e .ok 0 [] t && decide (dumpOf t 1 = { DumpHead.reset with seq := 4 })))),
      (let e := cmd []; let s := chip .activeN
       cmdRunsB (.diagDumpForce e) s && leaves (.diagDumpForce e) s (fun t => answeredB e .ok 0 [] t && decide (t.mode.mode = .dump ∧ t.jobs.running = []
         ∧ t.integ.lastFatal.map (fun x => (x.cause, x.locus)) = some (9, 0xFFFFFFFF)))),
      (let e := cmd []; let s := standbyOn (chip .standbyN)
       standby s && twinEnabled s && cmdRunsB (.twinResync e) s && leaves (.twinResync e) s (fun t => answeredB e .accepted 0 (leBytes 4 1) t
         && !t.chord.twin.synced && t.chord.twin.resync.isSome && decide (t.chord.twin.job = some 1))),
      (let s0 := chip .activeN; let s := { s0 with integ := { s0.integ with corrected := [(77, [0, 0])] } }
       corrects .otp && leaves (.scrubPass 0 .otp false 77 5) s (fun t => decide (ctrGet t .ecc 0 16 = 1) && t.integ.candidates.contains 77)),
      (let s := live [(0x0C00, 1, 0, 1)] (chip .activeN)
       leaves (.scrubPass 0 (.l2 3) true 77 5) s (fun t => decide (entryAt t.sw.l2 3 = none ∧ ctrGet t .ecc 0 3 = 1))),
      leaves (.scrubPass 0 (.counter (ctrKey .ecc 0 23)) true 77 5) (chip .activeN) (fun t => decide (ctrGet t .ecc 0 23 = 1)),
      (let s := withSlots [(8, keySlot 5 [1] 0)] (chip .activeN); leaves (.scrubPass 0 (.keySlot 8) true 77 5) s (fun t => decide ((slotOf t 8).state = .bad))),
      (let s := { chip .service with jobs := { (chip .service).jobs with running := [{ job 0x0A03 with req := leBytes 2 2 ++ leBytes 4 5 ++ leBytes 4 6 }], next := 2 } }
       leaves (.bistRunDone 0 [6] true) s (fun t => decide (t.jobs.completed.head?.map (fun x => (x.handle, x.status, x.result)) = some (1, .ok, leBytes 4 1 ++ leBytes 4 6)))),
      (let s := standbyOn (chip .standbyN)
       leaves (.selftestStep 0 77 50 none) s (fun t => decide (t.integ.stepUnit = some 77 ∧ t.integ.health = s.integ.health))),
      (let s0 := standbyOn (chip .standbyN); let s := { s0 with integ := { s0.integ with stepUnit := some 77 } }
       leaves (.selftestStep 0 77 50 (some true)) s (fun t => decide (t.integ.stepUnit = none ∧ t.integ.cycleFailed = s.integ.cycleFailed ∧ t.integ.cyclePct = 50))
         && leaves (.selftestStep 0 77 50 (some false)) s (fun t => decide (t.integ.stepUnit = none ∧ t.integ.cycleFailed = s.integ.cycleFailed ++ [77]))),
      (let s0 := array4 (chip .config)
       let s := { s0 with integ := { s0.integ with dumps := [(1, { DumpHead.reset with state := 2, length := 3 })] }, jobs := { s0.jobs with running := [{ job 0x0A08 with req := [1] ++ zeros 15 ++ leBytes 4 12288 }], next := 2 } }
       leaves (.dumpReadDone 0 true) s (fun t => decide (dumpOf t 1 = { dumpOf s 1 with state := 4 })
         && decide (t.jobs.completed.head?.map (fun x => (x.handle, x.status, x.result)) = some (1, .ok, leBytes 4 12288)))) ].all id = true := by decide +kernel

def io1 : DriveIo := { id := 4, write := true, stripe := 6, since := 0, retried := false, abortAt := none, block := some 8 }

/-- The member at port 3 has failed. -/
def failed3 (t : State) : Bool := decide (t.store.array.mode = .degraded ∧ bit t.store.array.present 3 = false ∧ positionPort t 3 = none)

def block8 : JBlock := { seq := 8, pos := 0, recs := [], stored := 16, durable := false, lost := false }

theorem test_witness_StorageEventsAct :
    [ (let s := drives id (array4 (chip .activeN))
       decide (afterFailure s.store.array 3 = .degraded) && leaves (.controllerFatalStatus 0 3) s failed3 && leaves (.driveLinkTimeout 0 3) s (fun t => failed3 t && decide (driveOf t 3 = none))
         && leaves (.nvmeAsyncEvent 0 3 true false) s failed3 && leaves (.smartPoll (60 * secTicks) 3 true false) s failed3
         && leaves (.smartPoll (60 * secTicks) 3 false false) s (fun t => decide (Sparse.get (fun _ => 0) t.store.smartAt 3 = 60 * secTicks ∧ t.store.array = s.store.array))),
      (let s := drives (fun d => { d with resetAt := some 0 }) (array4 (chip .activeN)); leaves (.controllerReadyTimeout (60 * secTicks) 3) s failed3),
      (let s0 := drives id (array4 (chip .activeN))
       let s := { s0 with store := { s0.store with drives := [(3, some { freshDrive with io := [io1] })], journal := { s0.store.journal with blocks := [block8] } } }
       leaves (.nvmeCommandComplete 0 3 4 0) s (fun t => decide (t.store.journal.blocks = [{ block8 with durable := true }]))
         && leaves (.nvmeCommandComplete 5 3 4 2) s (fun t => decide ((driveOf t 3).map (·.io) = some [{ io1 with id := 0, since := 5, retried := true }]))
         && leaves (.nvmeIoTimeout (2 * secTicks) 3 4) s (fun t => t.out.contains (.nvme 3 8 6) && decide ((driveOf t 3).map (·.io) = some [{ io1 with abortAt := some (2 * secTicks) }]))),
      (let s := drives (fun d => { d with io := [{ io1 with retried := true }] }) (array4 (chip .activeN)); leaves (.nvmeCommandComplete 0 3 4 2) s failed3),
      (let s := drives (fun d => { d with io := [{ io1 with abortAt := some 0 }] }) (array4 (chip .activeN))
       leaves (.nvmeAbortTimeout secTicks 3 4) s (fun t => decide ((driveOf t 3).map (·.resetAt) = some (some secTicks)))),
      (let s := array4 (chip .boot); let s := { s with store := { s.store with array := { s.store.array with ports := [] } } }
       leaves (.driveInserted 0 3 driveInfo) s (fun t => decide (driveOf t 3 = some freshDrive))),
      (let s0 := array3 (chip .activeN); let r : Rebuild := { position := 3, highWater := 9, next := 8, zeroNext := 0, written := [], since := 0, done := 0, job := none }
       let s := { s0 with store := { s0.store with array := { s0.store.array with mode := .rebuilding, rebuild := some r } } }
       rebuildPaced s r && leaves (.rebuildStripe 0) s (fun t => decide (t.store.array.rebuildPoint = 9 ∧ t.store.array.rebuild = some { r with next := 9, done := 1 }))),
      (let s0 := array3 (chip .activeN); let r : Rebuild := { position := 3, highWater := 9, next := 9, zeroNext := 100000, written := [], since := 0, done := 0, job := none }
       let s := { s0 with store := { s0.store with array := { s0.store.array with mode := .rebuilding, rebuilding := 8, rebuild := some r } } }
       leaves (.rebuildComplete 0) s (fun t => decide (t.store.array.mode = .normal ∧ t.store.array.rebuilding = 0 ∧ t.store.array.rebuild = none))),
      (let s := { drives id (chip .config) with jobs := { (chip .config).jobs with running := [{ job 0x0902 with req := [15, 0] }], next := 2 } }
       leaves (.storeFormatDone 0) s (fun t => decide (t.store.array.chunks = chunksFor (List.replicate 4 (2 ^ 40)) ∧ t.store.images = [] ∧ t.store.history = [] ∧ t.store.array.mode = .normal)
         && decide (t.jobs.completed.head?.map (fun x => (x.handle, x.status)) = some (1, .ok)))),
      (let r : JRec := { type := 1, seconds := 0, nanos := 0, body := [1] }; let s0 := chip .activeN
       let s := { s0 with store := { s0.store with journal := { s0.store.journal with x08 := [r, r] } } }
       journalRuns s && leaves (.journalRecord 0) s (fun t => decide (t.store.journal.x08 = [r] ∧ t.store.journal.open_ = [r] ∧ t.store.journal.blocks = []))) ].all id = true := by decide +kernel

def rec1 : JRec := { type := 1, seconds := 0, nanos := 0, body := [1] }

/-- One record in the open block. -/
def journalOpen (s : State) : State := { s with store := { s.store with journal := { s.store.journal with open_ := [rec1] } } }

theorem storedLen_rec1 : storedLen [rec1] ≤ 64 := by
  have h := storedLen_le [rec1]
  have e : 16 + (segments [rec1]).foldl (fun n x => n + x.length) 0 + 2 * ((segments [rec1]).length - 1) ≤ 64 := by decide +kernel
  omega

theorem test_witness_StorageEventsAct_ring :
    let b := begin (ms 1000) (journalOpen (array4 (chip .activeN)))
    b.store.journal.open_ ≠ [] ∧ flushTicks b ≤ since b b.store.journal.openAt ∧ arrayUp b = true
      ∧ ringUsed b.store.journal + storedLen b.store.journal.open_ ≤ journalBytes b.store.array := by
  refine ⟨by decide, by decide +kernel, by decide, ?_⟩
  have h : ringUsed (begin (ms 1000) (journalOpen (array4 (chip .activeN)))).store.journal + 64
      ≤ journalBytes (begin (ms 1000) (journalOpen (array4 (chip .activeN)))).store.array := by decide +kernel
  exact Nat.le_trans (Nat.add_le_add_left storedLen_rec1 _) h

theorem test_witness_StorageEventsAct_staging :
    let b := begin (ms 1000) (journalOpen (chip .activeN))
    b.store.journal.open_ ≠ [] ∧ flushTicks b ≤ since b b.store.journal.openAt ∧ arrayUp b = false
      ∧ stagingBytes b.store.journal + storedLen b.store.journal.open_ ≤ 1048576 := by
  refine ⟨by decide, by decide +kernel, by decide, ?_⟩
  have h : stagingBytes (begin (ms 1000) (journalOpen (chip .activeN))).store.journal + 64 ≤ 1048576 := by decide +kernel
  exact Nat.le_trans (Nat.add_le_add_left storedLen_rec1 _) h
/-! ### Ports and switch: events -/

/-- A port with its link up at 10 Gb/s (MG0: SGMII), its MAC changed. -/
def portUp (p : Nat) (f : SwPort → SwPort) (l : List (Nat × Nat × Int)) (s : State) : State :=
  live ((0x0200 + p, 1, 0, if p < 64 then 4 else 7) :: l.map (fun x => (0x0200 + p, x.1, x.2.1, x.2.2)))
    { s with sw := { s.sw with ports := [(p, f { SwPort.reset with linkUp := true })] } }

def md0 : PktMeta :=
  { src := 63, queue := 1, ipri := 0, pcp := 0, vid := 1, colour := 0, epoch := 0, flags := 0, hdrs := [], frameLen := 60, l3Len := 46, trap := 0, disp := 0,
    copyHost := false, mirror := 0, egress := some 63, stageHit := 0, label := 0, node := none, fwdKind := 0, flood := false, slow := false, prefixLen := 0,
    probes := 0, nexthop := 0, tsNs := 0, tsSec := 0 }

def pkt0 : Packet :=
  { id := 0, md := md0, bytes := zeros 60, cells := 1, rawC := 0, rewrite := .none, remote := none, dest := none, tsReq := false, tsInsert := false, tsId := 0,
    toApex := false }

def rep0 (port queue : Nat) : Replica := { pkt := pkt0, port, queue, part := .guaranteed, charge := 1, kind := .data, prp := none }

theorem test_witness_PortEventsAct :
    [ (let s := portUp 0x41 id [] (chip .activeN)
       macReceives s 0x41 && leaves (.ingressFrame 0 0x41 (zeros 59) true false 0 0 0) s (fun t => decide (ingressList t 0x41 = [] ∧ ctrGet t .port 0x41 7 = 1))),
      (let s := portUp 63 id [] (chip .activeN); let f := zeros 60
       macReceives s 63 && (ingressQueue s 63 (portTag s 63 f)).isSome && forwards s && decide (pairOf s 63 = none ∧ flushCatches s 63 s.now = none ∧ (portTag s 63 f).vid ≠ 0xFFF)
         && leaves (.ingressFrame 0 63 f true false 0 0 0) s (fun t => decide ((ingressList t 63).map (fun k => (k.bytes, k.md.src)) = [(f, 63)]))),
      (let s := portUp 63 id [(13, 0, 1)] (chip .activeN)
       leaves (.pauseFrameReceived 0 63 pauseDa 0xFFFF) s (fun t => decide (Sparse.get (fun _ => 0) (swPort t 63).hold 8 = quantaEnd s 63 0xFFFF))
         && leaves (.pauseFrameReceived 0 63 0 0) s (fun t => decide (Sparse.get (fun _ => 0) (swPort t 63).hold 8 = quantaEnd s 63 0))),
      (let s := portUp 63 id [(13, 0, 2), (14, 0, 0x81)] (chip .activeN)
       leaves (.pfcFrameReceived 0 63 pauseDa 0x80 [0, 0, 0, 0, 0, 0, 0, 9]) s (fun t => decide (Sparse.get (fun _ => 0) (swPort t 63).hold 7 = quantaEnd s 63 9))),
      (let s := portUp 63 (fun x => { x with hold := [(0, 9), (8, 5)] }) [] (chip .activeN)
       leaves (.pauseTimerExpiry 5 63) s (fun t => decide ((swPort t 63).hold = [(0, 9)]))),
      (let s0 := portUp 63 id [(13, 0, 1), (15, 0, 16), (16, 0, 0)] (chip .activeN)
       let s := { s0 with sw := { s0.sw with ingress := [(63, [{ pkt0 with cells := 16 }])] } }
       (watchDue s 63 (fun i => !bit (swPort s 63).xoff i && decide (portCfg s 63 15 ≤ watchCount s 63 i))).contains 8
         && leaves (.xoffThreshold 0 63) s (fun t => bit (swPort t 63).xoff 8 && t.out.any (fun o => match o with | .frame 63 _ false => true | _ => false))),
      (let s := portUp 63 (fun x => { x with xoff := 256 }) [(13, 0, 1), (15, 0, 16), (16, 0, 0)] (chip .activeN)
       (watchDue s 63 (fun i => bit (swPort s 63).xoff i && decide (watchCount s 63 i ≤ portCfg s 63 16))).contains 8
         && leaves (.xonThreshold 0 63) s (fun t => !bit (swPort t 63).xoff 8 && t.out.any (fun o => match o with | .frame 63 _ false => true | _ => false))),
      (let s0 := portUp 63 (fun x => { x with xoff := 256 }) [(13, 0, 1), (15, 0, 16), (16, 0, 0)] (chip .activeN)
       let s := { s0 with sw := { s0.sw with ingress := [(63, [{ pkt0 with cells := 16 }])] } }
       leaves (.pauseRefresh (ms 2) 63) s (fun t => bit (swPort t 63).xoff 8 && t.out.any (fun o => match o with | .frame 63 _ false => true | _ => false))),
      (let s0 := portUp 63 id [] (chip .activeN); let s := { s0 with sw := { s0.sw with egress := [(63, [rep0 63 1])] } }
       macSends s 63 && leaves (.egressFrameSend 0 63) s (fun t => decide (egressList t 63 = []) && t.out.contains (.frame 63 (egressFrame s (rep0 63 1)) false))),
      (let s0 := portUp 63 (fun x => { x with thresh := 0 }) [] (chip .activeN); let s := { s0 with sw := { s0.sw with egress := [(63, [rep0 63 1])] } }
       leaves (.txUnderrun 0 63 59) s (fun t => decide (egressList t 63 = []) && t.out.contains (.frame 63 ((egressFrame s (rep0 63 1)).take 59) true)
         && decide (swPort t 63 = { swPort s 63 with thresh := 256, good := 0 }))),
      (let s := portUp 63 (fun x => { x with good := 1000000, thresh := 1024 }) [] (chip .activeN)
       leaves (.underrunDecay 0 63) s (fun t => decide (swPort t 63 = { swPort s 63 with good := 0, thresh := 768 }))),
      (let s := portUp 63 (fun x => { x with hold := [(8, 5)] }) [] (chip .activeN)
       leaves (.linkDown 0 63 false) s (fun t => decide ((swPort t 63).linkUp = false ∧ (swPort t 63).hold = [] ∧ ctrGet t .port 63 42 = 1))),
      (let s := portUp 0x41 id [] (chip .activeN); leaves (.sgmiiSpeedChange 0 0x41 10 false) s (fun t => decide ((swPort t 0x41).sgmii = 10 ∧ (swPort t 0x41).linkUp = true))),
      (let s0 := chip .activeN; let y : PrpEntry := { pair := 15, sa := 4, seq := 65535, port := 3, since := 0 }
       let s := { s0 with sw := { s0.sw with prpTable := [y] } }
       leaves (.prpForgetExpiry (cfgNat s 0x0502 2 0 * msTicks) 15 4 65535) s (fun t => decide (t.sw.prpTable = []))) ].all id = true := by decide +kernel

def l2Entry1 : L2Entry :=
  { mac := 2, vid := 9, port := 3, static := false, remote := false, origin := 0, hit := false, stamp := 0, damped := false, timeUs := 0, missed := false,
    moves := [], dampedAt := 0, refreshed := false }

def withL2 (e : L2Entry) (s : State) : State := { s with sw := { s.sw with l2 := [((l2Places 9 2).headD 0, some e)] } }

def learn1 : LearnReq := { mac := 2, vid := 9, port := 3, timeUs := 0 }

def flush1 : Flush :=
  { port := 3, mask := 255, cause := 1, since := 0, discarded := 5, items := 6, forced := 7, ingress := true, rewound := false, cmd := some (cmdOf 0x020D (cmd [])) }

/-- A member heard before, in order. -/
def peer (n : Nat) (f : Member → Member) (s : State) : State :=
  { s with chord := { s.chord with members := [(n, f { Member.reset with known := true, compat := s.fw.runCompat.toNat })] } }

theorem test_witness_SwitchEventsAct :
    [ (let s0 := chip .activeN; let s := { s0 with sw := { s0.sw with ingress := [(0x41, [pkt0])] } }
       decide (nextSource s 0 = some 0x41) && leaves (.pipelinePacket 0 0) s (fun t => decide (ingressList t 0x41 = [] ∧ Sparse.get (fun _ => 0) t.sw.rr 0 = 0x42))),
      (let s0 := chip .activeN; let s := { s0 with sw := { s0.sw with slow := [(3, [{ pkt := pkt0, left := 0, cands := [] }])] } }
       leaves (.slowPathReturn (100 * usTicks + 1) 3) s (fun t => decide (Sparse.get (fun _ => []) t.sw.slow 3 = [] ∧ t.sw.queues = s.sw.queues))),
      (let s0 := portUp 63 id [] (chip .activeN); let s := { s0 with sw := { s0.sw with queues := [(8 * 63 + 7, [rep0 63 7])] } }
       portServed s 63 && decide ((decideQueue s 63).1 = some 7) && leaves (.schedulerDecision 0 63) s (fun t => decide (queueList t 63 7 = [] ∧ egressList t 63 = [rep0 63 7]))),
      (let s0 := chip .activeN; let s := { s0 with sw := { s0.sw with learnQ := [learn1] } }
       leaves (.learnRequest 0) s (fun t => decide (t.sw.learnQ = [] ∧ entryAt t.sw.l2 ((l2Places 9 2).headD 0) = some (newLearned s learn1)))),
      (let s0 := withL2 { l2Entry1 with static := true } (chip .activeN); let s := { s0 with sw := { s0.sw with learnQ := [learn1] } }
       leaves (.learnRequest 0) s (fun t => decide (t.sw.learnQ = [] ∧ t.sw.l2 = s.sw.l2))),
      (let s := withL2 { l2Entry1 with damped := true } (chip .activeN)
       leaves (.moveHoldExpiry (cfgNat s 0x0700 10 0 * secTicks) 9 2) s (fun t => decide (entryAt t.sw.l2 ((l2Places 9 2).headD 0) = some l2Entry1))),
      (let s0 := live [(0x0700, 4, 0, 2)] (withL2 { l2Entry1 with missed := true } (chip .activeN)); let s := { s0 with sw := { s0.sw with ageSeen := [(0, 3)] } }
       decide (sweepVisit s 0 false 0 true = none) && leaves (.ageingSweep 0 0) s (fun t => decide (entryAt t.sw.l2 ((l2Places 9 2).headD 0) = none))),
      (let s := live [(0x0700, 11, 1, 1)] (peer 3 id (chip .activeN))
       leaves (.learnMessageReceived 0 3 4 0 1 9 0 2 7 55) s (fun t => match entryAt t.sw.l2 ((l2Places 9 2).headD 0) with
         | some e => e.mac == 2 && e.vid == 9 && e.port == 7 && e.remote && e.origin == 3 && e.timeUs == 55 | none => false)
         && leaves (.resyncReqReceived 0 3 4 0 0) (withL2 l2Entry1 s) (fun t => decide (t.sw.originSeq = 2))),
      (let s := peer 3 id (chip .activeN)
       leaves (.frameMessageReceived 0 3 4 (zeros 60)) s (fun t => decide ((ingressList t chordPort).map (·.bytes) = [zeros 60]))),
      (let s0 := chip .activeN; let s := { s0 with sw := { s0.sw with flushes := [flush1] } }
       leaves (.flushForcedRewind (128 * usTicks) 3) s (fun t => decide (t.sw.flushes.map (fun y => (y.port, y.rewound)) = [(3, true)]))
         && leaves (.queueFlushComplete 0 3) s (fun t => decide (t.sw.flushes = []) && decide ((queueOf t 0).cache.head?.map (fun r => (r.seq, r.status, r.body))
              = some (0, .ok, leBytes 4 5 ++ leBytes 4 6 ++ leBytes 4 7 ++ zeros 4)))),
      (let s0 := portUp 63 id [] (chip .activeN); let r : JRec := { type := 2, seconds := 0, nanos := 0, body := [63] ++ zeros 7 ++ zeros 60 }
       let s := { s0 with store := { s0.store with journal := { s0.store.journal with open_ := [r], drain := some (0, 0) } } }
       decide ((heldRecords s.store.journal).map (·.2) = [r]) && decide (drainPort s 63 = some 63)
         && (match decideReplica (heldReplica 63 (zeros 60) s).2 (heldReplica 63 (zeros 60) s).1 with | .enqueue _ => true | _ => false)
         && leaves (.heldDrainRelease 0) s (fun t => decide (t.store.journal.released = 1 ∧ (queueList t 63 1).length = 1))) ].all id = true := by decide +kernel
/-! ### Radio: events -/

/-- A sector changed, and applied values. -/
def sector (k : Nat) (f : SectorState → SectorState) (l : List (Nat × Nat × Nat × Int)) (s : State) : State :=
  { s with radio := { s.radio with sectors := [(k, f SectorState.reset)],
                                   applied := l.foldl (fun m x => Sparse.set cfgDefault m (cfgKey x.1 x.2.1 x.2.2.1) x.2.2.2) s.radio.applied } }

/-- Sector 7 enabled and automatic. -/
def on7 (f : SectorState → SectorState) (l : List (Nat × Nat × Nat × Int)) (s : State) : State := sector 7 f ((0x0907, 1, 0, 1) :: l) s

def req1 : PpduReq :=
  { id := 5, sector := 7, txStart := 0, refEvent := 0, duration := 100, centre := 868000, spacing := 200, power := 0, cls := 2, phy := 0, option := 0, mcs := 0,
    fcs32 := false, dw := false, preamble := 8, psdu := [], node := none, frame := none, ackReq := false, template := 0, facet := 0, xUsed := 0 }

def job1 (phase : Nat) (granted : Bool) : TxJob := { req := req1, phase, granted, entry := 0, charged := 0, level := 0, cal := 0 }

/-- A record of one sub-band with a window of 64 s in slot 0, in force. -/
def withRecord (window : Nat) (s : State) : State :=
  let r := leBytes 2 1 ++ leBytes 2 7 ++ leBytes 2 1 ++ [0, 0, 1] ++ zeros 55 ++ leBytes 20 (10 + 9000000 * 2 ^ 32 + 2 ^ 80 + window * 2 ^ 96 + 2 ^ 128)
  { s with radio := { s.radio with regSlots := [(0, some { bytes := r, sig := [], committed := true })], regSlot := some 0, regState := 1 } }

theorem test_witness_SectorEventsAct :
    [ (let s := on7 (fun x => { x with agcA := { Agc.reset with g := 16 } }) [] (chip .activeN)
       agcActs s 7 && leaves (.gainIndexRaise 0 7 false) s (fun t => decide ((agcOf (sectorOf t 7) false).g = 17 ∧ agcOf (sectorOf t 7) true = Agc.reset))),
      (let s := on7 id [] (chip .activeN)
       leaves (.gainIndexLower (appliedNat s 0x0907 8 0 * msTicks) 7 true) s (fun t => decide ((agcOf (sectorOf t 7) true).g = 16))),
      (let s := live [(0x0907, 3, 0, 2)] (on7 (fun x => { x with pendDac := some 0, dacHold := true }) [] (chip .activeN))
       leaves (.dacRangeApply 0 7) s (fun t => decide (applied t 0x0907 3 0 = 2 ∧ (sectorOf t 7).pendDac = none ∧ (sectorOf t 7).dacHold = false))
         && rangeHeld s (sectorOf s 7) && leaves (.dacRangeHold 0 7) s (fun t => (sectorOf t 7).dacHold)),
      (let s := live [(0x0907, 2, 0, 2), (0x0907, 8, 0, 9)] (on7 (fun x => { x with pendSector := true }) [] (chip .activeN))
       leaves (.sectorCfgApply 0 7) s (fun t => decide (applied t 0x0907 2 0 = 2 ∧ applied t 0x0907 8 0 = 9 ∧ (sectorOf t 7).pendSector = false))),
      (let s := live [(0x0917, 14, 0, 1)] (on7 (fun x => { x with pendFront := true, jobs := [job1 0 false] }) [] (chip .activeN))
       leaves (.frontEndCfgApply 0 7) s (fun t => decide (applied t 0x0917 14 0 = 1 ∧ (sectorOf t 7).pendFront = false))),
      (let s := live [(0x0937, 4, 3, 868000)] (on7 (fun x => { x with pendRx := some 0 }) [] (chip .activeN))
       leaves (.rxCfgApplication 0 7) s (fun t => decide (applied t 0x0937 4 3 = 868000 ∧ (sectorOf t 7).pendRx = none))),
      (let s := withRecord 64 (chip .activeN)
       match (record s).map dutyKeys with
       | some (p :: _) => decide (windowChannel ((record s).getD []) p.2.2.window = 30)
           && leaves (.dutyBucketBoundary (bucketTicks p.2.2) 30) s (fun t => decide ((dutyOf t (p.1 * 16 + p.2.1)).since = bucketTicks p.2.2 ∧ (dutyOf t (p.1 * 16 + p.2.1)).buckets.head? = some 0))
       | _ => false),
      (let s := on7 (fun x => { x with window := some 0 }) [] (chip .quiescent)
       leaves (.rxWindowClose 0 7) s (fun t => decide ((sectorOf t 7).window = none))) ].all id = true := by decide +kernel

/-- A request on X05 of sector 7. -/
def x05 (q : PpduReq) (s : State) : State := { s with radio := { s.radio with x05 := [(7, [q])] } }

def inJobs (j : TxJob) (l : List (Nat × Nat × Nat × Int)) (s : State) : State := on7 (fun x => { x with jobs := [j] }) l s

theorem test_witness_TransmitEventsAct :
    [ (let q := { req1 with txStart := leadEff (on7 id [] (chip .activeN)) 7 + 250 * 65536 }; let s := x05 q (on7 id [] (chip .activeN))
       !radioMuted s && leaves (.ppduRequest 0 7) s (fun t => decide ((sectorOf t 7).jobs = [{ job1 0 false with req := q }] ∧ Sparse.get (fun _ => []) t.radio.x05 7 = []))),
      (let q := { req1 with txStart := leadEff (on7 id [] (chip .activeN)) 7 + 250 * 65536 - 1 }; let s := x05 q (on7 id [] (chip .activeN))
       leaves (.ppduRequest 0 7) s (fun t => decide ((sectorOf t 7).jobs = []))),
      (let s := inJobs (job1 0 false) [] (chip .activeN)
       decide (txRefusal s 7 req1 false = some 1) && leaves (.txStartSequence 0 7 5) s (fun t => decide ((sectorOf t 7).jobs = []))),
      (let s := withRecord 0 (inJobs (job1 0 false) [(0x0907, 4, 0, 4), (0x0907, 2, 0, 1)] (chip .activeN))
       decide (txRefusal s 7 req1 false = none) && leaves (.txStartSequence 0 7 5) s (fun t => (sectorOf t 7).jobs.any (fun y => decide (y.req = req1 ∧ y.phase ≠ 0)))),
      (let s := inJobs (job1 1 false) [(0x0917, 10, 0, 1)] (chip .activeN)
       leaves (.coexGrantSample 0 7 5 true) s (fun t => (sectorOf t 7).jobs.any (fun y => decide (y.req = req1) && y.granted))
         && leaves (.coexGrantSample 0 7 5 false) s (fun t => decide ((sectorOf t 7).jobs = []))),
      (let s := inJobs (job1 2 true) [(0x0917, 10, 0, 1), (0x0917, 14, 0, 1), (0x0907, 2, 0, 1)] (chip .activeN)
       coexOn s 7 && decide (sectorBand s 7 = 1) && leaves (.coexGrantFall 0 1) s (fun t => decide ((sectorOf t 7).jobs.all (fun y => y.phase != 2)) && !bit t.radio.grants 1)),
      (let s := inJobs (job1 2 true) [] (chip .activeN)
       decide (reqEnd req1 ≤ merNow (aft 100 s)) && leaves (.txEnd 100 7 5) s (fun t => decide ((sectorOf t 7).jobs = [] ∧ (sectorOf t 7).lastEnd = reqEnd req1))) ].all id
      = true := by decide +kernel

/-- A lane of sector 7 that holds a frame of MR-FSK profile 0. -/
def lane1 : Lane :=
  { sector := 7, detector := 511, layer := 0, channel := 0, profile := 0, metric := 40, metricA := 40, metricB := 30, at_ := 0, aerialB := none, skipped := false,
    header := none }

def withLane (n : Nat) (x : Lane) (s : State) : State := { s with radio := { s.radio with lanes := [(n, some x)] } }

/-- Detector 511 of sector 7 valid on layer 0. -/
def detecting (s : State) : State := live [(0x0947, 1, 511, 1)] (on7 id [(0x0937, 3, 0, 200), (0x0937, 4, 0, 868000)] s)

def head1 : LaneHeader := { length := 4, mcs := 0, fcs32 := false, dw := false, seed := 0, fbReq := false, at_ := 0, words := 0 }

theorem test_witness_ReceiveEventsAct :
    [ (let s := detecting (chip .activeN)
       rxRuns s 7 && !blanked s 7 && decide (overlapping s 7 868000 200 = [] ∧ freeLane s 7 = some 0)
         && leaves (.preambleDetection 0 7 511 40 30 0 0) s (fun t => decide ((laneAt t 0).map (fun y => (y.sector, y.detector, y.profile, y.metric, y.header)) = some (7, 511, 0, 40, none)))),
      (let s := withLane 3 lane1 (detecting (chip .activeN))
       !(overlapping s 7 868000 200).all (beats s 7 40) && leaves (.preambleDetection 0 7 511 40 30 0 0) s (fun t => decide (t.radio.lanes = s.radio.lanes ∧ ctrGet t .rx 7 1 = 1))),
      (let s := withLane 127 lane1 (detecting (chip .activeN))
       leaves (.aerialSelection 0 127 5 9 true) s (fun t => decide ((laneAt t 127).map (fun y => { y with aerialB := none }) = some { lane1 with skipped := true }))
         && leaves (.sfdTimeout 0 127) s (fun t => decide (laneAt t 127 = none ∧ ctrGet t .rx 7 5 = 1))),
      (let s := withLane 127 lane1 (detecting (chip .activeN))
       leaves (.headerPoint 0 127 0 4 0 false false false false true) s (fun t => decide ((laneAt t 127).bind (·.header) = some head1))
         && leaves (.headerPoint 0 127 0 4 0 true false false false true) s (fun t => decide (laneAt t 127 = none))),
      (let s := withLane 127 { lane1 with profile := 33, header := some { head1 with words := 1 } } (detecting (chip .activeN))
       leaves (.ldpcCodewordDecoded 0 127 true true) s (fun t => decide ((laneAt t 127).bind (·.header) = some head1))
         && leaves (.ldpcCodewordDecoded 0 127 false true) s (fun t => decide (laneAt t 127 = none ∧ ctrGet t .rx 7 8 = 1))
         && leaves (.ldpcCodewordDecoded 0 127 true false) s (fun t => decide (laneAt t 127 = none))),
      (let s := withLane 127 { lane1 with header := some head1 } (detecting (chip .activeN))
       leaves (.ppduEnd 0 127 [1, 2, 3, 4] 0 none 0 0 0) s (fun t => decide (laneAt t 127 = none ∧ t.mesh.rxQueue = s.mesh.rxQueue ∧ ctrGet t .rx 7 7 = 1))) ].all id
      = true := by decide +kernel
/-! ### Nodes: events -/

/-- A frame received with a PSDU, of a node or of none. -/
def heard (psdu : List Byte) (node : Option Nat) : RxFrame :=
  { psdu, phy := 0, option := 0, mcs := 0, fcs32 := false, dw := false, qsuspect := false, settleBody := false, aerialB := false, skipped := false,
    holdover := false, node, sector := 7, layer := 0, channel := 0, centre := 868000, rssi := 0, rssiAlt := 0, noise := 0, evm := 0, snr := 0, lqi := 0,
    detector := 511, lane := 0, start := 0, duration := 100, fcs := 9, fbReq := false }

/-- A MAC command frame of version 2 without addresses, of a security level, a key index and a counter, with a body, a MIC and an FCS. -/
def cmdFrame (level key counter : Nat) (rest : List Byte) : List Byte :=
  [0x0B, 0x20, 0, BitVec.ofNat 8 (level + 8)] ++ leBytes 4 counter ++ [BitVec.ofNat 8 key] ++ rest ++ [0, 0]

/-- Frames in a Facet's receive queue. -/
def withRx (facet : Nat) (l : List RxFrame) (s : State) : State := { s with mesh := { s.mesh with rxQueue := [(facet, l)] } }

/-- The last node's record, with a level of 1 allowed and one frame heard, and its Facet 3 with one frame waiting. -/
def uplink (x : NodeRec) (psdu : List Byte) : State :=
  withRx 3 [heard psdu (some lastNode), heard [1] none] (withNode (sealed { x with secMin := 1, rxFc := 100 }) (chip .activeN))

/-- The frame of `uplink` leaves the queue under counter `i`, and the node's record stays. -/
noncomputable def refusedB (s : State) (i : Nat) : Bool :=
  leaves (.uplinkFrame 0 3 false) s (fun t => decide (rxQueueOf t 3 = [heard [1] none] ∧ ctrGet t .sec 0 i = 1 ∧ t.mesh.nodes = s.mesh.nodes))

set_option maxRecDepth 100000 in
theorem test_witness_UplinkEventsAct :
    [ (let s := uplink node1 []
       meshServes s && leaves (.uplinkFrame 0 3 true) s (fun t => decide (rxQueueOf t 3 = [heard [1] none] ∧ ctrGet t .sec 0 1 = 1) && (restoring t lastNode).isSome)),
      (let s := uplink { node1 with state := 4 } []; recordOk? (nodeOf s lastNode) && refusedB s 1),
      (let s := uplink { node1 with state := 2 } []; refusedB s 0),
      (let s := uplink node1 [0x01, 0x20, 0, 1, 0, 0]; !levelOk (nodeOf s lastNode) (mhrOf [0x01, 0x20, 0, 1]) && refusedB s 2),
      (let s := uplink node1 (cmdFrame 1 5 101 [0, 0, 0, 0]); levelOk (nodeOf s lastNode) (mhrOf (cmdFrame 1 5 101 [0, 0, 0, 0])) && refusedB s 3),
      (let s := uplink node1 (cmdFrame 1 3 36 [0, 0, 0, 0]); counterClass 100 0 36 false == 4 && refusedB s 6),
      (let s := { uplink node1 (cmdFrame 1 3 101 [0, 0, 0, 0]) with
                    keys := { (chip .activeN).keys with caches := [(3, [{ node := lastNode, gen := 3, key := zeros 16 }])] } }
       (cachedKey s 3 lastNode 3).isSome && counterClass 100 0 101 false == 0 && (mhrOf (cmdFrame 1 3 101 [0, 0, 0, 0])).ftype != 1
         && (mhrOf (cmdFrame 1 3 101 [0, 0, 0, 0])).keyIdx == 3 && (mhrOf (cmdFrame 1 3 101 [0, 0, 0, 0])).counter == 101),
      (let s := { chip .activeN with mesh := { (chip .activeN).mesh with joinQueue := [heard [1] none, { heard [1] none with lane := 5 }, { heard [2] none with fcs := 8 }] } }
       leaves (.joinQueueFrame 0) s (fun t => decide (t.mesh.joinQueue = [{ heard [2] none with fcs := 8 }]))),
      (let x : DueAck := { id := 4, frame := heard [] none, facet := 3, node := lastNode, gen := 3, level := 1, counter := 101, tc := 0, nack := false, template := 0,
                           asn := 0, confirm := none, copies := [] }
       let s := { chip .activeN with mesh := { (chip .activeN).mesh with due := [x, { x with id := 6 }] } }
       decide ((heard [] none).endNs + turnaround 0 < nowNs (aft (ms 1) s))
         && leaves (.ackTurnaroundExpiry (ms 1) 4) s (fun t => decide (t.mesh.due = [{ x with id := 6 }] ∧ ctrGet t .mac 0 6 = 1))),
      (let e : CopyEntry := { node := lastNode, gen := 3, counter := 101, fcs := 9, centre := 868000, endAt := 0, sectors := 1, at_ := 0 }
       let s := { chip .activeN with mesh := { (chip .activeN).mesh with copies := [(2, [e]), (3, [e])] } }
       leaves (.copyHoldExpiry (copyHold s) 3) s (fun t => decide (copiesOf t 3 = [] ∧ copiesOf t 2 = [e]))
         && leaves (.copyHoldExpiry (copyHold s - 1) 3) s (fun t => decide (copiesOf t 3 = [e]))),
      (let g : Segment := { kind := .aes, prio := 0, ctx := 0, cmd := none, derive := some (3, lastNode, 3) }
       let s := withSlots [(1, keySlot aesAttr (List.replicate 32 3) 0x4e6b698cead70984)] { uplink node1 [] with keys := { (chip .activeN).keys with engines := [(2, some g)] } }
       (engineOf s 2).any (fun g => g.derive == some (3, lastNode, 3)) && (slotOf s (masterOf s 3)).state == .valid && tagOk s (masterOf s 3)
         && leaves (.keyDerivationDone 0 2) s (fun t => (cachedKey t 3 lastNode 3).any (fun c => c.key.length == 16))),
      (let w : KeyWaiter := { frame := heard [] (some lastNode), facet := 3, since := 0 }
       let s := { chip .activeN with mesh := { (chip .activeN).mesh with waiters := [w, { w with facet := 2 }, { w with since := 1 }] } }
       leaves (.keyWaitExpiry (cfgNat s 0x0822 6 0 * usTicks) 3) s (fun t => decide (t.mesh.waiters = [{ w with facet := 2 }, { w with since := 1 }]))) ].all id
      = true := by decide +kernel

theorem test_witness_UplinkEventsAct_authentic :
    [ (let f := cmdFrame 1 3 101 [0x14, 0x9D, 0xF0, 0xB8]; let s := uplink node1 f; let r := nodeOf s lastNode; let l := psduBody false f
       (findSlot s r (zeros 16) l (mhrOf l) (slotCandidates s r.drift (likelySlot s lastNode r.drift (startMesh s (heard f (some lastNode)))))).isSome) ].all id
      = true := by decide +kernel
/-- A frame sent to the last node, whose acknowledgement window has ended. -/
def sent1 : SentPpdu := { node := lastNode, sector := 7, frame := 0, template := 0, openAt := 0, closeAt := 0, xUsed := 0, scheduled := 0 }

def saved1 : NodeRec := sealed { node1 with rxFc := 77, txLease := 9 }

/-- The last node's record being restored with no command waiting, and a checkpoint of it. -/
def rebuilt (m : ArrayMode) : State :=
  let s := withNode { node1 with check := 1 } (chip .activeN)
  { s with mesh := { s.mesh with restoring := [(lastNode, some none)] },
           store := { s.store with array := { s.store.array with mode := m }, checkpoint := [(lastNode, some saved1)], leases := [(lastNode, 11)] } }

set_option maxRecDepth 100000 in
theorem test_witness_NodeEventsAct :
    [ (let s := chip .activeN
       meshServes s && leaves (.downlinkPlan 0 5) s (fun t => t.mesh.planned == 6)),
      (let s := { chip .activeN with mesh := { (chip .activeN).mesh with planned := 6 } }; occursB (.downlinkPlan 0 5) 0 s s),
      (let s := live [(0x0821, 9, 0, 3)] (withNode (sealed { node1 with drift := { Drift.reset with n := 4, misses := 1 } }) (chip .activeN))
       let s := { s with mesh := { s.mesh with sent := [sent1] } }
       leaves (.ackWindowExpiry (ms 1000) lastNode) s (fun t => decide (t.mesh.sent = [] ∧ (nodeOf t lastNode).drift = { Drift.reset with n := 4, misses := 2 }))),
      (let s := live [(0x0821, 9, 0, 2)] (withNode (sealed { node1 with drift := { Drift.reset with n := 4, misses := 1 } }) (chip .activeN))
       let s := { s with mesh := { s.mesh with sent := [sent1] } }
       leaves (.ackWindowExpiry (ms 1000) lastNode) s (fun t => decide (t.mesh.sent = [] ∧ (nodeOf t lastNode).drift = Drift.reset))),
      (let s := withNode node1 (chip .activeN); let s := { s with mesh := { s.mesh with leasing := [(lastNode, 3)] } }
       leasePending s lastNode == some 3 && !isolated s
         && leaves (.txLeaseExtensionRecorded 0 lastNode) s (fun t => decide ((nodeOf t lastNode).txLease = 3 ∧ leasePending t lastNode = none) && recordOk? (nodeOf t lastNode))),
      (let s := withNode node1 (chip .activeN)
       let s := { s with mesh := { s.mesh with leasing := [(lastNode, 3)] }, chord := { s.chord with twin := { s.chord.twin with isolatedUntil := some 9 } } }
       isolated s && occursB (.txLeaseExtensionRecorded 0 lastNode) 0 s s),
      (let s := withArray (withNode node1 (chip .activeN)); let s := { s with mesh := { s.mesh with dirty := [(lastNode, true)] } }
       let dt := cfgNat s 0x0822 7 0 * msTicks
       arrayUp s && leaves (.checkpoint dt) s (fun t => decide ((t.mesh.checkpoint.map (·.1)) = some [(lastNode, node1)] ∧ t.mesh.dirty = []))
         && occursB (.checkpoint (dt - 1)) (dt - 1) s (aft (dt - 1) s)),
      (let s := { chip .activeN with mesh := { (chip .activeN).mesh with checkpoint := some ([(4, node1), (lastNode, { node1 with state := 0 })], 6) },
                                     store := { (chip .activeN).store with checkpoint := [(lastNode, some node1)] } }
       leaves (.checkpointWritten 0) s (fun t => decide (t.mesh.checkpoint = none ∧ t.store.checkpointAt = some 6 ∧ t.store.checkpoint = [(4, some node1)]))),
      (let s := rebuilt .normal
       recordOk? saved1 && leaves (.nodeRecordRestoreDone 0 lastNode []) s (fun t => decide (restoring t lastNode = none ∧ (nodeOf t lastNode).rxFc = 77 ∧ (nodeOf t lastNode).txFc = 11 * 4096)
           && recordOk? (nodeOf t lastNode))),
      (let s := rebuilt .failed
       !arrayUp s && leaves (.nodeRecordRestoreDone 0 lastNode []) s (fun t => decide (restoring t lastNode = none ∧ (nodeOf t lastNode).state = 4 ∧ (nodeOf t lastNode).eui = 5))),
      (let s := live [(0x0821, 4, 0, 1)] (withNode (sealed { node1 with drift := { Drift.reset with n := 4, tLast := 2 ^ 39 } }) (chip .activeN))
       let s := { s with mesh := { s.mesh with nodes := (4, node1) :: s.mesh.nodes } }
       decide (86400 * 65536 < modelAge s (nodeOf s lastNode).drift)
         && leaves (.driftAgeSweep 0 (facetOf s lastNode)) s (fun t => decide ((nodeOf t lastNode).drift = Drift.reset ∧ nodeOf t 4 = node1))) ].all id
      = true := by decide +kernel

/-- A frame of 3 bytes on chip and one spilled, each at instant 0. -/
def rep1 (dest : Option Nat) (i : Nat) : Replica := { rep0 (meshPort i) 0 with pkt := { pkt0 with dest } }

def toMeshPort (i : Nat) (l : List Replica) (s : State) : State := { s with sw := { s.sw with egress := [(meshPort i, l)] } }

theorem test_witness_DeferredDeliveryActs :
    [ (let s := toMeshPort 7 [rep1 none 7, rep1 (some 5) 7] (chip .activeN)
       meshServes s && leaves (.deferredFrameArrival 0 7) s (fun t => decide (egressList t (meshPort 7) = [rep1 (some 5) 7] ∧ t.mesh.broadcast.length = 1))),
      (let s := live [(0x0A00, 1, 0, 1)] (withDdq lastNode { Ddq.reset with chip := [frame1] } (toMeshPort 7 [rep1 (some lastNode) 7] (chip .activeN)))
       decide (cfgNat s 0x0A00 1 0 < 2)
         && leaves (.deferredFrameArrival 0 7) s (fun t => decide (egressList t (meshPort 7) = [] ∧ ddqOf t lastNode = ddqOf s lastNode ∧ ctrGet t .store 0 1 = 1))),
      (let s := withArray (withDdq lastNode { Ddq.reset with chip := [frame1], spill := [{ frame1 with seq := 1 }] } (chip .activeN))
       let s := live [(0x0A00, 5, 0, 65535), (0x0820, 3, 63, 2 ^ 8 + 2 ^ 16), (0x0820, 4, 4095, 2 ^ 45 + 2 ^ 38 + 63 * 2 ^ 32 + lastNode * 2 ^ 48)] s
       (wakeOf s lastNode).any (fun w => decide (w ≤ meshTime s + 65535 * 1000 * usUnits)) && arrayUp s
         && leaves (.prefetchStart 0 lastNode) s (fun t => decide ((ddqOf t lastNode).prefetch = some (((wakeOf s lastNode).getD 0).toNat, 1) ∧ (ddqOf t lastNode).spill = [{ frame1 with seq := 1 }]))),
      (let s := withDdq lastNode { Ddq.reset with chip := [frame1], spill := [{ frame1 with seq := 1 }], prefetch := some (50 * 1000 * usUnits.toNat, 1) } (chip .activeN)
       leaves (.prefetchComplete 0 lastNode) s (fun t => decide (ddqFrames (ddqOf t lastNode) = [frame1, { frame1 with seq := 1 }] ∧ (ddqOf t lastNode).prefetch = none))),
      (let s := withDdq lastNode { Ddq.reset with prefetch := some (0, 1) } (chip .activeN)
       decide (prefetchDue 0 < meshTime s)
         && leaves (.prefetchDeadline 0 lastNode) s (fun t => decide ((ddqOf t lastNode).late = true ∧ ctrGet t .store 0 4 = 1))) ].all id
      = true := by decide +kernel

theorem test_witness_SectorEventsAct_window :
    [ (let s := on7 id [(0x0820, 3, 63, 2 ^ 8 + 2 ^ 16), (0x0820, 4, 524287, 2 ^ 45 + 2 ^ 39 + 63 * 2 ^ 32 + lastNode * 2 ^ 48)]
                  (withNode (sealed { node1 with drift := { Drift.reset with best := 7 } }) (chip .quiescent))
       let s := { s with cfg := { s.cfg with live := s.radio.applied } }
       datapath s == .quiescent && (sectorWindows s 7).any (fun w => decide (w.1 ≤ meshTime s + 200 * usUnits))
         && leaves (.sectorUngate 0 7) s (fun t => (sectorOf t 7).window.isSome)) ].all id = true := by decide +kernel

/-- A data frame from the EUI-64 address 5, with the FCS of 16 bits. -/
def goodPsdu : List Byte := let b : List Byte := [0x41, 0xE0, 9] ++ leBytes 8 5; b ++ leBytes 2 (fcsOf false b)

theorem test_witness_ReceiveEventsAct_frame :
    [ (let s := withNode node1 (withLane 127 { lane1 with header := some { head1 with length := 13 } } (detecting (chip .activeN)))
       let f := descriptorOf s 127 { lane1 with header := some { head1 with length := 13 } } { head1 with length := 13 } goodPsdu { rssi := 0, alt := none, noise := 0, evm := 0 } 0
       psduOk false goodPsdu && f.node == some lastNode && actsOn f.endNs s
         && leaves (.ppduEnd 0 127 goodPsdu 0 none 0 0 0) s (fun t => decide (laneAt t 127 = none ∧ rxQueueOf t (facetOf s lastNode) = [f]))) ].all id = true := by decide +kernel
/-! ### The cluster -/

/-- Link 11, whose peer is member 3. -/
def link11 (f : ChordLink → ChordLink) (s : State) : State :=
  live [(0x0B00, 4, 11, 3)] { s with chord := { s.chord with links := [(11, f ChordLink.reset)] } }

def msg1 : ChordMsg :=
  { cls := 0x30, src := 0, dst := 3, bcast := false, hops := 0, compat := 0, epoch := 0, seq := 0, stream := 0, body := [] }

def sentFrame (seq : Nat) : SentFrame := { seq, lane := 2, last := true, payload := zeros 32, msg := msg1 }

/-- A frame of a lane, its number and the number it acknowledges, without LAST, and its payload. -/
def wire (lane seq ack : Nat) (payload : List Byte) : List Byte := linkFrame (lane + seq * 16 + ack * 2 ^ 16) payload

theorem test_witness_LinkEventsAct :
    [ (let s := link11 (fun x => { x with expectSeq := 4095 }) (chip .activeN)
       chordRuns s && leaves (.linkFrameReceived 0 11 (zeros 44)) s (fun t => decide ((linkOf t 11).expectSeq = 4095 ∧ (linkOf t 11).ackOwed = false ∧ (linkOf t 11).lock = true ∧ ctrGet t .chord 11 0 = 1))),
      (let s := link11 (fun x => { x with unacked := [sentFrame 4095, sentFrame 0, sentFrame 1], resends := 3 }) (chip .activeN)
       leaves (.linkFrameReceived 0 11 (wire 7 0 0 (zeros 32))) s (fun t => decide ((linkOf t 11).unacked = [sentFrame 1] ∧ (linkOf t 11).resends = 0))),
      (let s := link11 (fun x => { x with expectSeq := 5, partial_ := [(2, [9])] }) (chip .activeN)
       leaves (.linkFrameReceived 0 11 (wire 2 6 0 (zeros 32))) s (fun t => decide ((linkOf t 11).expectSeq = 5 ∧ (linkOf t 11).ackOwed = false ∧ (linkOf t 11).partial_ = [(2, [9])]))),
      (let s := link11 (fun x => { x with expectSeq := 4095, partial_ := [(2, [9])] }) (chip .activeN)
       leaves (.linkFrameReceived 0 11 (wire 2 4095 0 (zeros 32))) s (fun t => decide ((linkOf t 11).expectSeq = 0 ∧ Sparse.get (fun _ => []) (linkOf t 11).partial_ 2 = 9 :: zeros 32))),
      (let s := link11 (fun x => { x with unacked := [sentFrame 4095], resends := 15 }) (chip .activeN)
       leaves (.linkFrameResend (8 * usTicks) 11) s (fun t => decide ((linkOf t 11).unacked = [sentFrame 4095] ∧ (linkOf t 11).resends = 16
         ∧ Output.chord 11 (linkFrame (linkHeader (linkOf s 11) 2 true 4095) (zeros 32)) ∈ t.out))),
      (let s := link11 (fun x => { x with up := true, unacked := [sentFrame 4095], resends := 16 }) (chip .activeN)
       !activeTwin s && leaves (.linkFrameResend (8 * usTicks) 11) s (fun t => !(linkOf t 11).up)),
      (let s := link11 (fun x => { x with up := true, lock := true }) (chip .activeN)
       leaves (.chordLockLoss 0 11) s (fun t => !(linkOf t 11).up && !(linkOf t 11).lock)),
      (let s := link11 id (chip .activeN)
       leaves (.helloSend msTicks) s (fun t => decide (t.chord.helloAt = t.now ∧ ctrGet t .chord 11 3 = 1))
         && occursB (.helloSend (msTicks - 1)) (msTicks - 1) s (aft (msTicks - 1) s)),
      (let s := link11 (fun x => { x with up := true }) (chip .activeN)
       leaves (.helloReceived 0 11 15 (memberId s) 9 9 []) s (fun t => (linkOf t 11).conflict && (List.range 12).all (fun k => !(linkOf t k).up))),
      (let s := link11 (fun x => { x with up := true }) (chip .activeN); let c := s.fw.runCompat.toNat
       leaves (.helloReceived 0 11 15 2 c 0 []) s (fun t => (linkOf t 11).mismatch && !(linkOf t 11).up)),
      (let s := link11 (fun x => { x with lock := true }) (chip .activeN); let c := s.fw.runCompat.toNat
       !twinEnabled s && leaves (.helloReceived 0 11 15 3 c 0 (4 :: zeros 63)) s (fun t => (linkOf t 11).up && !(linkOf t 11).mismatch
         && (linkOf t 11).hello.any (fun h => decide (h = (3, 0, merInt t))) && (memberOf t 3).known && (memberOf t 3).mode == 4)),
      (let s := peer 3 (fun m => { m with lostAt := some 0, present := true }) (link11 id (chip .activeN))
       !reachable s 3 && leaves (.memberUnreachable (10 * msTicks) 3) s (fun t => !(memberOf t 3).present && (memberOf t 3).lostAt.isNone)
         && occursB (.memberUnreachable (10 * msTicks - 1) 3) (10 * msTicks - 1) s (aft (10 * msTicks - 1) s)) ].all id
      = true := by decide +kernel
/-- The chip as member 1 of a twin pair with member 0, heard before, over link 11. -/
def twinned (m : Mode) (f : TwinState → TwinState) : State :=
  let s := live [(0x0B00, 3, 0, 1), (0x0B00, 1, 0, 1), (0x0B00, 2, 0, 3), (0x0B00, 4, 11, 0)] (peer 0 id (chip m))
  { s with chord := { s.chord with links := [(11, { ChordLink.reset with up := true, lock := true })], twin := f s.chord.twin } }

/-- A twin's message meets the hypotheses and has an effect on the twin's state. -/
def twinB (c : Instr) (s : State) (p : TwinState → Bool) : Bool :=
  twinHeardB 0 s.fw.runCompat.toNat 0 s && leaves c s (fun t => p t.chord.twin)

theorem test_witness_TwinEventsAct_lease :
    [ (let s := twinned .activeN (fun w => { w with held := true, renewal := 7 })
       chordRuns s && twinLinks s == [11]
         && leaves (.leaseSend (250 * usTicks)) s (fun t => decide (t.chord.twin.renewal = 8 ∧ t.chord.twin.leaseSentAt = t.now ∧ ctrGet t .chord 11 4 = 1))
         && occursB (.leaseSend (250 * usTicks - 1)) (250 * usTicks - 1) s (aft (250 * usTicks - 1) s)),
      (let s := twinned .standbyN (fun w => { w with gen := 6 }); let c := s.fw.runCompat.toNat
       twinHeardB 0 c 0 s && standby s
         && leaves (.leaseReceived 0 11 0 c 0 (leBytes 4 6)) s (fun t => decide (t.chord.twin.gen = 6 ∧ t.chord.twin.leaseAt = some 0 ∧ ctrGet t .chord 11 5 = 1))
         && leaves (.leaseReceived 0 11 0 c 0 (leBytes 4 5)) s (fun t => decide (t.chord.twin.gen = 6 ∧ t.chord.twin.leaseAt = none))),
      (let s := twinned .standbyN id; let c := s.fw.runCompat.toNat
       twinB (.handoffReceived 0 0 c 0 (leBytes 4 0 ++ leBytes 5 77 ++ leBytes 3 8)) s (fun w =>
         decide (w.handover = some { slot := 77, outgoing := false, trigger := 8, offer := none, done := false }))),
      (let s := twinned .standbyN (fun w => { w with handover := some { slot := 77, outgoing := false, trigger := 8, offer := none, done := false } }); let c := s.fw.runCompat.toNat
       outranks s 7 && twinB (.handoffReceived 0 0 c 0 (leBytes 4 1 ++ leBytes 4 9 ++ leBytes 4 (receivedSum s))) s (fun w => decide (w.gen = 9) && w.held && w.synced)),
      (let s := twinned .activeN (fun w => { w with held := true, gen := 6 }); let c := s.fw.runCompat.toNat
       twinB (.leaseAckReceived 0 0 c 0 (leBytes 4 6)) s (fun w => w.ackAt == some 0) && twinB (.leaseAckReceived 0 0 c 0 (leBytes 4 5)) s (fun w => w.ackAt == none)),
      (let s := twinned .activeN id; let c := s.fw.runCompat.toNat; let body := leBytes 4 (2 ^ 12)
       twinB (.healthReceived 0 0 c 0 body) s (fun w => w.health == body && w.healthAt == some 0 && w.healthOk && w.healthySince.isSome)),
      (let s := twinned .activeN (fun w => { w with held := true, ackAt := some 0, synced := true })
       activeTwin s && leaves (.leaseAckTimeout (500 * usTicks)) s (fun t => decide (t.chord.twin.peerLost = true ∧ t.chord.twin.synced = false
           ∧ t.chord.twin.isolatedUntil = some (t.now + cfgNat s 0x0B00 10 0 * 100 * msTicks)))
         && occursB (.leaseAckTimeout (500 * usTicks - 1)) (500 * usTicks - 1) s (aft (500 * usTicks - 1) s)),
      (let s := twinned .standbyN (fun w => { w with leaseAt := some 0 }); let dt := 1100 * usTicks
       leaseExpired (aft dt s) && outranks s 7 && (failing s).isSome
         && leaves (.leaseExpiry dt) s (fun t => decide (t.chord.twin.blocked = failing (aft dt s) ∧ t.mode.trans = none))),
      (let s := peer 0 (fun m => { m with mode := Mode.activeN.code }) (twinned .standbyN (fun w => { w with leaseAt := some 0, synced := true, ownHealthy := true, genHigh := 8 })); let dt := 1100 * usTicks
       failing s == none && leaves (.leaseExpiry dt) s (fun t => decide (t.chord.twin.held = true ∧ t.chord.twin.gen = 9
           ∧ t.mode.trans.map (fun r => (r.row, r.trigger)) = some (8, 7)))) ].all id = true := by decide +kernel

theorem test_witness_TwinEventsAct_handover :
    [ (let s0 := twinned .activeN (fun w => { w with startupAt := some 0, genHigh := 8 }); let s := { s0 with chord := { s0.chord with links := [] } }
       leaves (.twinStartupWait (10 * msTicks)) s (fun t => decide (t.chord.twin.startupAt = none ∧ t.chord.twin.held = true ∧ t.chord.twin.gen = 9))
         && occursB (.twinStartupWait (10 * msTicks - 1)) (10 * msTicks - 1) s (aft (10 * msTicks - 1) s)),
      (let s := twinned .activeN (fun w => { w with isolatedUntil := some 5 })
       leaves (.isolationHoldExpiry 5) s (fun t => t.chord.twin.isolatedUntil == none) && occursB (.isolationHoldExpiry 4) 4 s (aft 4 s)),
      (let h : Handover := { slot := 0, outgoing := true, trigger := 8, offer := none, done := false }
       let s := twinned .activeN (fun w => { w with held := true, handover := some h })
       handoverDue s h && leaves (.handoverInstant 0) s (fun t => decide (t.chord.twin.held = false ∧ t.chord.twin.handover = some { h with done := true }
           ∧ t.mode.trans.map (fun r => (r.row, r.toMode)) = some (9, .standbyN)))),
      (let h : Handover := { slot := 0, outgoing := false, trigger := 8, offer := none, done := false }
       let s := twinned .standbyN (fun w => { w with handover := some h })
       decide (slotStart s 0 + 1000 * usUnits ≤ meshTime (aft (ms 1) s)) && leaves (.handoffTimeout (ms 1)) s (fun t => t.chord.twin.handover == none)),
      (let s := twinned .standbyN id; let dt := 100 * msTicks
       !leaseExpired (aft dt s) && leaves (.healthSend dt) s (fun t => decide (t.chord.twin.healthSentAt = t.now ∧ t.integ.reportSeq = s.integ.reportSeq + 1))),
      (let s := twinned .activeN (fun w => { w with healthAt := some 0, healthOk := true, healthySince := some 0 })
       leaves (.healthGap (300 * msTicks + 1)) s (fun t => decide (t.chord.twin.healthOk = false ∧ t.chord.twin.healthySince = none))),
      (let s := live [(0x0B00, 7, 0, 1)] (peer 0 (fun m => { m with mode := Mode.standbyN.code })
                  (twinned .activeN (fun w => { w with held := true, synced := true, healthOk := true, healthySince := some 0 })))
       let dt := cfgNat s 0x0B00 8 0 * secTicks
       standbyMeets (aft dt s) && memberId s == 1 && leaves (.revertHoldExpiry dt) s (fun t => decide (t.chord.twin.handover
           = some { slot := slotAfter 5000 (aft dt s), outgoing := true, trigger := 8, offer := none, done := false }))) ].all id = true := by decide +kernel
/-- A message meets `TwinHeard` and its effect is as given. -/
def replB (c : Instr) (s : State) (p : State → Bool) : Bool := twinHeardB 0 s.fw.runCompat.toNat 0 s && leaves c s p

/-- The standby with the next number of a stream. -/
def nextOf (cls part next : Nat) (s : State) : State := modTwin (fun w => { w with rxSeq := [(streamKey cls 1 part, next)], synced := true }) s

set_option maxRecDepth 100000 in
theorem test_witness_ReplicationActs :
    [ (let s := nextOf 0x10 1023 6 (twinned .standbyN id); let c := s.fw.runCompat.toNat; let body := leBytes 4 lastNode ++ leBytes 4 77 ++ node1.bytes
       memberId s == 1 && standby s && replB (.replNodeReceived 0 0 c 0 5 body) s (fun t => decide (shortOf t lastNode = 77 ∧ t.chord.twin.synced = true
           ∧ nodeOf t lastNode = { recordOf (slice body 8 64) with check := (nodeOf t lastNode).check }))
         && replB (.replNodeReceived 0 0 c 0 6 body) s (fun t => decide (shortOf t lastNode = 77 ∧ t.chord.twin.synced = false))),
      (let s := withDdq lastNode { Ddq.reset with chip := [frame1], spill := [{ frame1 with seq := 1 }] } (nextOf 0x12 1023 6 (twinned .standbyN id)); let c := s.fw.runCompat.toNat
       replB (.replDdqReceived 0 0 c 0 5 (leBytes 4 lastNode ++ [2])) s (fun t => decide (ddqFrames (ddqOf t lastNode) = [{ frame1 with seq := 1 }]))
         && replB (.replDdqReceived 0 0 c 0 5 (leBytes 4 lastNode ++ [3])) s (fun t => decide (ddqFrames (ddqOf t lastNode) = []))),
      (let s := nextOf 0x30 0 6 (twinned .standbyN id); let c := s.fw.runCompat.toNat; let body := leBytes 2 1 ++ leBytes 2 17 ++ zeros 12 ++ [1]
       (recordFrom body).type == 1 && !blockFull [] (recordFrom body)
         && replB (.jrnlMirrorReceived 0 0 c 0 5 body) s (fun t => decide (t.store.journal.open_ = [recordFrom body]))),
      (let s := withSlots [(4, kek), (1022, keySlot 0 [1] 0)] (nextOf 0x20 0 6 (twinned .standbyN id)); let c := s.fw.runCompat.toNat
       slotOwner (slotOf s 1022) == 0
         && replB (.replKeyReceived 0 0 c 0 5 (leBytes 2 1022 ++ leBytes 2 2)) s (fun t => decide (slotOf t 1022 = KeySlot.reset ∧ slotOf t 4 = kek))
         && replB (.replKeyReceived 0 0 c 0 5 (leBytes 2 1023 ++ leBytes 2 2)) s (fun t => decide (t.chord.twin.synced = false ∧ t.keys.slots = s.keys.slots))),
      (let x : ConfirmWait := { node := lastNode, seq := 4, sentAt := 0, ack := 3 }
       let s := twinned .activeN (fun w => { w with waits := [x, { x with node := 1 }] }); let c := s.fw.runCompat.toNat
       replB (.replConfirmReceived 0 0 c 0 (leBytes 4 lastNode ++ leBytes 4 4)) s (fun t => decide (t.chord.twin.waits = [{ x with node := 1 }]))
         && leaves (.replConfirmTimeout (30 * usTicks)) s (fun t => decide (t.chord.twin.waits = []))
         && leaves (.replConfirmTimeout (30 * usTicks - 1)) s (fun t => decide (t.chord.twin.waits = s.chord.twin.waits))),
      (let s := twinned .activeN id; let c := s.fw.runCompat.toNat
       activeTwin s && replB (.resyncMessageReceived 0 0 c 0 (leBytes 4 3)) s (fun t => t.chord.twin.synced)),
      (let r : Resync := { since := 0, ended := [0x10], marks := [], nodes := [], queues := [], failed := false }
       let s := twinned .standbyN (fun w => { w with resync := some r }); let c := s.fw.runCompat.toNat
       replB (.resyncMessageReceived 0 0 c 0 (leBytes 4 2 ++ leBytes 2 0x12)) s (fun t => decide (t.chord.twin.resync.map (·.ended) = some [0x12, 0x10]))),
      (let r : Resync := { since := 0, ended := [0x30, 0x20, 0x12, 0x10], marks := [(streamKey 0x10 1 0, 7)], nodes := [], queues := [], failed := false }
       let s := nextOf 0x10 0 8 (twinned .standbyN (fun w => { w with resync := some r, job := some 1 }))
       let s := { s with chord := { s.chord with twin := { s.chord.twin with synced := false }, members := [(0, { memberOf s 0 with checks := [0, 0] })] } }
       checkValues s == [0, 0] && markReached s (streamKey 0x10 1 0, 7)
         && leaves (.bulkResyncComplete 0) s (fun t => decide (t.chord.twin.synced = true ∧ t.chord.twin.resync = none ∧ t.chord.twin.job = none))),
      (let s := twinned .activeN (fun w => { w with synced := true, backfill := 4, backfillTo := some 9 })
       replicates s && occursB (.journalBackfill 0) 0 s (modTwin (fun x => { x with backfill := 9, backfillTo := none }) s)),
      (let s := twinned .activeN (fun w => { w with synced := true, backfill := 4, backfillTo := some 9 })
       let s := { s with store := { s.store with journal := { s.store.journal with blocks := [block8] } } }
       leaves (.journalBackfill secTicks) s (fun t => decide (t.chord.twin.backfill = 9 ∧ t.chord.twin.backfillAt = t.now))) ].all id = true := by decide +kernel
/-! ### The UR-340 interface -/

/-- The UR ring of a chip with the profile in force, with one command waiting. -/
def urChip (m : Mode) : State := ur (fun c => { c with run := true, cmdTail := 1, rspBase := 0x4000 }) (chip m)

def urCmd (param : List Byte) : UrEntry := { tag := 9, paramLen := BitVec.ofNat 16 param.length, param }

/-- `UrAnswered` at one state. -/
def urAnsweredB (k : Cmd) (st : Status) (data : List Byte) (s t : State) : Bool :=
  decide (Output.hostWrite .h0 (s.compat.rspBase.toNat + 64 * (s.compat.rspTail.toNat % urRingSize s)) (urResponseBytes t k st.urCode data) ∈ t.out
    ∧ t.compat.cmdHead = s.compat.cmdHead + 1 ∧ t.compat.rspTail = s.compat.rspTail + 1 ∧ t.compat.inFlight = none)

/-- `UrOnly` at one state. -/
def urOnlyB (s t : State) : Bool :=
  decide (t = { s with out := t.out, host := { s.host with lastServed := t.host.lastServed },
                       compat := { s.compat with cmdHead := t.compat.cmdHead, rspTail := t.compat.rspTail, inFlight := t.compat.inFlight, irqStatus := t.compat.irqStatus } })

/-- A command that runs, answers OK with data and leaves what a check accepts. -/
def urOkB (c : Instr) (s : State) (data : List Byte) (p : State → Bool) : Bool :=
  urRunsB c s && leaves c s (fun t => urAnsweredB (urTaken c) .ok data s t && p t)

/-- `UrReads` at one state. -/
def urReadsB (c : Instr) (s : State) (data : List Byte) : Bool := urOkB c s data (urOnlyB s)

/-- A node of UR number 16383. -/
def urNode (x : NodeRec) : State := let s := urChip .activeC; { s with mesh := { s.mesh with nodes := [(16383, sealed x)], shorts := [(16383, 6)] } }

set_option maxRecDepth 100000 in
theorem test_witness_UrCommandsAct :
    [ (let s := urChip .activeC; urReadsB (.urGetVersion (urCmd [])) s (leBytes 4 0x034000C2 ++ leBytes 4 0x00040002 ++ leBytes 4 s.fw.runVersion.toNat)),
      (let s := urChip .activeC
       urReadsB (.urGetStatus (urCmd [])) s (leBytes 4 (urStatus s) ++ leBytes 4 (s.mesh.nodes.filter (fun n => n.2.state != 0)).length ++ leBytes 4 (urTime s) ++ leBytes 1 (urLinks s))),
      (let s := urChip .activeC; urReadsB (.urTimeGet (urCmd [])) s (leBytes 4 (urTime s) ++ leBytes 6 (nowSec s) ++ leBytes 4 (nowNanos s))),
      (let s := urChip .config; let u := urCmd [0]; decide (urTarget 0 = some .config) && urReadsB (.urSetState u) s []),
      (let s := urChip .activeC; let u := urCmd [0]
       decide (rowOf s .config = some 7 ∧ firstFalse 1 (preconditions (urStarted (.urSetState u) s) 7 .config false) = none) && urRunsB (.urSetState u) s
         && leaves (.urSetState u) s (fun t => t.mode.trans.any (fun x =>
              decide (x.row = 7 ∧ x.fromMode = .activeC ∧ x.toMode = .config ∧ x.trigger = 1 ∧ x.since = s.now ∧ x.limit = rowLimit 7)))),
      (let s0 := twinned .activeC (fun w => { w with held := true, synced := true, healthOk := true })
       let s := ur (fun c => { c with run := true, cmdTail := 1, rspBase := 0x4000 }) (peer 0 (fun m => { m with mode := Mode.standbyC.code }) s0); let u := urCmd []
       urRunsB (.urTwinSwitch u) s && rowOf s .standbyC == some 10 && firstFalse 1 (preconditions (urStarted (.urTwinSwitch u) s) 10 .standbyC false) == none
         && leaves (.urTwinSwitch u) s (fun t => decide (t = framed false s (beginRow 10 .standbyC false { urTaken (.urTwinSwitch u) with req := leBytes 1 Mode.standbyC.code ++ zeros 7 }
              (urStarted (.urTwinSwitch u) s))))),
      (let s := live [(0x0822, 3, 0, 5)] (withSlots [(0, keySlot urKeyAttr (List.replicate 32 3) 0xbbe1a9fb717a3333)] (withLife .provisioned (urChip .config))); let u := urCmd ([1] ++ zeros 32)
       let slot : Nat := if masterSlot s 1 then 3 else 1
       let w := stageField 16 0x0822 2 0 (slot : Int) (createSlot slot urKeyAttr (slice u.param 1 32) (urStarted (.urKeySet u) s))
       urRunsB (.urKeySet u) s && Sparse.wf (fun _ => none) s.cfg.staged && !usesParity s 1 && !twinEnabled s && (slotOf s slot).state == .empty && decide (lockedBy s 16 0x0822 = none)
         && stageable w 0x0822 && decide (refusedBy (postCommit [0x0822] w).1 w (postCommit [0x0822] w).2 [0x0822] = none)
         && urOkB (.urKeySet u) s [] (fun t => decide ((slotOf t slot).state = .valid ∧ (slotOf t slot).attr = BitVec.ofNat 32 urKeyAttr ∧ cfgNat t 0x0822 2 0 = slot))),
      (let s := urChip .config; let c := Instr.urTwinSwitch (urCmd [])
       urRunsB c s && leaves c s (fun t => urAnsweredB (urTaken c) .modeRefused [] s t && urOnlyB s t)),
      (let s := urChip .activeC; let c := Instr.urClearStats (urCmd [])
       let s := ctrInc .port 7 44 (ctrInc .tx 7 14 (ctrInc .mac 0 20 (ctrInc .sec 0 14 s)))
       urOkB c s [] (fun t => ctrGet t .port 7 44 == 0 && ctrGet t .tx 7 14 == 0 && ctrGet t .mac 0 20 == 0 && ctrGet t .sec 0 14 == 0)),
      (let s := urChip .activeC
       urReadsB (.urPortGet (urCmd [7])) s (leBytes 1 (b2n (portCfg s 7 1 != 0)) ++ leBytes 2 (portCfg s 7 8)
        ++ leBytes 1 (b2n (portCfg s 7 10 == 0)) ++ leBytes 1 (b2n (bit s.compat.uplink.toNat 7)) ++ leBytes 1 (b2n (swPort s 7).linkUp))),
      (let s := ctrInc .port 7 42 (ctrInc .port 7 1 (ctrInc .port 6 1 (urChip .activeC)))
       urOkB (.urPortStats (urCmd [7])) s (([1, 0, 0, 0, 0, 0, 0, 1].map (fun v => leBytes 4 v)).flatten)
         (fun t => ctrGet t .port 7 1 == 0 && ctrGet t .port 7 42 == 0 && ctrGet t .port 6 1 == 1 && urOnlyB { s with ctr := t.ctr } t)),
      (let s := withL2 l2Entry1 (urChip .activeC)
       urOkB (.urL2Flush (urCmd ([0xFF] ++ leBytes 2 0))) s (leBytes 8 1) (fun t => (entryAt t.sw.l2 ((l2Places 9 2).headD 0)).isNone)),
      (let s := urChip .activeC; let r := leBytes 2 16383 ++ leBytes 8 5 ++ leBytes 2 0xFFFF ++ [3] ++ leBytes 4 9
       urOkB (.urNodeAdd (urCmd r)) s [] (fun t => let x := nodeOf t 16383
         decide (shortOf t 16383 = 0xFFFF ∧ x.eui = 5 ∧ x.state = 1 ∧ x.keyGen = 3 ∧ x.rxFc = 9 ∧ x.secMin = 5))),
      (let s := urNode node1; let x := nodeOf s 16383
       urReadsB (.urNodeGet (urCmd (leBytes 2 16383))) s (leBytes 8 5 ++ leBytes 1 (nodeState s 16383) ++ leBytes 1 3
          ++ leBytes 4 x.rxFc.toNat ++ leBytes 4 x.txFc.toNat ++ leBytes 1 (urNodeRssi x) ++ leBytes 2 x.rxFrames.toNat)),
      (let s := urNode node1; urOkB (.urNodeDel (urCmd (leBytes 2 16383))) s [] (fun t => decide ((nodeOf t 16383).state = 0 ∧ shortOf t 16383 = 0xFFFF))),
      (let s := urNode node1
       urOkB (.urNodeRekey (urCmd (leBytes 2 16383))) s (leBytes 4 (pendingGen node1)) (fun t => decide ((nodeOf t 16383).rekey = true ∧ (nodeOf t 16383).eui = 5))),
      (let s := urNode { node1 with state := 2, secFails := 4 }
       urOkB (.urNodeBlock (urCmd (leBytes 2 16383 ++ [0]))) s [] (fun t => decide ((nodeOf t 16383).state = 1 ∧ (nodeOf t 16383).secFails = 0))
         && urOkB (.urNodeBlock (urCmd (leBytes 2 16383 ++ [1]))) s [] (fun t => decide ((nodeOf t 16383).state = 2))),
      (let s := urChip .activeC; let r := leBytes 6 100 ++ leBytes 4 5
       let m := { s.time.mer with stRate := BitVec.ofInt 40 s.time.mer.rate, stHold := s.time.mer.hold, adjMode := 2, adjSec := BitVec.ofNat 48 100, adjNs := BitVec.ofNat 32 5 }
       !s.time.mer.ownerFw && !s.time.mer.commit.busy && decide (firstFailing (merChecks m) = none)
         && urOkB (.urTimeSet (urCmd r)) s [] (fun t => decide ((t.time.mer.baseT : Int) = newBase m ∧ t.time.mer.baseC = s.time.mer.c))),
      (let s := urChip .activeC; let u := urCmd []
       !urListed 0xFF && served s 16 && leaves (.urUnlistedOpcode 0xFF u) s (fun t => urAnsweredB (urCmdOf 0xFF u) .badOpcode [] s t && urOnlyB s t)
         && leaves (.urUnlistedOpcode 0x92 u) s (fun t => urAnsweredB (urCmdOf 0x92 u) .modeRefused [] s t)) ].all id = true := by decide +kernel
/-- `UrMayCommit` at one state. -/
def urMayB (c : Instr) (fields : List (Nat × Nat × Nat × Int)) (s : State) : Bool :=
  let names := (fields.map (·.1)).eraseDups
  let w := urStaged c fields s
  names.all (fun g => (lockedBy s 16 g).isNone) && decide (s.mode.mode ≠ .service) && s.sw.commitWait.isEmpty && !s.sw.shadow && names.all (stageable w)
    && (decide (s.mode.mode = .config) || !(names.any (changesConfigOnly w))) && decide (refusedBy (postCommit names w).1 w (postCommit names w).2 names = none)

/-- `UrCommits` at one state, its command running and its premise met. -/
def urCommitsB (c : Instr) (fields : List (Nat × Nat × Nat × Int)) (s : State) (data : List Byte) : Bool :=
  urRunsB c s && urMayB c fields s && leaves c s (fun t => decide (t = framed false s (urRespond (urTaken c) Status.ok.urCode data (urLive c fields s))))

set_option maxRecDepth 100000 in
theorem test_witness_UrCommitsAct :
    [ (let v := urChip .config; let k := urCmdOf 0x01 (urCmd []); let t := urRespond k 0 [] v
       decide (v.compat.run = true ∧ t.compat.rspTail = 1 ∧ t.compat.irqStatus.getLsbD 0 = true ∧ t.compat.inFlight = none)
         && t.out.contains (.hostWrite .h0 0x4000 (urResponseBytes v k 0 []))),
      (let s := urChip .config; let u := urCmd [7, 1, 9, 0, 1, 1]
       let fields : List (Nat × Nat × Nat × Int) := [(0x0207, 1, 0, 1), (0x0207, 8, 0, 9), (0x0207, 10, 0, 0)]
       !urMode s && urRunsB (.urPortSet u) s && urMayB (.urPortSet u) fields s
         && leaves (.urPortSet u) s (fun t => let v := urLive (.urPortSet u) fields s
              decide (t = framed false s (urRespond (urTaken (.urPortSet u)) 0 [] { v with compat := { v.compat with uplink := 0x80 } })))),
      (let s := urChip .config
       urCommitsB (.urL2Add (urCmd (leBytes 6 2 ++ leBytes 2 4094 ++ [7]))) [(0x0703, 1, 0, 1 + 4 * (2 + 4094 * 2 ^ 48 + 7 * 2 ^ 60 + 2 ^ 67 + 2 ^ 91))] s []),
      (let s := withL2 l2Entry1 (urChip .config)
       urCommitsB (.urL2Del (urCmd (leBytes 6 2 ++ leBytes 2 9))) [(0x0703, 1, 0, 2 + 4 * (2 + 9 * 2 ^ 48))] s []),
      (let s := urChip .config; let c := Instr.urL2Del (urCmd (leBytes 6 2 ++ leBytes 2 9))
       urRunsB c s && leaves c s (fun t => urAnsweredB (urTaken c) .notFound [] s t && urOnlyB s t)),
      (let s := urChip .config
       urCommitsB (.urL2Age (urCmd (leBytes 2 16383))) [(0x0700, 4, 0, 1), (0x0700, 6, 0, 32766)] s []
         && urCommitsB (.urL2Age (urCmd (leBytes 2 0))) [(0x0700, 4, 0, 0)] s []),
      (let s := live [(0x0900, 2, 0, 1), (0x0901, 2, 0, 1)] (urChip .config); let u := urCmd (leBytes 4 25000 ++ leBytes 4 900000 ++ [1, 1] ++ leBytes 2 8 ++ leBytes 2 56)
       urRunsB (.urMeshCfg u) s && urWidth 900000 1 == some 0 && urMayB (.urMeshCfg u) (meshCfgFields s 25000 900000 1 1 8 56 0) s),
      (let s := urChip .config; let u := urCmd ([7] ++ leBytes 2 0 ++ leBytes 2 0 ++ leBytes 2 16383 ++ [1])
       freeLink s == some 0 && urRunsB (.urLinkAdd u) s),
      (let s := live [(0x0820, 3, 7, 2 ^ 8 + 101 * 2 ^ 16), (0x0820, 1, 0, 1)] (urChip .config); let u := urCmd ([7] ++ leBytes 2 0 ++ leBytes 2 0 ++ leBytes 2 16383 ++ [1])
       urCommitsB (.urLinkAdd u) [(0x0820, 4, 0, 7 * 2 ^ 32 + 2 ^ 38 + 2 ^ 45 + 16383 * 2 ^ 48)] s (leBytes 4 0)),
      (let s := urChip .config; let u := urCmd (leBytes 4 524287)
       urCommitsB (.urLinkDel u) [(0x0820, 4, 524287, 0)] s []),
      (let s := live [(0x0820, 1, 0, 1)] (urChip .config); let u := urCmd ([7] ++ leBytes 2 101 ++ [1])
       urCommitsB (.urSlotframeSet u) [(0x0820, 3, 7, 7 + 2 ^ 8 + 101 * 2 ^ 16)] s []),
      (let s := urChip .config; let u := urCmd [1, 0]
       urCommitsB (.urTwinCfg u) [(0x0B00, 1, 0, 1), (0x0B00, 2, 0, 3), (0x0B00, 3, 0, 0), (0x0B00, 4, 0, 0), (0x0B00, 4, 1, 0)] s []),
      (let s0 := chip .activeN; let s := { s0 with sw := { s0.sw with shadow := true, banks := [] } }
       epochsDrained s && occursB (.shadowMerge 0) 0 s { s with sw := { s.sw with shadow := false, banks := [], commitWait := [] } }) ].all id = true := by decide +kernel
/-! ### Registers -/

/-- A write of a W1C bit as 1 that hardware sets at once leaves it set. -/
def staysB (s : State) (bar : Bar) (off i : Nat) (f : State → Bool) : Bool :=
  let v := BitVec.ofNat 32 (2 ^ i)
  f s && leaves (.w1cClear .h1 bar off v v) s f

theorem test_witness_RegisterAccessesAct :
    [ (let s := chip .config
       nativeBar0 s .h1 && leaves (.rlLowRead .h1 .bar0 0) s (fun t => decide (t = { s with out := [.regRead (BitVec.ofNat 32 (bar0Reg s .h1 0))] }))),
      (let s := urChip .activeC
       !nativeBar0 s .h0 && leaves (.rlLowRead .h0 .bar0 0) s (fun t => decide (t = { s with out := [.regRead (BitVec.ofNat 32 (urReg s 0))] }))),
      (let s := mer (fun m => { m with c := 5 * 2 ^ 32 + 7 }) (chip .config)
       !s.time.mer.gated && leaves (.rlLowRead .h1 .bar2 0) s (fun t => decide (t.out = [.regRead 7] ∧ bar2Reg t .h1 4 = 5 ∧ bar2Reg t .h0 4 = bar2Reg s .h0 4))
         && leaves (.rlLowRead .h1 .bar2 8) s (fun t => decide (t.out = [.regRead (BitVec.ofNat 32 (nowNanos s))] ∧ bar2Reg t .h1 0x0C = lo32 (nowSec s) ∧ bar2Reg t .h1 0x14 = 7 ∧ bar2Reg t .h1 0x18 = 5))),
      (let s := mer (fun m => { m with gated := true, c := 7 }) (chip .config)
       leaves (.gatedTimeRead .h1 0 3) s (fun t => decide (t.time.mer.gated = false ∧ t.time.mer.c = (ungateClock 3 s).time.mer.c ∧ t.time.mer.madeUp = true))),
      (let s := chip .config
       !s.time.mer.ownerFw && leaves (.registerWrite .h1 .bar2 0x2C 0xFFFFFFFF) s (fun t => decide (t.time.mer.adjNs = 0xFFFFFFFF))
         && leaves (.registerWrite .h1 .bar2 0x28 0x102) s (fun t => decide (t.time.mer.adjMode = 2 ∧ t.time.mer.stHold = true))
         && leaves (.registerWrite .h1 .bar2 0 9) s (fun t => decide (t = { s with out := [] }))
         && leaves (.registerWrite .h1 .bar0 0 9) s (fun t => decide (t = { s with out := [] }))),
      (let s := chip .config
       leaves (.registerWrite .h1 .bar2 (0x110 + 0x40 * 7) 9) s (fun t => decide ((toutOf t 7).staged.periodNs = 9 ∧ (toutOf t 7).live = (toutOf s 7).live ∧ toutOf t 6 = toutOf s 6))),
      (let s := ur id (chip .activeC)
       urAnswers s && !nativeBar0 s .h0 && leaves (.registerWrite .h0 .bar0 0x28 0x90A05) s (fun t => decide (t.compat.ringSize = 0x0A05))
         && leaves (.registerWrite .h0 .bar0 0x28 0x0606) (urChip .activeC) (fun t => decide (t = { urChip .activeC with out := [] }))),
      (let s := arcs 31 { ArcCh.reset with matched := true, late := true } (chip .config)
       !s.time.arcReserved.getLsbD 31 && leaves (.w1cClear .h1 .bar2 (0x8134 + 0x40 * 31) 0x24 0x20) s (fun t => decide ((arcOf t 31).matched = false ∧ (arcOf t 31).late = true))),
      (let s := q15 .running (fun q => { q with owner := some .h1, dbErr := true, fetchErr := true, foreignWrite := true }) (chip .config)
       (queueOf s 15).owner == some .h1 && leaves (.w1cClear .h1 .bar0 (0x1014 + 0x40 * 15) 0x09000000 0x01000000) s (fun t => decide ((queueOf t 15).dbErr = false
         ∧ (queueOf t 15).fetchErr = true ∧ (queueOf t 15).foreignWrite = true))),
      (let s := ur (fun c => { c with irqStatus := 15 }) (chip .activeC)
       leaves (.w1cClear .h0 .bar0 0x10 0x7 0x4) s (fun t => decide (t.compat.irqStatus = 0xC))) ].all id = true := by decide +kernel

theorem test_witness_HardwareSetBitStays :
    [ (let s := q15 .running (fun q => { q with owner := some .h1, dbErr := true, fetchErr := true, cqWriteErr := true, foreignWrite := true }) (chip .config)
       staysB s .bar0 0x13D4 27 (fun t => (queueOf t 15).dbErr) && staysB s .bar0 0x9014 24 (fun t => (queueOf t 15).foreignWrite)),
      (let s := ur (fun c => { c with irqStatus := 15 }) (chip .activeC); staysB s .bar0 0x10 3 (fun t => t.compat.irqStatus.getLsbD 3)),
      (let s := touts 7 { Tout.reset with done := true } (chip .config); staysB s .bar2 (0x128 + 0x40 * 7) 1 (fun t => (toutOf t 7).done)),
      (let s := tins 7 { Tin.reset with commit := { Tin.reset.commit with refused := true } } (chip .config); staysB s .bar2 (0x414 + 0x20 * 7) 28 (fun t => (tinOf t 7).commit.refused)),
      (let s := arcs 31 { ArcCh.reset with matched := true, late := true } (chip .config)
       staysB s .bar2 (0x8134 + 0x40 * 31) 5 (fun t => (arcOf t 31).late) && staysB s .bar2 0x8008 31 (fun t => (arcOf t 31).matched)),
      (let s := mer (fun m => { m with foreignWrite := true, madeUp := true, commit := { m.commit with refused := true } }) (chip .config)
       staysB s .bar2 0x44 5 (fun t => t.time.mer.foreignWrite) && staysB s .bar2 0x44 4 (fun t => t.time.mer.madeUp)
         && staysB s .bar2 0x40 28 (fun t => t.time.mer.commit.refused)) ].all id = true := by decide +kernel

theorem test_witness_ModesAndLifeCycleAreEncoded :
    [ (let e := cmd []; let s := chip .island; cmdRunsB (.sysIdentify e) s && leaves (.sysIdentify e) s (fun t => t.out != [])) ].all id = true := by decide +kernel
end Sys2Proof.Tests
end

section
/-!
PROOF of O58 (R5): what a write of W1C bits does to each register, and that a bit which hardware sets in the same cycle,
so that the write does not clear it, stays set.
-/
namespace Sys2Proof.Machine

/-! ### Blocks of registers -/

theorem blockAt_eq_some {base size n off i r : Nat} (hi : i < n) (hr : r < size) (ho : off = base + size * i + r) :
    blockAt base size n off = some (i, r) := by
  have hmul : size * i + size ≤ size * n := Nat.mul_succ size i ▸ Nat.mul_le_mul_left size hi
  have hsub : off - base = r + size * i := by omega
  have hin : base ≤ off ∧ off < base + size * n := by omega
  rw [blockAt, if_pos hin, hsub, Nat.add_mul_div_left _ _ (by omega), Nat.add_mul_mod_self_left, Nat.div_eq_of_lt hr,
    Nat.mod_eq_of_lt hr, Nat.zero_add]

theorem blockAt_eq_none {base size n off : Nat} (h : off < base ∨ base + size * n ≤ off) : blockAt base size n off = none :=
  if_neg (by omega)

/-- A write to TOUTn_COMMIT by its offset. -/
theorem blockCommitWrite_tout {n : Nat} (hn : n < 8) (v : W32) (s : State) :
    blockCommitWrite (0x012C + 0x40 * n) v s = toutCommit n v s := by
  rw [blockCommitWrite, if_pos (by omega), show (0x012C + 0x40 * n - 0x0100) / 0x40 = n by omega]

/-- A write to TINn_COMMIT by its offset. -/
theorem blockCommitWrite_tin {n : Nat} (hn : n < 8) (v : W32) (s : State) :
    blockCommitWrite (0x0414 + 0x20 * n) v s = tinCommit n v s := by
  rw [blockCommitWrite, if_neg (by omega), if_pos (by omega), show (0x0414 + 0x20 * n - 0x0400) / 0x20 = n by omega]

/-- A write to ARCn_COMMIT by its offset. -/
theorem blockCommitWrite_arc {n : Nat} (hn : n < 32) (v : W32) (s : State) :
    blockCommitWrite (0x8138 + 0x40 * n) v s = arcWrite n (arcCommitWord v) s := by
  rw [blockCommitWrite, if_neg (by omega), if_neg (by omega), if_pos (by omega),
    show (0x8138 + 0x40 * n - 0x8100) / 0x40 = n by omega]

/-! ### What a write of `k` to each W1C register does -/

section
variable (p : HostPort) (k : W32) (s : State)

theorem clearBits_queueStatus {q : Nat} (hq : q < 16) :
    clearBits p .bar0 (0x1014 + 0x40 * q) k s = if nativeBar0 s p then queueWrite p q (queueClear k) s else s := by
  have hb : blockAt 0x1000 0x40 16 (0x1014 + 0x40 * q) = some (q, 0x14) := blockAt_eq_some hq (by decide) (by omega)
  have hirq : ¬ 0x1014 + 0x40 * q = 0x0010 := by omega
  have hwin : ¬ 0x1014 + 0x40 * q = 0x9014 := by omega
  simp [clearBits, hb, hirq, hwin]

theorem clearBits_windowStatus :
    clearBits p .bar0 0x9014 k s =
      if nativeBar0 s p then s else if s.compat.extOpen then queueWrite p 15 (queueClear k) s else s := by
  have hb : blockAt 0x1000 0x40 16 0x9014 = none := blockAt_eq_none (by omega)
  simp [clearBits, hb]

theorem clearBits_urIrqStatus :
    clearBits p .bar0 0x0010 k s =
      if nativeBar0 s p then s else urWrite (fun c => { c with irqStatus := c.irqStatus &&& ~~~(k.setWidth 4) }) s := by
  have hb : blockAt 0x1000 0x40 16 0x0010 = none := blockAt_eq_none (by omega)
  simp [clearBits, hb]

theorem clearBits_toutStatus {n : Nat} (hn : n < 8) :
    clearBits p .bar2 (0x0128 + 0x40 * n) k s =
      if nativeBar0 s p then setTout n { toutOf s n with done := (toutOf s n).done && !k.getLsbD 1 } s else s := by
  have hb : blockAt 0x0100 0x40 8 (0x0128 + 0x40 * n) = some (n, 0x28) := blockAt_eq_some hn (by decide) (by omega)
  simp [clearBits, hb]

theorem clearBits_arcStatus {n : Nat} (hn : n < 32) :
    clearBits p .bar2 (0x8134 + 0x40 * n) k s = if nativeBar0 s p then arcWrite n (arcClear k) s else s := by
  have ht : blockAt 0x0100 0x40 8 (0x8134 + 0x40 * n) = none := blockAt_eq_none (by omega)
  have ha : blockAt 0x8100 0x40 32 (0x8134 + 0x40 * n) = some (n, 0x34) := blockAt_eq_some hn (by decide) (by omega)
  simp [clearBits, ht, ha]

theorem clearBits_arcMatch :
    clearBits p .bar2 0x8008 k s = if nativeBar0 s p then arcMatchClear k s else s := by
  have ht : blockAt 0x0100 0x40 8 0x8008 = none := blockAt_eq_none (by omega)
  have ha : blockAt 0x8100 0x40 32 0x8008 = none := blockAt_eq_none (by omega)
  simp [clearBits, ht, ha]

theorem clearBits_merStatus :
    clearBits p .bar2 0x0044 k s =
      if nativeBar0 s p then
        modMer (fun m => { m with foreignWrite := m.foreignWrite && !k.getLsbD 5, madeUp := m.madeUp && !k.getLsbD 4 }) s
      else s := by
  have ht : blockAt 0x0100 0x40 8 0x0044 = none := blockAt_eq_none (by omega)
  have ha : blockAt 0x8100 0x40 32 0x0044 = none := blockAt_eq_none (by omega)
  simp [clearBits, ht, ha]

theorem clearBits_merCommit :
    clearBits p .bar2 0x0040 k s = if nativeBar0 s p then merCommit (k &&& 0x10000000) s else s := by
  have ht : blockAt 0x0100 0x40 8 0x0040 = none := blockAt_eq_none (by omega)
  have ha : blockAt 0x8100 0x40 32 0x0040 = none := blockAt_eq_none (by omega)
  simp [clearBits, ht, ha]

/-- A BAR2 register with no W1C bits of its own but REFUSED of a BLOCK_COMMIT. -/
theorem clearBits_blockCommit {off : Nat} (ht : ∀ n, blockAt 0x0100 0x40 8 off ≠ some (n, 0x28))
    (ha : ∀ n, blockAt 0x8100 0x40 32 off ≠ some (n, 0x34)) (hstatus : off ≠ 0x0044) (hmatch : off ≠ 0x8008)
    (hcommit : off ≠ 0x0040) :
    clearBits p .bar2 off k s = if nativeBar0 s p then blockCommitWrite off (k &&& 0x10000000) s else s := by
  simp only [clearBits, hstatus, hmatch, hcommit, if_false]

theorem clearBits_toutCommit {n : Nat} (hn : n < 8) :
    clearBits p .bar2 (0x012C + 0x40 * n) k s = if nativeBar0 s p then toutCommit n (k &&& 0x10000000) s else s := by
  have ht : blockAt 0x0100 0x40 8 (0x012C + 0x40 * n) = some (n, 0x2C) := blockAt_eq_some hn (by decide) (by omega)
  have ha : blockAt 0x8100 0x40 32 (0x012C + 0x40 * n) = none := blockAt_eq_none (by omega)
  rw [clearBits_blockCommit p k s (by simp [ht]) (by simp [ha]) (by omega) (by omega) (by omega), blockCommitWrite_tout hn]

theorem clearBits_tinCommit {n : Nat} (hn : n < 8) :
    clearBits p .bar2 (0x0414 + 0x20 * n) k s = if nativeBar0 s p then tinCommit n (k &&& 0x10000000) s else s := by
  have ht : blockAt 0x0100 0x40 8 (0x0414 + 0x20 * n) = none := blockAt_eq_none (by omega)
  have ha : blockAt 0x8100 0x40 32 (0x0414 + 0x20 * n) = none := blockAt_eq_none (by omega)
  rw [clearBits_blockCommit p k s (by simp [ht]) (by simp [ha]) (by omega) (by omega) (by omega), blockCommitWrite_tin hn]

theorem clearBits_arcCommit {n : Nat} (hn : n < 32) :
    clearBits p .bar2 (0x8138 + 0x40 * n) k s =
      if nativeBar0 s p then arcWrite n (arcCommitWord (k &&& 0x10000000)) s else s := by
  have ht : blockAt 0x0100 0x40 8 (0x8138 + 0x40 * n) = none := blockAt_eq_none (by omega)
  have ha : blockAt 0x8100 0x40 32 (0x8138 + 0x40 * n) = some (n, 0x38) := blockAt_eq_some hn (by decide) (by omega)
  rw [clearBits_blockCommit p k s (by simp [ht]) (by simp [ha]) (by omega) (by omega) (by omega), blockCommitWrite_arc hn]

end

/-! ### What each write keeps -/

@[simp] theorem toutOf_setTout (n n' : Nat) (x : Tout) (s : State) :
    toutOf (setTout n x s) n' = if n' = n then x else toutOf s n' := Sparse.get_set _ _ _ _ _

@[simp] theorem tinOf_setTin (n n' : Nat) (x : Tin) (s : State) :
    tinOf (setTin n x s) n' = if n' = n then x else tinOf s n' := Sparse.get_set _ _ _ _ _

/-- A bit of a queue that neither the write nor a foreign one (R55) clears stays set. -/
theorem queueWrite_keeps {bitOf : Queue → Bool} {f : Queue → Queue} {s : State} {q : Nat} (p : HostPort)
    (hforeign : ∀ x : Queue, bitOf x = true → bitOf { x with foreignWrite := true } = true)
    (hf : ∀ x, bitOf x = true → bitOf (f x) = true) (h : bitOf (queueOf s q) = true) :
    bitOf (queueOf (queueWrite p q f s) q) = true := by
  unfold queueWrite
  split
  · rw [queueOf_modQueue, if_pos rfl]
    split
    · exact hf _ h
    · exact hforeign _ h
  · exact h

/-- A bit of an Arc channel that neither the write nor a foreign one (R379) clears stays set. -/
theorem arcWrite_keeps {bitOf : ArcCh → Bool} {f : ArcCh → ArcCh} {s : State} {n : Nat}
    (hforeign : ∀ a : ArcCh, bitOf a = true → bitOf { a with foreignWrite := true } = true)
    (hf : ∀ a, bitOf a = true → bitOf (f a) = true) (h : bitOf (arcOf s n) = true) :
    bitOf (arcOf (arcWrite n f s) n) = true := by
  unfold arcWrite
  split
  · rw [arcOf_setArc, if_pos rfl]
    split
    · exact hforeign _ h
    · exact hf _ h
  · exact h

theorem bit_toNat {w : Nat} (k : BitVec w) (n : Nat) : bit k.toNat n = k.getLsbD n := by
  rw [BitVec.getLsbD, Nat.testBit_eq_decide_div_mod_eq, bit, bits, Nat.pow_one]
  rfl

/-- A write to ARC_MATCH keeps MATCH of the channels it does not name. -/
theorem arcMatchClear_keeps {k : W32} {n : Nat} {s : State} (hk : k.getLsbD n = false) (h : (arcOf s n).matched = true) :
    (arcOf (arcMatchClear k s) n).matched = true := by
  have hnot : n ∉ bitList 32 k.toNat := by simp [bitList, bit_toNat, hk]
  rw [arcMatchClear]
  generalize bitList 32 k.toNat = named at hnot ⊢
  induction named generalizing s with
  | nil => exact h
  | cons m ms ih =>
    obtain ⟨hm, hms⟩ := not_or.mp (hnot ∘ List.mem_cons.mpr)
    exact ih (by rwa [arcOf_setArc, if_neg hm]) hms

/-! ### BLOCK_COMMIT: a write without bit 28 asks nothing -/

theorem commitClear_zero (b : BlockCommit) : commitClear 0#32 b = b := by simp [commitClear]

theorem commitAct_zero (b : BlockCommit) : commitAct 0#32 b = .nothing := by simp [commitAct]

theorem refusedMask_eq_zero {k : W32} (h : k.getLsbD 28 = false) : k &&& 0x10000000 = 0#32 := by
  rw [show (0x10000000 : W32) = BitVec.twoPow 32 28 from rfl, BitVec.and_twoPow, h]; rfl

theorem toutCommit_zero (n : Nat) (s : State) : toutCommit n 0#32 s = setTout n (toutOf s n) s := by
  simp [toutCommit, commitAct_zero, commitClear_zero]

theorem tinCommit_zero (n : Nat) (s : State) : tinCommit n 0#32 s = setTin n (tinOf s n) s := by
  simp [tinCommit, commitAct_zero, commitClear_zero]

theorem arcCommitWord_zero (a : ArcCh) : arcCommitWord 0#32 a = a := by
  simp [arcCommitWord, commitAct_zero, commitClear_zero]

theorem merCommit_zero_commit (s : State) : (merCommit 0#32 s).time.mer.commit = s.time.mer.commit := by
  unfold merCommit
  dsimp only
  split
  · rfl
  · rw [commitAct_zero, commitClear_zero]; rfl

/-! ### A bit that hardware sets stays set -/

/-- R5 for bit `i` of the register at `off`: where hardware sets it in the cycle of the write of `v`, it stays set. -/
def HardwareSetStays (p : HostPort) (v hw : W32) (s : State) (bar : Bar) (off i : Nat) (bitOf : State → Bool) : Prop :=
  hw.getLsbD i = true → bitOf s = true → ∃ t, exec (.w1cClear p bar off v hw) s = .next t ∧ bitOf t = true

/-- The bit lies in the registers, which neither the start of a step nor its frame touches. -/
structure LiesInRegisters (bitOf : State → Bool) : Prop where
  framed_eq : ∀ s t, bitOf (framed false s t) = bitOf t
  begin_eq : ∀ s, bitOf (begin 0 s) = bitOf s

section
variable {p : HostPort} {v hw : W32} {s : State} {off i : Nat}

/-- The idea of R5 in the model: the write reaches the registers without the bits that hardware sets, so a register whose
bit stays while the write has 0 there keeps it. -/
theorem hardwareSetStays_of_clearBits {bar : Bar} {bitOf : State → Bool} (hreg : LiesInRegisters bitOf)
    (hclear : ∀ (k : W32) s, k.getLsbD i = false → bitOf s = true → bitOf (clearBits p bar off k s) = true) :
    HardwareSetStays p v hw s bar off i bitOf := by
  intro hset hbit
  have hk : (v &&& ~~~hw).getLsbD i = false := by simp [hset]
  have hbegin : bitOf (begin 0 s) = true := by rw [hreg.begin_eq, hbit]
  refine ⟨_, rfl, ?_⟩
  rw [hreg.framed_eq]
  dsimp only
  split
  · exact hclear _ _ hk hbegin
  · exact hbegin

/-- A register of BAR2 acts only through the native map. -/
theorem hardwareSetStays_bar2 {bitOf : State → Bool} {write : W32 → State → State} (hreg : LiesInRegisters bitOf)
    (heq : ∀ k s, clearBits p .bar2 off k s = if nativeBar0 s p then write k s else s)
    (hkeep : ∀ (k : W32) s, k.getLsbD i = false → bitOf s = true → bitOf (write k s) = true) :
    HardwareSetStays p v hw s .bar2 off i bitOf := by
  refine hardwareSetStays_of_clearBits hreg fun k s hk h => ?_
  rw [heq]
  split
  · exact hkeep k s hk h
  · exact h

/-- MQq_STATUS, in the native map or through the extension window. -/
theorem queueBit_stays {q : Nat} (bitOf : Queue → Bool) (hoff : q < 16 ∧ off = 0x1014 + 0x40 * q ∨ q = 15 ∧ off = 0x9014)
    (hforeign : ∀ x : Queue, bitOf x = true → bitOf { x with foreignWrite := true } = true)
    (hclear : ∀ (k : W32) x, k.getLsbD i = false → bitOf x = true → bitOf (queueClear k x) = true) :
    HardwareSetStays p v hw s .bar0 off i (fun t => bitOf (queueOf t q)) := by
  refine hardwareSetStays_of_clearBits ⟨fun _ _ => rfl, fun _ => rfl⟩ fun k s hk h => ?_
  have hwrite := queueWrite_keeps p hforeign (hclear k · hk) h
  obtain ⟨hq, rfl⟩ | ⟨rfl, rfl⟩ := hoff
  · rw [clearBits_queueStatus p k s hq]
    split <;> assumption
  · rw [clearBits_windowStatus]
    split
    · exact h
    · split <;> assumption

theorem urIrqStatusBit_stays (hi : i < 4) :
    HardwareSetStays p v hw s .bar0 0x0010 i (fun t => t.compat.irqStatus.getLsbD i) := by
  refine hardwareSetStays_of_clearBits ⟨fun _ _ => rfl, fun _ => rfl⟩ fun k s hk h => ?_
  rw [clearBits_urIrqStatus, urWrite]
  split
  · exact h
  · split
    · simp [hk, h, hi]
    · exact h

theorem toutDone_stays {n : Nat} (hn : n < 8) :
    HardwareSetStays p v hw s .bar2 (0x0128 + 0x40 * n) 1 (fun t => (toutOf t n).done) := by
  refine hardwareSetStays_bar2 ⟨fun _ _ => rfl, fun _ => rfl⟩ (clearBits_toutStatus p · · hn) fun k s hk h => ?_
  simpa [h] using hk

theorem toutRefused_stays {n : Nat} (hn : n < 8) :
    HardwareSetStays p v hw s .bar2 (0x012C + 0x40 * n) 28 (fun t => (toutOf t n).commit.refused) := by
  refine hardwareSetStays_bar2 ⟨fun _ _ => rfl, fun _ => rfl⟩ (clearBits_toutCommit p · · hn) fun k s hk h => ?_
  rw [refusedMask_eq_zero hk, toutCommit_zero]
  simpa using h

theorem tinRefused_stays {n : Nat} (hn : n < 8) :
    HardwareSetStays p v hw s .bar2 (0x0414 + 0x20 * n) 28 (fun t => (tinOf t n).commit.refused) := by
  refine hardwareSetStays_bar2 ⟨fun _ _ => rfl, fun _ => rfl⟩ (clearBits_tinCommit p · · hn) fun k s hk h => ?_
  rw [refusedMask_eq_zero hk, tinCommit_zero]
  simpa using h

/-- ARCn_STATUS. -/
theorem arcStatusBit_stays {n : Nat} (hn : n < 32) (bitOf : ArcCh → Bool)
    (hforeign : ∀ a : ArcCh, bitOf a = true → bitOf { a with foreignWrite := true } = true)
    (hclear : ∀ (k : W32) a, k.getLsbD i = false → bitOf a = true → bitOf (arcClear k a) = true) :
    HardwareSetStays p v hw s .bar2 (0x8134 + 0x40 * n) i (fun t => bitOf (arcOf t n)) :=
  hardwareSetStays_bar2 ⟨fun _ _ => rfl, fun _ => rfl⟩ (clearBits_arcStatus p · · hn) fun k _ hk h =>
    arcWrite_keeps hforeign (hclear k · hk) h

theorem arcMatch_stays {n : Nat} : HardwareSetStays p v hw s .bar2 0x8008 n (fun t => (arcOf t n).matched) :=
  hardwareSetStays_bar2 ⟨fun _ _ => rfl, fun _ => rfl⟩ (clearBits_arcMatch p) fun _ _ hk h => arcMatchClear_keeps hk h

theorem arcRefused_stays {n : Nat} (hn : n < 32) :
    HardwareSetStays p v hw s .bar2 (0x8138 + 0x40 * n) 28 (fun t => (arcOf t n).commit.refused) := by
  refine hardwareSetStays_bar2 ⟨fun _ _ => rfl, fun _ => rfl⟩ (clearBits_arcCommit p · · hn) fun k s hk h => ?_
  rw [refusedMask_eq_zero hk]
  exact arcWrite_keeps (bitOf := (·.commit.refused)) (fun _ ha => ha) (fun a ha => by rwa [arcCommitWord_zero]) h

theorem merForeignWrite_stays : HardwareSetStays p v hw s .bar2 0x0044 5 (fun t => t.time.mer.foreignWrite) := by
  refine hardwareSetStays_bar2 ⟨fun _ _ => rfl, fun _ => rfl⟩ (clearBits_merStatus p) fun k s hk h => ?_
  simpa [modMer, h] using hk

theorem merMadeUp_stays : HardwareSetStays p v hw s .bar2 0x0044 4 (fun t => t.time.mer.madeUp) := by
  refine hardwareSetStays_bar2 ⟨fun _ _ => rfl, fun _ => rfl⟩ (clearBits_merStatus p) fun k s hk h => ?_
  simpa [modMer, h] using hk

theorem merRefused_stays : HardwareSetStays p v hw s .bar2 0x0040 28 (fun t => t.time.mer.commit.refused) := by
  refine hardwareSetStays_bar2 ⟨fun _ _ => rfl, fun _ => rfl⟩ (clearBits_merCommit p) fun k s hk h => ?_
  rwa [refusedMask_eq_zero hk, merCommit_zero_commit]

end

/-- Settles O58, register by register: the write that reaches a W1C register lacks the bits that hardware sets. -/
theorem hardwareSetBitStays : Obligations.HardwareSetBitStays := by
  unfold Obligations.HardwareSetBitStays
  intro p v hw s after
  refine ⟨fun q off hoff => ⟨?_, ?_, ?_, ?_⟩, fun i hi => urIrqStatusBit_stays hi,
    fun n hn => ⟨toutDone_stays hn, toutRefused_stays hn, tinRefused_stays hn⟩,
    fun n hn => ⟨?_, ?_, ?_, ?_, arcMatch_stays, arcRefused_stays hn⟩,
    merForeignWrite_stays, merMadeUp_stays, merRefused_stays⟩
  · exact queueBit_stays (·.dbErr) hoff (fun _ h => h) (fun k x hk h => by simpa [queueClear, h] using hk)
  · exact queueBit_stays (·.fetchErr) hoff (fun _ h => h) (fun k x hk h => by simpa [queueClear, h] using hk)
  · exact queueBit_stays (·.cqWriteErr) hoff (fun _ h => h) (fun k x hk h => by simpa [queueClear, h] using hk)
  · exact queueBit_stays (·.foreignWrite) hoff (fun _ _ => rfl) (fun k x hk h => by simpa [queueClear, h] using hk)
  · exact arcStatusBit_stays hn (·.matched) (fun _ h => h) (fun k a hk h => by simpa [arcClear, h] using hk)
  · exact arcStatusBit_stays hn (·.capOverrun) (fun _ h => h) (fun k a hk h => by simpa [arcClear, h] using hk)
  · exact arcStatusBit_stays hn (·.late) (fun _ h => h) (fun k a hk h => by simpa [arcClear, h] using hk)
  · exact arcStatusBit_stays hn (·.foreignWrite) (fun _ _ => rfl) (fun k a hk h => by simpa [arcClear, h] using hk)

end Sys2Proof.Machine
end

section
/-!
PROOF of O59 (R28, Table 2.1): the codes of modes and life-cycle states, and bytes 10 and 11 of the reply of SYS_IDENTIFY
(R475, Table 18.6).
-/
namespace Sys2Proof.Machine

/-! ### Codes -/

/-- A mode's code fits the byte in which it is reported. -/
theorem Mode.code_lt (m : Mode) : m.code < 256 := by cases m <;> decide

/-- A life-cycle state's code fits the byte in which it is reported. -/
theorem LifeCycle.code_lt (l : LifeCycle) : l.code < 256 := by cases l <;> decide

/-- OFF alone has the code 0x00. -/
@[simp] theorem Mode.code_eq_zero_iff (m : Mode) : m.code = 0x00 ↔ m = .off := by cases m <;> decide

/-- The mailboxes do not run in OFF (Table 2.6), so no command reports it. -/
theorem mode_ne_off_of_served {s : State} {q : Nat} (h : served s q = true) : s.mode.mode ≠ .off := by
  intro hoff
  simp [served, hoff, Mode.mailboxes] at h

/-! ### SYS_IDENTIFY -/

@[simp] theorem identifyBytes_lifecycle (s : State) : byteAt (identifyBytes s) 10 = s.mode.lifecycle.code := by
  have hbyte : byteAt (identifyBytes s) 10 = s.mode.lifecycle.code % 256 := rfl
  rw [hbyte, Nat.mod_eq_of_lt (LifeCycle.code_lt _)]

@[simp] theorem identifyBytes_mode (s : State) : byteAt (identifyBytes s) 11 = s.mode.mode.code := by
  have hbyte : byteAt (identifyBytes s) 11 = s.mode.mode.code % 256 := rfl
  rw [hbyte, Nat.mod_eq_of_lt (Mode.code_lt _)]

/-- SYS_IDENTIFY answers with its reply of Table 18.6 and changes nothing else. -/
theorem sysIdentify_does {e : Entry} {s : State} (h : CmdRuns (.sysIdentify e) s) :
    Does (.sysIdentify e) e s (identifyBytes s) s :=
  completes_read (op := opRead 0x0101 0) (h := fun _ s => .ok (identifyBytes s) s) rfl rfl h rfl rfl (by decide) (by decide) rfl

/-- Settles O59: the codes by Table 2.1; the reply through `sysIdentify_does`, and OFF by the mode in which the command is served. -/
theorem modesAndLifeCycleAreEncoded : Obligations.ModesAndLifeCycleAreEncoded := by
  unfold Obligations.ModesAndLifeCycleAreEncoded
  refine ⟨rfl, rfl, fun e s hruns => ?_⟩
  obtain ⟨t, hexec, hanswered, -⟩ := sysIdentify_does hruns
  obtain ⟨⟨-, hserved, -⟩, -⟩ := hruns
  refine ⟨t, identifyBytes s, hexec, hanswered, identifyBytes_lifecycle s, identifyBytes_mode s, ?_⟩
  rw [identifyBytes_mode, ne_eq, Mode.code_eq_zero_iff]
  exact mode_ne_off_of_served hserved

end Sys2Proof.Machine
end
